-- ==== Sys2Proof/Word.lean ====
section
/-! DEFINITION. The words and indices of the SF1203: bytes of a frame, the small index sets of the part
(twelve channels, three trunks, four host ports, four demand lines), and nothing that a repair could have to mend. -/

namespace Sys2Proof

/-- One byte of a frame or of a record (Chapter 11). -/
abbrev Byte := BitVec 8

/-- A load channel, CH0 to CH11. -/
abbrev Channel := Fin 12

/-- A feed trunk, FT0 to FT2. -/
abbrev Trunk := Fin 3

/-- A host port, HP0 to HP3. -/
abbrev Port := Fin 4

/-- A demand line, DL0 to DL3. -/
abbrev Line := Fin 4

end Sys2Proof
end

