-- ==== Sys2Proof/Config.lean ====
section
/-! DEFINITION. What the SF1203 fixes once for all: the heat levels of Table 1-3, the fixed times, the part code;
and the one value that the spec leaves open (how a part of a millisecond is reported), which is opaque. -/

namespace Sys2Proof.Config

/-- COOL: TRUNK CLEAR is taken only below this level (Table 1-3). -/
def cool : Nat := 262144
/-- H after power-on reset (Table 1-3, R2). -/
def coldStart : Nat := 393216
/-- WARM: admission closes at or above this level (Table 1-3). -/
def warm : Nat := 524288
/-- SHED: shedding begins at or above this level (Table 1-3). -/
def shed : Nat := 1048576
/-- HARD: the trunk trips at or above this level (Table 1-3). -/
def hard : Nat := 1310720
/-- CEILING: H saturates at this level (Table 1-3). -/
def ceiling : Nat := 2097151

/-- One millisecond, in the microseconds in which every timer of the model counts. -/
def msec : Nat := 1000
/-- The budget interval of each trunk, 1 ms (R6). -/
def budgetInterval : Nat := 1 * msec
/-- The shed interval, 20 ms (R93). -/
def shedInterval : Nat := 20 * msec
/-- The ON-stable run, 1,000 ms (R44). -/
def onStable : Nat := 1000 * msec
/-- The debounce time of a demand line, 2 ms (R119). -/
def debounce : Nat := 2 * msec
/-- The concurrence window, 250 ms (R144). -/
def window : Nat := 250 * msec
/-- The period of the current sampler, 1 ms (R109). -/
def currentPeriod : Nat := 1 * msec
/-- The distance of two output-sampling instants, 250 µs (R110). -/
def voltagePeriod : Nat := 250

/-- The largest sample of a current in mA and of a voltage in mV (R109 to R111). -/
def sampleMax : Nat := 65535
/-- The capacity of a notice queue (R169). -/
def noticeCapacity : Nat := 16
/-- The overdraw run that raises a reservation (R21). -/
def overdrawRun : Nat := 16
/-- The fault count that locks a channel out (R43). -/
def lockoutFaults : Nat := 3

/-- The part code that READ IDENT returns (R165). -/
def partCode : BitVec 16 := 0x1203#16
/-- The revision that READ IDENT returns (R165). -/
def revision : Byte := 0x01#8

/-- FREE VALUE (log entry 6). A timer of the part is reported in whole ms "left" (Tables 11-8, 11-10, 11-11), and the
spec does not say whether a part of a millisecond is dropped or counted whole. For a time left of so many µs that is no
whole number of ms, this says whether the report is rounded up. It has no body: nothing can be proved of it. -/
opaque roundsUp : Nat → Bool

end Sys2Proof.Config
end

