-- ==== Sys2Proof/Syntax.lean ====
section
/-! DEFINITION. The vocabulary of the SF1203 (states, causes, profiles, notices) and its commands: `Instr` has one
constructor for each row of spec/opcode_table.json. A command is a step of the part: a reset, a select window of a host
port, the expiry of a timer, a sample, or the taking of a message that one block has sent to another. -/

namespace Sys2Proof

/-- The nine channel states (Table 2-3), under the spec's names. -/
inductive ChanState where
  | FREE | IDLE | QUEUED | PROBE | FILL | ON | INHIBITED | SHED | FAULTED
  deriving DecidableEq, Repr

/-- The state an Admission Unit claim carries: the state in which the Lease Manager takes it (R47). -/
inductive Found where
  | IDLE | SHED | QUEUED
  deriving DecidableEq, Repr

/-- The trunk states (Table 1-1). -/
inductive TrunkState where
  | NORMAL | WARM | SHEDDING | TRIPPED
  deriving DecidableEq, Repr

/-- The standing of a host port (Table 9-1; also the two port views, R29 and R145). -/
inductive PortState where
  | DOWN | LIVE | LAPSED
  deriving DecidableEq, Repr

/-- The device phase (R130). -/
inductive Phase where
  | COMMISSION | SERVICE
  deriving DecidableEq, Repr

/-- The orphan policy of a port-held lease, with the successor of a HAND lease (R28). -/
inductive Orphan where
  | KEEP
  | DROP
  | HAND (successor : Port)
  deriving DecidableEq, Repr

/-- The holder of a lease: a port with the stamped epoch, or a demand line (R27). -/
inductive Holder where
  | port (p : Port) (epoch : BitVec 16)
  | line (l : Line)
  deriving DecidableEq, Repr

/-- The response status codes (Table 9-6). -/
inductive Status where
  | OK | ACCEPTED | NONE | EMPTY | BAD_FRAME | BAD_ARGUMENT | NOT_OPEN | WRONG_PHASE | STATE | NOT_PERMITTED | HELD
  | LOCKED_OUT | NOT_LAPSED | NO_HEADROOM | FAULTED | TRUNK_TRIPPED | NOT_COOL | INCOMPLETE | SLOT_BUSY | NO_PROPOSAL
  | SELF_CONCUR
  deriving DecidableEq, Repr

/-- Why a channel is FAULTED (Table 2-1). -/
inductive FaultCause where
  | SHORT | PRECHARGE_SHORT | PRECHARGE_TIMEOUT
  deriving DecidableEq, Repr

/-- Why a channel is SHED (Table 2-1). -/
inductive ShedCause where
  | SHED | TRIP
  deriving DecidableEq, Repr

/-- Why a proposal was withdrawn (R143, R145). -/
inductive WithdrawCause where
  | WITHDRAW | LAPSE | CLOSE
  deriving DecidableEq, Repr

/-- The proposal kinds (Table 8-6). -/
inductive ProposalKind where
  | TRUNK_PROFILE | CHANNEL_PROFILE | LINE_BINDING | RELEASE_LOCKOUT
  deriving DecidableEq, Repr

/-- The 19 notice kinds (Table 10-2). -/
inductive NoticeKind where
  | GRANTED | ENERGIZED | SHED | TRIPPED | CLEARED | FAULT | LOCKOUT | OVERDRAW | INHIBITED | RESUMED | WAIT_EXPIRED
  | QUEUE_FLUSHED | LEASE_HANDED | LEASE_ADOPTED | PROPOSAL | APPLIED | REFUSED | WITHDRAWN | EXPIRED
  deriving DecidableEq, Repr

/-- What a notice is about (Table 10-1). -/
inductive Subject where
  | channel (c : Channel)
  | trunk (t : Trunk)
  | proposal (n : BitVec 16)
  deriving DecidableEq, Repr

/-- The cause of a notice, an item of the list its kind names (Table 10-2). -/
inductive NoticeCause where
  | shed (c : ShedCause)
  | fault (c : FaultCause)
  | withdraw (c : WithdrawCause)
  | kind (k : ProposalKind)
  | status (st : Status)
  deriving DecidableEq, Repr

/-- The value of a notice (Table 10-1). -/
inductive NoticeValue where
  | heat (hu : Nat)
  | current (mA : Nat)
  | count (n : Nat)
  | port (p : Port)
  | line (l : Line)
  | state (st : ChanState)
  deriving DecidableEq, Repr

/-- A notice as the posting block supplies it (R166); the Port Unit adds the sequence number. -/
structure Notice where
  kind : NoticeKind
  subject : Subject
  cause : Option NoticeCause
  value : Option NoticeValue
  deriving DecidableEq, Repr

/-- The blocks that post notices (Table 10-2); one block's copies keep their order (R169). -/
inductive Block where
  | admissionUnit | leaseManager | budgetUnit | lineUnit | configurationUnit
  deriving DecidableEq, Repr

/-- A trunk profile (Table 8-2): rating in mA, t_nom in ms, the exponent k, the overdraw margin in %. -/
structure TrunkProfile where
  rating : Nat
  tNom : Nat
  k : Nat
  margin : Nat
  deriving DecidableEq, Repr

/-- The precharge fields of a staged channel profile (Table 4-1); the allowance in mA, every time in µs. -/
structure Precharge where
  allowance : Nat
  probePeriod : Nat
  probeOn : Nat
  pulseLimit : Nat
  target : Nat
  fillPeriod : Nat
  fillOn : Nat
  fillTimeout : Nat
  deriving DecidableEq, Repr

/-- A channel profile (Table 8-3). A trunk of `none` is UNUSED; the staged flag is set exactly when the precharge
fields are present (R73). The hard-short limit is in mA. -/
structure ChannelProfile where
  trunk : Option Trunk
  mask : BitVec 4
  limit : Nat
  precharge : Option Precharge
  deriving DecidableEq, Repr

/-- A line binding (Table 8-4); the ASSIST current in mA. -/
inductive Binding where
  | NONE
  | ASSIST (c : Channel) (current : Nat) (priority : Nat)
  | VETO (c : Channel)
  deriving DecidableEq, Repr

/-! ### The fields of a request frame, as the bytes carry them (Tables 11-3 and 11-5) -/

/-- What every request frame has: the port it arrives at, its tag, and the bytes the host clocks in after the CRC byte,
which are ignored (R152) but lengthen the window. -/
structure Req where
  port : Port
  tag : Byte
  trail : List Byte
  deriving DecidableEq, Repr

/-- The trunk profile block of Table 11-5. -/
structure TrunkBlock where
  trunk : Byte
  rating : BitVec 16
  tNom : BitVec 16
  k : Byte
  margin : Byte
  deriving DecidableEq, Repr

/-- The precharge part of the channel profile block of Table 11-5. -/
structure PrechargeBlock where
  allowance : BitVec 16
  probePeriod : Byte
  probeOn : Byte
  pulseLimit : Byte
  target : Byte
  fillPeriod : Byte
  fillOn : Byte
  fillTimeout : Byte
  deriving DecidableEq, Repr

/-- The channel profile block of Table 11-5; the staged flag byte is 1 exactly when the precharge part is present. -/
structure ChannelBlock where
  channel : Byte
  trunk : Byte
  mask : Byte
  limit : BitVec 16
  precharge : Option PrechargeBlock
  deriving DecidableEq, Repr

/-- The part of a line binding block that its mode byte selects (Table 11-5). -/
inductive LineBody where
  | NONE
  | ASSIST (channel : Byte) (current : BitVec 16) (priority : Byte)
  | VETO (channel : Byte)
  deriving DecidableEq, Repr

/-- The line binding block of Table 11-5. -/
structure LineBlock where
  line : Byte
  body : LineBody
  deriving DecidableEq, Repr

/-- The payload of PROPOSE: the block that the kind byte selects (R176). -/
inductive ProposeBlock where
  | trunk (b : TrunkBlock)
  | channel (b : ChannelBlock)
  | line (b : LineBlock)
  | lockout (channel : Byte)
  deriving DecidableEq, Repr

/-! ### What the messages between blocks carry -/

/-- Where a profile or binding claim comes from: a direct write of a port in COMMISSION (R131), or the apply of a
proposal in SERVICE (R141). -/
inductive Origin where
  | write (p : Port)
  | apply
  deriving DecidableEq, Repr

/-- The first failed condition of an admission claim (R14). -/
inductive AdmissionRefusal where
  | notNormal | noHeadroom | slotOccupied
  deriving DecidableEq, Repr

/-- The change of a session report (R145). -/
inductive SessionChange where
  | OPEN | LAPSE | CLOSE
  deriving DecidableEq, Repr

/-- The two claims an ASSIST line can have in hand (Table 7-1). -/
inductive LineClaimKind where
  | CLAIM | RELEASE
  deriving DecidableEq, Repr

/-- The commands of the SF1203, one constructor for each row of spec/opcode_table.json. -/
inductive Instr where
  -- resets (R2, R178, R179)
  | powerOnReset
  | nrstReset
  | resetRelease (selected : List Port)
  -- select windows that carry no request of their own (R149 to R153, R176): the port and the bytes clocked in
  | idleWindow (p : Port) (bytes : List Byte)
  | turnaroundWindow (p : Port) (bytes : List Byte)
  | badFrame (p : Port) (bytes : List Byte)
  | replay (p : Port) (bytes : List Byte)
  | unknownCodeFrame (p : Port) (bytes : List Byte)
  -- the owner's answer reaches the Port Unit (R155)
  | responseReady (p : Port) (status : Status) (payload : List Byte)
  -- requests of a host port (Table 11-3)
  | openPort (r : Req) (period : Byte)
  | closePort (r : Req)
  | ping (r : Req)
  | readPort (r : Req) (port : Byte)
  | readIdent (r : Req)
  | readNotice (r : Req)
  | claim (r : Req) (channel : Byte) (current : BitVec 16) (priority policy successor wait : Byte)
  | release (r : Req) (channel : Byte)
  | adopt (r : Req) (channel : Byte)
  | energize (r : Req) (channel : Byte)
  | deEnergize (r : Req) (channel : Byte)
  | clearFault (r : Req) (channel : Byte)
  | restate (r : Req) (channel : Byte) (current : BitVec 16)
  | readChannel (r : Req) (channel : Byte)
  | trunkClear (r : Req) (trunk : Byte)
  | readTrunk (r : Req) (trunk : Byte)
  | trunkProfileWrite (r : Req) (b : TrunkBlock)
  | channelProfileWrite (r : Req) (b : ChannelBlock)
  | lineBindingWrite (r : Req) (b : LineBlock)
  | closeCommissioning (r : Req)
  | propose (r : Req) (b : ProposeBlock)
  | concur (r : Req) (number : BitVec 16)
  | withdraw (r : Req) (number : BitVec 16)
  | readProposal (r : Req)
  -- sessions (R162, R39 to R41, R145) and proposals (R144, R141)
  | supervisionExpiry (p : Port)
  | openClaim (p : Port) (epoch : BitVec 16)
  | lapseClaim (p : Port)
  | closeClaim (p : Port)
  | sessionReport (p : Port) (change : SessionChange)
  | windowTimerExpiry
  | applyAnswer (taken : Bool)
  -- profile and binding claims (R4, R5, R51, R129, R45, R120)
  | trunkProfileClaim (o : Origin) (t : Trunk) (new : TrunkProfile)
  | channelProfileClaim (o : Origin) (c : Channel) (new : ChannelProfile)
  | bindingClaim (o : Origin) (l : Line) (new : Binding)
  | lockoutReleaseClaim (c : Channel)
  | servicePhaseReport
  -- heat, shedding and trip (Chapters 1 and 5)
  | budgetIntervalExpiry (t : Trunk)
  | shedIntervalExpiry (t : Trunk)
  | shedClaim (t : Trunk) (c : Channel)
  | shedAnswer (t : Trunk) (c : Channel) (taken : Bool)
  | tripClaim (t : Trunk) (c : Channel) (heat : Nat) (confirmation : Bool)
  | tripClaimAnswer (t : Trunk) (c : Channel) (heat : Nat) (confirmation : Bool) (taken : Bool)
  -- reservations (1.5)
  | admissionClaim (pass : Bool) (t : Trunk) (c : Channel) (need : Nat) (staged : Bool)
  | returnClaim (c : Channel)
  | completionLowering (c : Channel)
  | restatedReservation (c : Channel) (old new : Nat)
  | admissionConfirmation (t : Trunk) (c : Channel)
  -- admission (Chapter 3)
  | lineEnergize (c : Channel) (holder : Holder) (resumed : Bool)
  | arrivalAdmissionAnswer (t : Trunk) (c : Channel) (need : Nat) (refusal : Option AdmissionRefusal)
  | queueEntryClaim (c : Channel) (found : Found)
  | queueEntryAnswer (c : Channel) (left : ChanState) (ahead : Option Nat)
  | withholdClaim (c : Channel) (found : Found)
  | admitClaim (t : Trunk) (c : Channel) (found : Found) (stamp : BitVec 32) (need : Nat)
  | admitClaimAnswer (t : Trunk) (c : Channel) (found : Found) (need : Nat) (left : ChanState) (taken : Bool)
  | serviceEvent (t : Trunk)
  | passAdmissionAnswer (t : Trunk) (c : Channel) (need : Nat) (refusal : Option AdmissionRefusal)
  | removalClaim (c : Channel)
  | waitLimitExpiry (c : Channel)
  | waitExpiryClaim (c : Channel)
  | queueFlush (t : Trunk) (heat : Nat)
  | flushClaim (c : Channel) (heat : Nat)
  -- staged energizing (Chapter 4)
  | start (c : Channel)
  | probePeriodExpiry (t : Trunk)
  | advanceClaim (c : Channel)
  | advanceAnswer (c : Channel) (taken : Bool)
  | fillPeriodExpiry (t : Trunk)
  | outputVoltageSample (c : Channel) (vout : Nat)
  | fillTimerExpiry (t : Trunk)
  | completionClaim (c : Channel)
  | completionAnswer (c : Channel) (taken : Bool)
  | prechargeFailureClaim (c : Channel) (cause : FaultCause)
  | failureAnswer (c : Channel) (taken : Bool)
  | abort (c : Channel)
  -- sense path and drivers (Chapter 6): sensed currents in µA over equal parts of the sample period, voltages in µV
  | pulseCommand (c : Channel) (onTime : Nat)
  | pulseEnd (c : Channel) (vo : Int)
  | currentSample (sensed : Vector (List Int) 12)
  | sampleInstant (vo : Vector Int 12) (vf : Vector Int 3)
  | shortDetection (c : Channel) (current : Nat)
  | shortDetectionTaken (c : Channel)
  | onStableExpiry (c : Channel)
  -- demand lines (Chapter 7)
  | rawLevelChange (l : Line) (high : Bool)
  | debounceExpiry (l : Line)
  | lineClaim (l : Line) (c : Channel) (current : Nat) (priority : Nat)
  | lineRelease (l : Line) (c : Channel)
  | lineClaimAnswer (l : Line) (kind : LineClaimKind) (taken : Bool)
  | inhibitClaim (l : Line) (c : Channel)
  | resumeClaim (l : Line) (c : Channel)
  | lineEnergizeResponse (c : Channel) (resumed : Bool) (status : Status) (state : ChanState)
  | freeReport (c : Channel)
  | lineLeaseEnded (l : Line)
  -- notices (R168)
  | noticeCopyTaken (sender : Block) (p : Port) (n : Notice)
  -- answers of the rows added last
  | restatedReservationAnswer (c : Channel) (taken : Bool)
  | withholdAnswer (c : Channel) (left : ChanState) (taken : Bool)
  deriving DecidableEq, Repr

end Sys2Proof
end

