-- ==== Sys2Proof/WellFormed.lean ====
section
/-! DEFINITION. Well-formed commands: the bytes of a select window are those of the row's kind of window, and the
fields of an internal message lie in the ranges that the tables of the spec give them. The raw fields of a request
frame are NOT restricted: a value out of range is a request all the same, answered BAD_ARGUMENT by its owner (R176). -/

namespace Sys2Proof

/-- A declared current, or an ASSIST current: 100–65,500 mA in 100 mA steps (Table 2-1, Table 7-1). -/
def currentOk (mA : Nat) : Bool := decide (100 ≤ mA) && decide (mA ≤ 65500) && decide (mA % 100 = 0)

/-- A priority: 0–7 (Table 2-1). -/
def priorityOk (n : Nat) : Bool := decide (n ≤ 7)

/-- Heat: 0–2,097,151 hu (Table 1-1). -/
def heatOk (hu : Nat) : Bool := decide (hu ≤ Config.ceiling)

/-- The ranges of Table 8-2. -/
def TrunkProfile.ok (p : TrunkProfile) : Bool :=
  decide (1000 ≤ p.rating) && decide (p.rating ≤ 250000) && decide (p.rating % 100 = 0)
    && decide (10 ≤ p.tNom) && decide (p.tNom ≤ 65535) && decide (4 ≤ p.k) && decide (p.k ≤ 16)
    && decide (10 ≤ p.margin) && decide (p.margin ≤ 100) && decide (p.margin % 10 = 0)

/-- The ranges of Table 4-1, and the fill on-time below the fill period (R73). -/
def Precharge.ok (p : Precharge) : Bool :=
  currentOk p.allowance
    && decide (2000 ≤ p.probePeriod) && decide (p.probePeriod ≤ 8000) && decide (p.probePeriod % 500 = 0)
    && decide (1 ≤ p.probeOn) && decide (p.probeOn ≤ 255)
    && decide (4 ≤ p.pulseLimit) && decide (p.pulseLimit ≤ 40)
    && decide (1 ≤ p.target) && decide (p.target ≤ 15)
    && decide (50 ≤ p.fillPeriod) && decide (p.fillPeriod ≤ 4000) && decide (p.fillPeriod % 50 = 0)
    && decide (1 ≤ p.fillOn) && decide (p.fillOn ≤ 255) && decide (p.fillOn < p.fillPeriod)
    && decide (10000 ≤ p.fillTimeout) && decide (p.fillTimeout ≤ 2550000) && decide (p.fillTimeout % 10000 = 0)

/-- The ranges of Table 8-3 with Table 4-1. -/
def ChannelProfile.ok (p : ChannelProfile) : Bool :=
  decide (1000 ≤ p.limit) && decide (p.limit ≤ 65500) && decide (p.limit % 100 = 0) && p.precharge.all Precharge.ok

/-- The ranges of Table 8-4. -/
def Binding.ok : Binding → Bool
  | .NONE => true
  | .ASSIST _ cur prio => currentOk cur && priorityOk prio
  | .VETO _ => true

/-- A window that begins with the sync byte of a request frame (R152). -/
def startsFrame (bytes : List Byte) : Bool := decide (bytes.head? = some 0xA5#8)

/-- The well-formedness of a command (the rules of each field stand at the definitions above). -/
def Instr.wellFormed : Instr → Bool
  | .idleWindow _ bytes => !startsFrame bytes
  | .badFrame _ bytes => startsFrame bytes
  | .replay _ bytes => startsFrame bytes
  | .unknownCodeFrame _ bytes => startsFrame bytes
  | .responseReady _ _ payload => decide (payload.length ≤ 24)
  | .trunkProfileClaim _ _ new => new.ok
  | .channelProfileClaim _ _ new => new.ok
  | .bindingClaim _ _ new => new.ok
  | .tripClaim _ _ heat _ => heatOk heat
  | .tripClaimAnswer _ _ heat _ _ => heatOk heat
  | .admissionClaim _ _ _ need _ => currentOk need
  | .restatedReservation _ old new => currentOk old && currentOk new
  | .queueEntryAnswer _ _ ahead => ahead.all fun n => decide (n ≤ 11)
  | .queueFlush _ heat => heatOk heat
  | .flushClaim _ heat => heatOk heat
  | .outputVoltageSample _ vout => decide (vout ≤ Config.sampleMax)
  | .prechargeFailureClaim _ cause => decide (cause ≠ .SHORT)
  | .pulseCommand _ onTime => decide (1 ≤ onTime) && decide (onTime ≤ 255)
  | .lineClaim _ _ cur prio => currentOk cur && priorityOk prio
  | _ => true

end Sys2Proof
end

