-- ==== Sys2Proof/Decode.lean ====
section
/-! DEFINITION. The frames of a host port (Chapter 11): the CRC-8, the check of a request frame (R152), the decoder of
a request from its code and payload (Tables 11-3 and 11-5, R176), total on any bytes, and after it the encoder.
`decodeTableWord` is the decoder over spec/opcode_table.json, whose rows give no bits. -/

namespace Sys2Proof

/-! ### Byte order (R175: every multi-byte field most significant byte first) -/

/-- The two bytes of a 16-bit field, most significant first. -/
def be16 (w : BitVec 16) : List Byte := [w.extractLsb' 8 8, w.extractLsb' 0 8]

/-- The 16-bit field that two bytes carry. -/
def word16 (hi lo : Byte) : BitVec 16 := hi ++ lo

/-- The two bytes of a number below 2^16. -/
def nat16 (n : Nat) : List Byte := be16 (BitVec.ofNat 16 n)

/-- The three bytes of a number below 2^24, most significant first (heat and notice values). -/
def nat24 (n : Nat) : List Byte := [BitVec.ofNat 8 (n / 65536), BitVec.ofNat 8 (n / 256), BitVec.ofNat 8 n]

/-- The four bytes of a 32-bit field, most significant first (the energize time stamp). -/
def be32 (w : BitVec 32) : List Byte :=
  [w.extractLsb' 24 8, w.extractLsb' 16 8, w.extractLsb' 8 8, w.extractLsb' 0 8]

/-! ### The CRC-8 (R175) -/

/-- One shift of the CRC register: left by one, with 0x07 added when the bit shifted out was 1. -/
def crcShift (r : Byte) : Byte := if r.msb then (r <<< 1) ^^^ 0x07#8 else r <<< 1

/-- One covered byte: exclusive OR, then eight shifts. -/
def crcByte (r b : Byte) : Byte :=
  crcShift (crcShift (crcShift (crcShift (crcShift (crcShift (crcShift (crcShift (r ^^^ b))))))))

/-- The CRC-8 of the covered bytes, from the initial value 0xFF. -/
def crc8 (covered : List Byte) : Byte := covered.foldl crcByte 0xFF#8

/-! ### Frames (Table 11-1) -/

/-- The covered bytes of a frame: tag, code or status, length and payload. -/
def covered (tag code : Byte) (payload : List Byte) : List Byte :=
  tag :: code :: BitVec.ofNat 8 payload.length :: payload

/-- A frame with the given sync byte. -/
def frame (sync tag code : Byte) (payload : List Byte) : List Byte :=
  sync :: (covered tag code payload ++ [crc8 (covered tag code payload)])

/-- A request frame: sync 0xA5. -/
def requestFrame (tag code : Byte) (payload : List Byte) : List Byte := frame 0xA5#8 tag code payload

/-- What the Port Unit finds in the bytes of a window (R151, R152). -/
inductive FrameVerdict where
  /-- the first byte is not the sync byte, or there is none: an idle window -/
  | idle
  /-- a frame that fails the check, with the tag to echo -/
  | bad (tag : Byte)
  /-- a request frame: its tag, code, payload and CRC -/
  | request (tag code : Byte) (payload : List Byte) (crc : Byte)
  deriving DecidableEq, Repr

/-- The frame check of R152, in its order: four bytes, a length of 0–24, the frame complete, the CRC. -/
def checkFrame : List Byte → FrameVerdict
  | [] => .idle
  | sync :: rest =>
    if sync ≠ 0xA5#8 then .idle
    else match rest with
      | tag :: code :: len :: more =>
        if 24 < len.toNat then .bad tag
        else match more[len.toNat]? with
          | none => .bad tag
          | some crc =>
            if crc = crc8 (tag :: code :: len :: more.take len.toNat)
            then .request tag code (more.take len.toNat) crc
            else .bad tag
      | tag :: _ => .bad tag
      | [] => .bad 0x00#8

/-! ### The blocks of Table 11-5 -/

/-- The trunk profile block. -/
def decodeTrunkBlock : List Byte → Option TrunkBlock
  | [t, r1, r0, n1, n0, k, m] => some ⟨t, word16 r1 r0, word16 n1 n0, k, m⟩
  | _ => none

/-- The precharge part of the channel profile block. -/
def decodePrechargeBlock : List Byte → Option PrechargeBlock
  | [a1, a0, pp, po, pl, tn, fp, fo, ft] => some ⟨word16 a1 a0, pp, po, pl, tn, fp, fo, ft⟩
  | _ => none

/-- The channel profile block: the staged flag byte selects the length (R176). -/
def decodeChannelBlock : List Byte → Option ChannelBlock
  | c :: t :: m :: l1 :: l0 :: staged :: rest =>
    if staged = 0#8 then
      match rest with
      | [] => some ⟨c, t, m, word16 l1 l0, none⟩
      | _ => none
    else if staged = 1#8 then
      (decodePrechargeBlock rest).map fun p => ⟨c, t, m, word16 l1 l0, some p⟩
    else none
  | _ => none

/-- The line binding block: the mode byte selects the length (R176). -/
def decodeLineBlock : List Byte → Option LineBlock
  | l :: mode :: rest =>
    if mode = 0#8 then
      match rest with
      | [] => some ⟨l, .NONE⟩
      | _ => none
    else if mode = 1#8 then
      match rest with
      | [c, i1, i0, prio] => some ⟨l, .ASSIST c (word16 i1 i0) prio⟩
      | _ => none
    else if mode = 2#8 then
      match rest with
      | [c] => some ⟨l, .VETO c⟩
      | _ => none
    else none
  | _ => none

/-- The payload of PROPOSE: the kind byte selects the block (R176). -/
def decodeProposeBlock : List Byte → Option ProposeBlock
  | kind :: rest =>
    if kind = 0#8 then (decodeTrunkBlock rest).map .trunk
    else if kind = 1#8 then (decodeChannelBlock rest).map .channel
    else if kind = 2#8 then (decodeLineBlock rest).map .line
    else if kind = 3#8 then
      match rest with
      | [c] => some (.lockout c)
      | _ => none
    else none
  | [] => none

/-- The request of a frame (step 1 of R154, R176): `none` for a code that Table 11-3 does not list, or a payload whose
length the code, or its selector byte, does not call for. -/
def decodeRequest (r : Req) (code : Byte) (payload : List Byte) : Option Instr :=
  match code.toNat with
  | 0x01 => match payload with | [s] => some (.openPort r s) | _ => none
  | 0x02 => match payload with | [] => some (.closePort r) | _ => none
  | 0x03 => match payload with | [] => some (.readIdent r) | _ => none
  | 0x04 => match payload with | [p] => some (.readPort r p) | _ => none
  | 0x05 => match payload with | [] => some (.readNotice r) | _ => none
  | 0x0B => match payload with | [] => some (.ping r) | _ => none
  | 0x10 => match payload with
            | [c, i1, i0, prio, policy, successor, wait] =>
              some (.claim r c (word16 i1 i0) prio policy successor wait)
            | _ => none
  | 0x11 => match payload with | [c] => some (.release r c) | _ => none
  | 0x12 => match payload with | [c] => some (.adopt r c) | _ => none
  | 0x13 => match payload with | [c] => some (.energize r c) | _ => none
  | 0x14 => match payload with | [c] => some (.deEnergize r c) | _ => none
  | 0x15 => match payload with | [c] => some (.clearFault r c) | _ => none
  | 0x16 => match payload with | [c, i1, i0] => some (.restate r c (word16 i1 i0)) | _ => none
  | 0x17 => match payload with | [c] => some (.readChannel r c) | _ => none
  | 0x20 => match payload with | [t] => some (.trunkClear r t) | _ => none
  | 0x21 => match payload with | [t] => some (.readTrunk r t) | _ => none
  | 0x30 => (decodeTrunkBlock payload).map (.trunkProfileWrite r)
  | 0x31 => (decodeChannelBlock payload).map (.channelProfileWrite r)
  | 0x32 => (decodeLineBlock payload).map (.lineBindingWrite r)
  | 0x33 => match payload with | [] => some (.closeCommissioning r) | _ => none
  | 0x38 => (decodeProposeBlock payload).map (.propose r)
  | 0x39 => match payload with | [n1, n0] => some (.concur r (word16 n1 n0)) | _ => none
  | 0x3A => match payload with | [n1, n0] => some (.withdraw r (word16 n1 n0)) | _ => none
  | 0x3B => match payload with | [] => some (.readProposal r) | _ => none
  | _ => none

/-! ### The encoder -/

/-- The trunk profile block. -/
def encodeTrunkBlock (b : TrunkBlock) : List Byte := b.trunk :: (be16 b.rating ++ be16 b.tNom ++ [b.k, b.margin])

/-- The precharge part of the channel profile block. -/
def encodePrechargeBlock (b : PrechargeBlock) : List Byte :=
  be16 b.allowance ++ [b.probePeriod, b.probeOn, b.pulseLimit, b.target, b.fillPeriod, b.fillOn, b.fillTimeout]

/-- The channel profile block. -/
def encodeChannelBlock (b : ChannelBlock) : List Byte :=
  [b.channel, b.trunk, b.mask] ++ be16 b.limit ++
    match b.precharge with
    | none => [0#8]
    | some p => 1#8 :: encodePrechargeBlock p

/-- The line binding block. -/
def encodeLineBlock (b : LineBlock) : List Byte :=
  b.line :: match b.body with
    | .NONE => [0#8]
    | .ASSIST c cur prio => [1#8, c] ++ be16 cur ++ [prio]
    | .VETO c => [2#8, c]

/-- The payload of PROPOSE. -/
def encodeProposeBlock : ProposeBlock → List Byte
  | .trunk b => 0#8 :: encodeTrunkBlock b
  | .channel b => 1#8 :: encodeChannelBlock b
  | .line b => 2#8 :: encodeLineBlock b
  | .lockout c => [3#8, c]

/-- The request frame's fields, the code and the payload of a request of a host port (Table 11-3); `none` for a command
that is not a request. -/
def encodeRequest : Instr → Option (Req × Byte × List Byte)
  | .openPort r s => some (r, 0x01#8, [s])
  | .closePort r => some (r, 0x02#8, [])
  | .readIdent r => some (r, 0x03#8, [])
  | .readPort r p => some (r, 0x04#8, [p])
  | .readNotice r => some (r, 0x05#8, [])
  | .ping r => some (r, 0x0B#8, [])
  | .claim r c cur prio policy successor wait => some (r, 0x10#8, c :: (be16 cur ++ [prio, policy, successor, wait]))
  | .release r c => some (r, 0x11#8, [c])
  | .adopt r c => some (r, 0x12#8, [c])
  | .energize r c => some (r, 0x13#8, [c])
  | .deEnergize r c => some (r, 0x14#8, [c])
  | .clearFault r c => some (r, 0x15#8, [c])
  | .restate r c cur => some (r, 0x16#8, c :: be16 cur)
  | .readChannel r c => some (r, 0x17#8, [c])
  | .trunkClear r t => some (r, 0x20#8, [t])
  | .readTrunk r t => some (r, 0x21#8, [t])
  | .trunkProfileWrite r b => some (r, 0x30#8, encodeTrunkBlock b)
  | .channelProfileWrite r b => some (r, 0x31#8, encodeChannelBlock b)
  | .lineBindingWrite r b => some (r, 0x32#8, encodeLineBlock b)
  | .closeCommissioning r => some (r, 0x33#8, [])
  | .propose r b => some (r, 0x38#8, encodeProposeBlock b)
  | .concur r n => some (r, 0x39#8, be16 n)
  | .withdraw r n => some (r, 0x3A#8, be16 n)
  | .readProposal r => some (r, 0x3B#8, [])
  | _ => none

/-- The bytes that a host clocks in to send a request: its frame, then the ignored trail. -/
def requestBytes (i : Instr) : Option (List Byte) :=
  (encodeRequest i).map fun x => requestFrame x.1.tag x.2.1 x.2.2 ++ x.1.trail

/-- The command that a word of the opcode table spells. No row of spec/opcode_table.json has bits, so no word spells
one; a request of a host port is spelled by its frame, which `checkFrame` and `decodeRequest` read. -/
def decodeTableWord (_nbits _w : Nat) : Option Instr := none

end Sys2Proof
end

