-- ==== Sys2Proof/Machine/State.lean ====
section
/-! DEFINITION. The state of the SF1203, block by block (Table 0-1), as plain data; the outcomes' reasons; and the
state right after power-on reset. Every timer counts the µs it still has to run; `none` is "absent". -/

namespace Sys2Proof.Machine

/-- The part has no fault of its own: every command of the table has the effect its rule gives, so no command raises
one, and the type is empty. -/
inductive Fault where
  deriving DecidableEq, Repr

/-- Why a command has no meaning. -/
inductive Refusal where
  /-- Raised by no arm of `exec`: every row of the table has its meaning. Kept as the host's interface names it; safe. -/
  | notModelled (mnemonic : String)
  deriving DecidableEq, Repr

/-! ### Budget Unit -/

/-- A shed the Budget Unit has chosen and not yet had answered (R92): the channel, the heat recorded for it, and
whether the trunk has stayed SHEDDING since (R97: after it has left, an ignored answer makes no new choice). -/
structure ShedInHand where
  channel : Channel
  heat : Nat
  current : Bool
  deriving DecidableEq, Repr

/-- An entry into TRIPPED whose trip claims are not all answered: the trip heat and the channels awaited (R100). -/
structure Trip where
  heat : Nat
  awaited : List Channel
  deriving DecidableEq, Repr

/-- The trunk record (Table 1-1): configured is `profile.isSome`. Beside it the Budget Unit's own bookkeeping: the
budget interval timer, the shed in hand and the sheds owed after it (R92, R96), the trip heat (R100), the open trips. -/
structure TrunkRec where
  profile : Option TrunkProfile
  heat : Nat
  state : Option TrunkState
  latch : Bool
  reserved : Nat
  slot : Option Channel
  lastShed : Option Nat
  shedTimer : Option Nat
  interval : Nat
  shedInHand : Option ShedInHand
  owed : List Nat
  tripHeat : Nat
  trips : List Trip
  deriving DecidableEq, Repr

/-- What the Budget Unit keeps for a channel (R13, R20, R21): its reservation in mA and the trunk it is charged
against (`none` exactly while it is 0), the overdrawn mark, the overdraw run count. -/
structure Account where
  reservation : Nat
  charged : Option Trunk
  overdrawn : Bool
  runCount : Nat
  deriving DecidableEq, Repr

/-! ### Lease Manager -/

/-- The fields of a lease (Table 2-1): present in every state other than FREE. The orphan policy is absent for a line
holder; the declared current is in mA, the wait limit in ms (0: none). -/
structure Lease where
  holder : Holder
  orphan : Option Orphan
  declared : Nat
  priority : Nat
  wait : Nat
  deriving DecidableEq, Repr

/-- A RESTATE whose restated reservation claim awaits the Budget Unit's answer (R37). -/
structure Restating where
  port : Port
  declared : Nat
  deriving DecidableEq, Repr

/-- The channel record (Table 2-1), less what the Budget Unit keeps (`Account`) and the profile's fields. -/
structure ChannelRec where
  trunk : Option Trunk
  state : ChanState
  lease : Option Lease
  intent : Bool
  stamp : Option (BitVec 32)
  faultCause : Option FaultCause
  shedCause : Option ShedCause
  faultCount : Nat
  lockedOut : Bool
  onStable : Option Nat
  restating : Option Restating
  deriving DecidableEq, Repr

/-- An entry of the Lease Manager's port view (R29). -/
structure PortView where
  standing : PortState
  epoch : BitVec 16
  deriving DecidableEq, Repr

/-! ### Admission Unit -/

/-- An admission queue entry (Table 3-1). Beside it what the flush of R71 needs, the trip heat of the trunk, present when the
trunk was TRIPPED as the entry joined; and what R70 needs, that its wait limit has run out and its wait-expiry claim is on its way. -/
structure Entry where
  channel : Channel
  priority : Nat
  arrival : BitVec 32
  timer : Option Nat
  tripHeat : Option Nat
  expired : Bool
  deriving DecidableEq, Repr

/-- How far the admission of a pass's head has come (R64): the Budget Unit's answer awaited; the admit claim sent; the
admit claim taken or dropped by the Lease Manager, its answer awaited. -/
inductive PassStage where
  | asked | sent | settled
  deriving DecidableEq, Repr

/-- The claim a service pass waits for. -/
structure PassClaim where
  channel : Channel
  need : Nat
  stage : PassStage
  deriving DecidableEq, Repr

/-- The service pass of a queue (R64): a pass is in progress while it has a claim to wait for; `again` marks one
further pass. With no claim, `again` is the mark of a pass that waits for an expired head to leave the queue (R70; log entry 43). -/
structure Pass where
  claim : Option PassClaim
  again : Bool
  deriving DecidableEq, Repr

/-- Who issued an ENERGIZE: a port, or the Line Unit after a line claim or after a resume (R60). -/
inductive EnergizeSource where
  | port (p : Port)
  | lineUnit (resumed : Bool)
  deriving DecidableEq, Repr

/-- The claim of an ENERGIZE in hand that awaits its answer (R59). -/
inductive EnergizeStage where
  | admission | entry | admitted | withhold
  deriving DecidableEq, Repr

/-- An ENERGIZE in hand (R59): its source, the state found, and the claim awaited. -/
structure EnergizeInHand where
  source : EnergizeSource
  found : Found
  stage : EnergizeStage
  deriving DecidableEq, Repr

/-! ### Staged Energize Unit -/

/-- The claim of a run sent to the Lease Manager and not yet answered (Table 4-2). -/
inductive RunClaim where
  | ADVANCE | COMPLETION | FAILURE
  deriving DecidableEq, Repr

/-- The phase of a run: PROBE with the pulses issued, FILL with the fill timer (Table 4-2). -/
inductive RunPhase where
  | PROBE (pulses : Nat)
  | FILL (timer : Option Nat)
  deriving DecidableEq, Repr

/-- A run (Table 4-2). -/
structure Run where
  channel : Channel
  phase : RunPhase
  pending : Option RunClaim
  period : Option Nat
  deriving DecidableEq, Repr

/-! ### Channel Drivers and Sense Block -/

/-- What a Channel Driver keeps of its own (Table 6-2). The commanded drive and the trip hold follow the channel state
and the trunk state in the same change (R114, R116): they are computed from those (`Flags.lean`). -/
structure Driver where
  pulse : Option Nat
  shortHold : Bool
  deriving DecidableEq, Repr

/-- The Sense Block (Table 6-1): the held values in mA and mV, the output-voltage samples deferred to a pulse's end
(R110), the time to the next sample of each kind, and what the analog inputs last gave: the sensed currents in µA, negative
in the reverse direction, and the voltages in µV. -/
structure Sense where
  current : Vector Nat 12
  vout : Vector Nat 12
  vfeed : Vector Nat 3
  deferred : Vector Bool 12
  currentTimer : Nat
  voltageTimer : Nat
  isPin : Vector Int 12
  voPin : Vector Int 12
  vfPin : Vector Int 3
  deriving DecidableEq, Repr

/-! ### Line Unit -/

/-- The line record (Table 7-1): the debounced level is `none` while undetermined; `raw` is the level at the input. -/
structure LineRec where
  binding : Binding
  level : Option Bool
  raw : Bool
  debounce : Option Nat
  overruled : Bool
  leaseHeld : Bool
  claim : Option LineClaimKind
  deriving DecidableEq, Repr

/-! ### Port Units -/

/-- A taken request whose response is not yet formed: its tag and CRC (R150, R155). -/
structure RequestInHand where
  tag : Byte
  crc : Byte
  deriving DecidableEq, Repr

/-- The replay memory: tag and CRC of the last taken request, and a copy of its response frame (R153). -/
structure Replay where
  tag : Byte
  crc : Byte
  response : List Byte
  deriving DecidableEq, Repr

/-- A notice in a queue, with the sequence number its Port Unit gave it (R166). -/
structure QueuedNotice where
  seq : Byte
  notice : Notice
  deriving DecidableEq, Repr

/-- The port record (Table 9-1): the supervision period in ms (0: off). Beside it the pins: a select line held
asserted since before the release of reset (R178), and the bytes clocked out in the last window. -/
structure PortRec where
  state : PortState
  epoch : BitVec 16
  period : Option Nat
  timer : Option Nat
  inHand : Option RequestInHand
  holder : Option (List Byte)
  replay : Option Replay
  queue : List QueuedNotice
  lost : Nat
  seq : Byte
  selHeld : Bool
  clockedOut : List Byte
  deriving DecidableEq, Repr

/-! ### Configuration Unit -/

/-- What a proposal is to change: kind, target and new values (Table 8-6). -/
inductive ProposalBody where
  | trunk (t : Trunk) (new : TrunkProfile)
  | channel (c : Channel) (new : ChannelProfile)
  | line (l : Line) (new : Binding)
  | lockout (c : Channel)
  deriving DecidableEq, Repr

/-- The status of a full slot (Table 8-6): OPEN with the window timer, APPLYING with the concurrer. -/
inductive SlotStatus where
  | OPEN (timer : Nat)
  | APPLYING (concurrer : Port)
  deriving DecidableEq, Repr

/-- A proposal in the slot (Table 8-6). -/
structure Proposal where
  status : SlotStatus
  number : BitVec 16
  proposer : Port
  body : ProposalBody
  deriving DecidableEq, Repr

/-- The Configuration Unit (Table 8-5). -/
structure ConfigRec where
  phase : Phase
  trunkProfiles : Vector (Option TrunkProfile) 3
  channelProfiles : Vector ChannelProfile 12
  bindings : Vector Binding 4
  slot : Option Proposal
  counter : BitVec 16
  view : Vector PortState 4
  deriving DecidableEq, Repr

/-! ### The part -/

/-- The state of the SF1203. `pending` is the queue of commands that wait (the model's own); `inFlight` holds the
messages sent by one block and not yet taken by another, oldest first. -/
structure State where
  pending : List Instr
  inFlight : List Instr
  inReset : Bool
  trunks : Vector TrunkRec 3
  accounts : Vector Account 12
  channels : Vector ChannelRec 12
  portView : Vector PortView 4
  heldBack : List Instr
  queues : Vector (List Entry) 3
  passes : Vector Pass 3
  energizing : Vector (Option EnergizeInHand) 12
  waiting : List Instr
  arrivals : BitVec 32
  admissions : BitVec 32
  runs : Vector (Option Run) 3
  drivers : Vector Driver 12
  sense : Sense
  lines : Vector LineRec 4
  ports : Vector PortRec 4
  config : ConfigRec
  deriving DecidableEq, Repr

/-- The trunk record after power-on reset (Table 1-2). -/
def TrunkRec.reset : TrunkRec where
  profile := none
  heat := Config.coldStart
  state := none
  latch := false
  reserved := 0
  slot := none
  lastShed := none
  shedTimer := none
  interval := Config.budgetInterval
  shedInHand := none
  owed := []
  tripHeat := 0
  trips := []

/-- No reservation, no mark, no run (Table 2-2). -/
def Account.reset : Account := ⟨0, none, false, 0⟩

/-- The channel record after either reset (Table 2-2). -/
def ChannelRec.reset : ChannelRec where
  trunk := none
  state := .FREE
  lease := none
  intent := false
  stamp := none
  faultCause := none
  shedCause := none
  faultCount := 0
  lockedOut := false
  onStable := none
  restating := none

/-- The Sense Block after either reset (R108); the analog inputs are not the part's to reset. -/
def Sense.reset (isPin : Vector Int 12) (voPin : Vector Int 12) (vfPin : Vector Int 3) : Sense where
  current := Vector.replicate 12 0
  vout := Vector.replicate 12 0
  vfeed := Vector.replicate 3 0
  deferred := Vector.replicate 12 false
  currentTimer := Config.currentPeriod
  voltageTimer := Config.voltagePeriod
  isPin := isPin
  voPin := voPin
  vfPin := vfPin

/-- The line record after either reset (R118); the raw level is the input's. -/
def LineRec.reset (raw : Bool) : LineRec where
  binding := .NONE
  level := none
  raw := raw
  debounce := none
  overruled := false
  leaseHeld := false
  claim := none

/-- The port record after either reset (Table 9-2). -/
def PortRec.reset : PortRec where
  state := .DOWN
  epoch := 0#16
  period := none
  timer := none
  inHand := none
  holder := none
  replay := none
  queue := []
  lost := 0
  seq := 0#8
  selHeld := false
  clockedOut := []

/-- The default channel profile (Table 8-5). -/
def defaultProfile : ChannelProfile := ⟨none, 0#4, 1000, none⟩

/-- The Configuration Unit after either reset (Table 8-5). -/
def ConfigRec.reset : ConfigRec where
  phase := .COMMISSION
  trunkProfiles := Vector.replicate 3 none
  channelProfiles := Vector.replicate 12 defaultProfile
  bindings := Vector.replicate 4 .NONE
  slot := none
  counter := 1#16
  view := Vector.replicate 4 .DOWN

/-- The part right after power-on reset (Tables 1-2, 2-2, 8-5, 9-2; R53, R76, R108, R118): every record at its
power-on value and reset not yet released (R178, R179), so a program's first command is RESET_RELEASE (log entry 4). -/
def State.reset : State where
  pending := []
  inFlight := []
  inReset := true
  trunks := Vector.replicate 3 TrunkRec.reset
  accounts := Vector.replicate 12 Account.reset
  channels := Vector.replicate 12 ChannelRec.reset
  portView := Vector.replicate 4 ⟨.DOWN, 0#16⟩
  heldBack := []
  queues := Vector.replicate 3 []
  passes := Vector.replicate 3 ⟨none, false⟩
  energizing := Vector.replicate 12 none
  waiting := []
  arrivals := 0#32
  admissions := 0#32
  runs := Vector.replicate 3 none
  drivers := Vector.replicate 12 ⟨none, false⟩
  sense := Sense.reset (Vector.replicate 12 0) (Vector.replicate 12 0) (Vector.replicate 3 0)
  lines := Vector.replicate 4 (LineRec.reset false)
  ports := Vector.replicate 4 PortRec.reset
  config := ConfigRec.reset

end Sys2Proof.Machine
end

