-- ==== Sys2Proof/Machine/Ops.lean ====
section
/-! DEFINITION. The named operations over the state: the accessors of each record, the messages between blocks, and the
operations that several commands share (the return of a reservation, a change of channel state, the end of a lease, a
fault, the gates of the Lease Manager's and the Admission Unit's hold-backs). -/

namespace Sys2Proof.Machine

/-- Replace entry `i` of a table by `f` of it. -/
def updAt {α : Type} {n : Nat} (v : Vector α n) (i : Fin n) (f : α → α) : Vector α n := v.set i (f v[i])

/-! ### Accessors -/

/-- The trunk record of a trunk. -/
def State.trunk (s : State) (t : Trunk) : TrunkRec := s.trunks[t]
/-- The Budget Unit's account of a channel. -/
def State.acct (s : State) (c : Channel) : Account := s.accounts[c]
/-- The channel record of a channel. -/
def State.chan (s : State) (c : Channel) : ChannelRec := s.channels[c]
/-- The Lease Manager's view of a port. -/
def State.viewOf (s : State) (p : Port) : PortView := s.portView[p]
/-- The admission queue of a trunk, head first. -/
def State.queue (s : State) (t : Trunk) : List Entry := s.queues[t]
/-- The service pass of a trunk's queue. -/
def State.pass (s : State) (t : Trunk) : Pass := s.passes[t]
/-- The ENERGIZE in hand for a channel. -/
def State.inHand (s : State) (c : Channel) : Option EnergizeInHand := s.energizing[c]
/-- The run record of a trunk. -/
def State.run (s : State) (t : Trunk) : Option Run := s.runs[t]
/-- The Channel Driver of a channel. -/
def State.driver (s : State) (c : Channel) : Driver := s.drivers[c]
/-- The line record of a line. -/
def State.line (s : State) (l : Line) : LineRec := s.lines[l]
/-- The port record of a port. -/
def State.port (s : State) (p : Port) : PortRec := s.ports[p]
/-- The channel profile of a channel. -/
def State.profile (s : State) (c : Channel) : ChannelProfile := s.config.channelProfiles[c]

/-! ### Updates, one for each table -/

/-- Change a trunk record. -/
def State.updTrunk (s : State) (t : Trunk) (f : TrunkRec → TrunkRec) : State := { s with trunks := updAt s.trunks t f }
/-- Change a channel's account. -/
def State.updAcct (s : State) (c : Channel) (f : Account → Account) : State := { s with accounts := updAt s.accounts c f }
/-- Change a channel record. -/
def State.updChan (s : State) (c : Channel) (f : ChannelRec → ChannelRec) : State :=
  { s with channels := updAt s.channels c f }
/-- Change an entry of the Lease Manager's port view. -/
def State.updView (s : State) (p : Port) (f : PortView → PortView) : State := { s with portView := updAt s.portView p f }
/-- Change an admission queue. -/
def State.updQueue (s : State) (t : Trunk) (f : List Entry → List Entry) : State := { s with queues := updAt s.queues t f }
/-- Change the service pass of a queue. -/
def State.updPass (s : State) (t : Trunk) (f : Pass → Pass) : State := { s with passes := updAt s.passes t f }
/-- Set the ENERGIZE in hand of a channel. -/
def State.setInHand (s : State) (c : Channel) (e : Option EnergizeInHand) : State :=
  { s with energizing := updAt s.energizing c fun _ => e }
/-- Set the run record of a trunk. -/
def State.setRun (s : State) (t : Trunk) (r : Option Run) : State := { s with runs := updAt s.runs t fun _ => r }
/-- Change a Channel Driver. -/
def State.updDriver (s : State) (c : Channel) (f : Driver → Driver) : State := { s with drivers := updAt s.drivers c f }
/-- Change the Sense Block. -/
def State.updSense (s : State) (f : Sense → Sense) : State := { s with sense := f s.sense }
/-- Change a line record. -/
def State.updLine (s : State) (l : Line) (f : LineRec → LineRec) : State := { s with lines := updAt s.lines l f }
/-- Change a port record. -/
def State.updPort (s : State) (p : Port) (f : PortRec → PortRec) : State := { s with ports := updAt s.ports p f }
/-- Change the Configuration Unit's records. -/
def State.updConfig (s : State) (f : ConfigRec → ConfigRec) : State := { s with config := f s.config }
/-- Set the claims and requests that the Lease Manager holds back. -/
def State.setHeldBack (s : State) (l : List Instr) : State := { s with heldBack := l }
/-- Set the ENERGIZEs that the Admission Unit holds back. -/
def State.setWaiting (s : State) (l : List Instr) : State := { s with waiting := l }
/-- Set the messages in flight. -/
def State.setInFlight (s : State) (l : List Instr) : State := { s with inFlight := l }
/-- Set the arrival counter. -/
def State.setArrivals (s : State) (n : BitVec 32) : State := { s with arrivals := n }
/-- Set the admission counter. -/
def State.setAdmissions (s : State) (n : BitVec 32) : State := { s with admissions := n }

/-! ### Messages -/

/-- One block sends another a message: it is in flight until that block takes it. -/
def State.send (s : State) (m : Instr) : State := s.setInFlight (s.inFlight ++ [m])

/-- The messages of one block to another whose order the spec keeps: to the Lease Manager the session claims of each Port Unit
(R29, R154, R156) and the claims of each other block (R46, of the Channel Drivers each for its own channel); the Lease Manager's
messages to the Staged Energize Unit (R77); each Port Unit's session reports (R145, R156); the copies that one block posts to
one port (R169); the Configuration Unit's profile and binding claims to the Budget Unit and the Line Unit (R131). -/
inductive Stream where
  | portUnit (p : Port)
  | admissionUnit
  | stagedEnergizeUnit
  | budgetUnit
  | channelDriver (c : Channel)
  | lineUnit
  | configurationUnit
  | leaseManager
  | reports (p : Port)
  | copies (b : Block) (p : Port)
  | trunkProfiles
  | bindings
  deriving DecidableEq, Repr

/-- The stream of a message; `none` for a command whose order to others the spec leaves free. -/
def stream : Instr → Option Stream
  | .openClaim p _ | .lapseClaim p | .closeClaim p => some (.portUnit p)
  | .queueEntryClaim _ _ | .withholdClaim _ _ | .admitClaim _ _ _ _ _ | .waitExpiryClaim _ | .flushClaim _ _ =>
    some .admissionUnit
  | .advanceClaim _ | .completionClaim _ | .prechargeFailureClaim _ _ => some .stagedEnergizeUnit
  | .shedClaim _ _ | .tripClaim _ _ _ _ => some .budgetUnit
  | .shortDetectionTaken c => some (.channelDriver c)
  | .lineClaim _ _ _ _ | .lineRelease _ _ | .inhibitClaim _ _ | .resumeClaim _ _ => some .lineUnit
  | .channelProfileClaim _ _ _ | .lockoutReleaseClaim _ => some .configurationUnit
  | .start _ | .abort _ | .advanceAnswer _ _ | .completionAnswer _ _ | .failureAnswer _ _ => some .leaseManager
  | .sessionReport p _ => some (.reports p)
  | .noticeCopyTaken b p _ => some (.copies b p)
  | .trunkProfileClaim _ _ _ => some .trunkProfiles
  | .bindingClaim _ _ _ => some .bindings
  | _ => none

/-- The run record of the trunk names the channel, or the channel is on the trunk. -/
def State.runsOn (s : State) (t : Trunk) (c : Channel) : Bool :=
  decide ((s.run t).map (·.channel) = some c) || decide ((s.chan c).trunk = some t)

/-- A service event that the Admission Unit takes before the Staged Energize Unit takes an abort: one for the trunk of the run
(R87). -/
def State.eventBefore (s : State) (x : Instr) : Instr → Bool
  | .abort c => (List.finRange 3).any fun t => decide (x = .serviceEvent t) && s.runsOn t c
  | _ => false

/-- A message sent earlier is taken before another: one of its stream, or the service event that an abort waits for. -/
def State.precedes (s : State) (x m : Instr) : Bool :=
  ((stream m).isSome && decide (stream x = stream m)) || s.eventBefore x m

/-- An earlier message that is taken before it is in flight. -/
def State.outOfTurn (s : State) (m : Instr) : Bool :=
  (s.inFlight.takeWhile fun x => decide (x ≠ m)).any fun x => s.precedes x m

/-- A message whose turn has not come stays in flight, or joins behind what its sender sent before. -/
def State.await (s : State) (m : Instr) : State := if s.inFlight.contains m then s else s.send m

/-- A message is taken: it leaves flight. (A message command given while none is in flight is taken all the same:
log entry 3.) -/
def State.arrive (s : State) (m : Instr) : State := s.setInFlight (s.inFlight.erase m)

/-- While reset is held the part takes no event (R2, R108, R118, R148): timers, samplers, debounce and ports stand. -/
def State.running (s : State) (f : State → State) : State := if s.inReset then s else f s

/-- The taking of a message of the part by its receiver: in the order in which its sender sent it, where the spec keeps that
order (R29, R46, R77, R87, R145, R154, R156, R169). -/
def State.taking (s : State) (m : Instr) (f : State → State) : State :=
  s.running fun s => if s.outOfTurn m then s.await m else f (s.arrive m)

/-- An owner's answer to a passed request, on its way to the Port Unit (R155). -/
def State.respond (s : State) (p : Port) (status : Status) (payload : List Byte) : State :=
  s.send (.responseReady p status payload)

/-- A service event for a trunk's queue, on its way to the Admission Unit (R63). -/
def State.serviceEvent (s : State) (t : Trunk) : State := s.send (.serviceEvent t)

/-- A copy of a notice, on its way to a port's Port Unit (R167). -/
def State.post (s : State) (b : Block) (p : Port) (n : Notice) : State := s.send (.noticeCopyTaken b p n)

/-! ### Reading the channel records -/

/-- The states in which a channel draws through its drive: PROBE, FILL and ON. -/
def isDriven : ChanState → Bool
  | .PROBE | .FILL | .ON => true
  | _ => false

/-- The states whose drive is pulsing: PROBE and FILL (Table 2-3). -/
def isPulsing : ChanState → Bool
  | .PROBE | .FILL => true
  | _ => false

/-- The holder of a channel, absent in FREE. -/
def State.holder (s : State) (c : Channel) : Option Holder := (s.chan c).lease.map (·.holder)

/-- The port that a channel's notices go to: its holder, when that is a port (R167). -/
def State.holderPort (s : State) (c : Channel) : Option Port :=
  match s.holder c with
  | some (.port p _) => some p
  | _ => none

/-- A channel notice to the holder port, and to no port when the holder is a line (R167). -/
def State.postHolder (s : State) (b : Block) (c : Channel) (n : Notice) : State :=
  match s.holderPort c with
  | some p => s.post b p n
  | none => s

/-- The request comes from the holder: the port holds the channel under its current epoch (R27). -/
def State.isHolder (s : State) (p : Port) (c : Channel) : Bool :=
  decide (s.holder c = some (.port p (s.viewOf p).epoch))

/-- The declared current of a held channel (0 in FREE, where it is absent). -/
def State.declared (s : State) (c : Channel) : Nat :=
  match (s.chan c).lease with
  | some l => l.declared
  | none => 0

/-- The channels that meet a test, in index order. -/
def channelsWhere (f : Channel → Bool) : List Channel := (List.finRange 12).filter f

/-- The driven channels of a trunk: in PROBE, FILL or ON (R94, R100), in index order (DESIGN CHOICE for the trip claims of one entry, log
entry 30). -/
def State.drivenOn (s : State) (t : Trunk) : List Channel :=
  channelsWhere fun c => decide ((s.chan c).trunk = some t) && isDriven (s.chan c).state

/-- A trunk notice: one copy to each port that is LIVE in the Lease Manager's port view and holds, under its current
epoch, a lease on a channel of the trunk (R102, R105, R167); the ports in index order (DESIGN CHOICE, log entry 30). -/
def State.postTrunk (s : State) (t : Trunk) (n : Notice) : State :=
  ((List.finRange 4).filter fun p =>
      decide ((s.viewOf p).standing = .LIVE)
        && (List.finRange 12).any fun c => decide ((s.chan c).trunk = some t) && s.isHolder p c).foldl
    (fun s p => s.post .budgetUnit p n) s

/-! ### Budget Unit: reservations (1.5) -/

/-- The trunk that a channel's reservation stands on: the one it is charged against, and that of the channel record while it is 0
(R13; DESIGN CHOICE where the two differ, log entry 44). -/
def State.chargeTrunk (s : State) (c : Channel) : Option Trunk := (s.acct c).charged.or (s.chan c).trunk

/-- Set a channel's reservation, charged against a trunk, and change the reserved sum by the difference (R13). A trunk whose reserved sum
falls by it has a service event (R18). -/
def State.charge (s : State) (c : Channel) (t : Trunk) (mA : Nat) : State :=
  let add (u : State) : State := (u.updTrunk t fun r => { r with reserved := r.reserved + mA }).updAcct c
    fun a => { a with reservation := mA, charged := if mA = 0 then none else some t }
  match (s.acct c).charged with
  | none => add s
  | some u =>
    let old := (s.acct c).reservation
    let set := add (s.updTrunk u fun r => { r with reserved := r.reserved - old })
    if (if u = t then mA else 0) < old then set.serviceEvent u else set

/-- The return of a reservation (R15): the reservation becomes 0 and the reserved sum falls by it, the overdrawn mark
and the run count are cleared, and the slot is emptied when it names the channel (R19). The decrease and the emptying
are a service event each (R18, R19). A reservation of 0 changes nothing. -/
def State.returnCharge (s : State) (c : Channel) : State :=
  match (s.acct c).charged with
  | none => s
  | some t =>
    let named := decide ((s.trunk t).slot = some c)
    let returned := ((s.updTrunk t fun r =>
      { r with reserved := r.reserved - (s.acct c).reservation, slot := if named then none else r.slot }).updAcct c
        fun _ => Account.reset).serviceEvent t
    if named then returned.serviceEvent t else returned

/-- The completion lowering (R16): the reservation becomes the declared current, and the slot is emptied when it names the channel. A
decrease and the emptying are a service event each (R18, R19). A raise that it removed would take its mark along (R18). -/
def State.lowerCharge (s : State) (c : Channel) : State :=
  match s.chargeTrunk c with
  | none => s
  | some t =>
    let lowered := (s.charge c t (s.declared c)).updAcct c fun a => { a with overdrawn := false }
    if (s.trunk t).slot = some c then (lowered.updTrunk t fun r => { r with slot := none }).serviceEvent t else lowered

/-! ### Sense Block and Channel Drivers -/

/-- The output-voltage sample of an input voltage in µV: whole mV rounded down, 0 for a negative voltage, saturating
(R110, R111). -/
def voltageSample (microvolts : Int) : Nat := min Config.sampleMax (microvolts / 1000).toNat

/-- The current sample of a sample period, whose sensed current is given in µA over equal parts of the period: the mean in whole
mA rounded down, a reverse current counted as 0 in it, saturating (R109). -/
def meanSample (parts : List Int) : Nat :=
  min Config.sampleMax ((parts.map Int.toNat).sum / (1000 * parts.length))

/-- An output-voltage sample is taken: it becomes the latest and goes to the Staged Energize Unit (R110). A sample deferred until then is
taken with it (log entry 32). -/
def State.sampleOutput (s : State) (c : Channel) : State :=
  let mv := voltageSample s.sense.voPin[c]
  (s.updSense fun b =>
    { b with vout := updAt b.vout c fun _ => mv, deferred := updAt b.deferred c fun _ => false }).send (.outputVoltageSample c mv)

/-- No pulse is in progress any more: it has run for its on-time, was cut short, or ran on into the steady drive (R115). A
deferred sample is then due: PULSE_END takes it, with the voltage that then stands at the output (R110). -/
def State.endPulse (s : State) (c : Channel) : State := s.updDriver c fun d => { d with pulse := none }

/-! ### Staged Energize Unit -/

/-- The trunk whose run record names the channel. -/
def State.runTrunk (s : State) (c : Channel) : Option Trunk :=
  (List.finRange 3).find? fun t => decide ((s.run t).map (·.channel) = some c)

/-! ### Lease Manager: changes of channel state (2.2, 2.5) -/

/-- The entry of a channel leaves the queue of the channel's trunk. -/
def State.leaveQueue (s : State) (c : Channel) : State :=
  match (s.chan c).trunk with
  | some t => s.updQueue t fun q => q.filter fun e => decide (e.channel ≠ c)
  | none => s

/-- A channel's entry is the head of its trunk's queue. -/
def State.isHead (s : State) (t : Trunk) (c : Channel) : Bool :=
  decide ((s.queue t).head?.map (·.channel) = some c)

/-- An entry leaves its queue; a removed head is a change of head and sends a service event (R68, R69). -/
def State.removeEntry (s : State) (c : Channel) : State :=
  match (s.chan c).trunk with
  | some t => if s.isHead t c then (s.leaveQueue c).serviceEvent t else s.leaveQueue c
  | none => s

/-- What leaving a state calls for besides the record: from QUEUED the removal of the entry (R68); from PROBE, FILL and
ON the return of the reservation (R15); from PROBE and FILL also an abort, unless the Staged Energize Unit's own claim
ended the run (R48). The return is made in the same change, before the abort is taken (R87; log entry 2). -/
def State.quit (s : State) (c : Channel) (left : ChanState) (abort : Bool) : State :=
  match left with
  | .QUEUED => s.removeEntry c
  | .PROBE | .FILL => if abort then (s.returnCharge c).send (.abort c) else s.returnCharge c
  | .ON => s.returnCharge c
  | _ => s

/-- A channel goes to an undriven state by a claim or request (2.2): energize intent is yes only in INHIBITED (R26); the
time stamp, the ON-stable timer and both causes become absent, but for what `f` sets; a pulse is cut short (R115); and
the old state is quit. -/
def State.leaveFor (s : State) (c : Channel) (st : ChanState) (abort : Bool) (f : ChannelRec → ChannelRec) : State :=
  ((s.updChan c fun r => f { r with
      state := st, intent := decide (st = .INHIBITED), stamp := none, onStable := none, faultCause := none,
      shedCause := none }).endPulse c).quit c (s.chan c).state abort

/-- A lease ends (R32): the channel goes to FREE and every field of the lease becomes absent; a free report follows
unless the channel is locked out; the Line Unit is told when a line's lease ended otherwise than by its own release. -/
def State.endLease (s : State) (c : Channel) (ownRelease : Bool) (abort : Bool) : State :=
  let freed := s.leaveFor c .FREE abort fun r => { r with lease := none }
  let reported := if (s.chan c).lockedOut then freed else freed.send (.freeReport c)
  match s.holder c with
  | some (.line l) => if ownRelease then reported else reported.send (.lineLeaseEnded l)
  | _ => reported

/-- The Lease Manager takes a fault (R43): FAULTED with a FAULT notice at the first and second, FREE with the
locked-out mark and a LOCKOUT notice to the former holder at the third. -/
def State.takeFault (s : State) (c : Channel) (cause : FaultCause) (abort : Bool) : State :=
  let n := (s.chan c).faultCount + 1
  if n < Config.lockoutFaults then
    (s.leaveFor c .FAULTED abort fun r => { r with faultCause := some cause, faultCount := n }).postHolder
      .leaseManager c ⟨.FAULT, .channel c, some (.fault cause), some (.count n)⟩
  else
    let ended := (s.updChan c fun r =>
      { r with faultCount := Config.lockoutFaults, lockedOut := true }).endLease c false abort
    match s.holderPort c with
    | some p =>
      ended.post .leaseManager p ⟨.LOCKOUT, .channel c, some (.fault cause), some (.count Config.lockoutFaults)⟩
    | none => ended

/-! ### The Lease Manager's hold-backs (R37, R50) -/

/-- The channel that a channel byte of a request names (Table 11-2). -/
def channelOf (b : Byte) : Option Channel := if h : b.toNat < 12 then some ⟨b.toNat, h⟩ else none

/-- The channel of a claim or request for the Lease Manager. -/
def leaseChannel : Instr → Option Channel
  | .claim _ ch .. | .release _ ch | .adopt _ ch | .deEnergize _ ch | .clearFault _ ch | .restate _ ch _
  | .readChannel _ ch => channelOf ch
  | .channelProfileClaim _ c _ | .lockoutReleaseClaim c | .shedClaim _ c | .tripClaim _ c _ _
  | .queueEntryClaim c _ | .withholdClaim c _ | .admitClaim _ c _ _ _ | .waitExpiryClaim c | .flushClaim c _
  | .advanceClaim c | .completionClaim c | .prechargeFailureClaim c _ | .shortDetectionTaken c
  | .lineClaim _ c _ _ | .lineRelease _ c | .inhibitClaim _ c | .resumeClaim _ c => some c
  | _ => none

/-- The port of a session claim, which concerns every channel the port holds. -/
def sessionPort : Instr → Option Port
  | .openClaim p _ | .lapseClaim p | .closeClaim p => some p
  | _ => none

/-- A claim or request concerns a channel: it names it, or is a session claim of the port that holds it. -/
def State.concerns (s : State) (i : Instr) (c : Channel) : Bool :=
  decide (leaseChannel i = some c)
    || (sessionPort i).any fun p => decide (s.holderPort c = some p)

/-- An admission of the channel is in flight (R37): an ENERGIZE in hand, or a pass whose admission claim awaits its
answer or whose admit claim is not yet taken or dropped. -/
def State.admissionInFlight (s : State) (c : Channel) : Bool :=
  (s.inHand c).isSome || (List.finRange 3).any fun t =>
    (s.pass t).claim.any fun k => decide (k.channel = c) && decide (k.stage ≠ .settled)

/-- The port that a request comes from. -/
def requestPort (i : Instr) : Option Port := (encodeRequest i).map (·.1.port)

/-- A request or session claim of the port is held back: what a port sent earlier is taken first (R29). -/
def State.heldFrom (s : State) (p : Port) : Bool :=
  s.heldBack.any fun i => decide (requestPort i = some p) || decide (sessionPort i = some p)

/-- The channel of a claim of the Line Unit. -/
def lineChannel : Instr → Option Channel
  | .lineClaim _ c _ _ | .lineRelease _ c | .inhibitClaim _ c | .resumeClaim _ c => some c
  | _ => none

/-- A claim of the Line Unit for the channel is held back: what the Line Unit sent earlier is taken first (R46). -/
def State.heldFromLines (s : State) (c : Channel) : Bool := s.heldBack.any fun i => decide (lineChannel i = some c)

/-- The Lease Manager holds back every claim and request for a channel whose restated reservation awaits its answer, a
RESTATE for a channel whose admission is in flight (R37), an inhibit for a channel in IDLE or SHED while an ENERGIZE
for it is in hand (R50), a session claim of a port while something that port sent before it is held back (R29), and a
claim of the Line Unit for a channel while an earlier one of it for that channel is held back (R46). -/
def State.leaseBlocked (s : State) (i : Instr) : Bool :=
  ((List.finRange 12).any fun c => s.concerns i c && (s.chan c).restating.isSome)
    || (sessionPort i).any s.heldFrom
    || (lineChannel i).any s.heldFromLines
    || match i with
      | .restate _ ch _ => (channelOf ch).any s.admissionInFlight
      | .inhibitClaim _ c =>
        (s.inHand c).isSome && (decide ((s.chan c).state = .IDLE) || decide ((s.chan c).state = .SHED))
      | _ => false

/-! ### The Admission Unit's hold-back (R59) -/

/-- A claim of the Admission Unit for the channel awaits its answer, for an ENERGIZE or for a service pass: a later
ENERGIZE for the channel is held back (R59; log entry 15). -/
def State.energizeBlocked (s : State) (c : Channel) : Bool :=
  (s.inHand c).isSome || (List.finRange 3).any fun t => (s.pass t).claim.any fun k => decide (k.channel = c)

end Sys2Proof.Machine
end

