-- ==== Sys2Proof/Machine/Flags.lean ====
section
/-! DEFINITION. The levels and conditions of the part that follow from its records at every moment: the commanded drive,
the trip hold, the gate-drive output, the comparator's arming, ATTN, the headroom, the permission of the VETO lines. They are
computed, not stored, so they change in the same change as the record they follow (R114, R116, R173). -/

namespace Sys2Proof.Machine

/-- The drive of a channel state (Table 2-3). -/
inductive Drive where
  | off | pulsing | on
  deriving DecidableEq, Repr

/-- The commanded drive follows the channel state (R114). -/
def State.commanded (s : State) (c : Channel) : Drive :=
  match (s.chan c).state with
  | .PROBE | .FILL => .pulsing
  | .ON => .on
  | _ => .off

/-- The trip hold: set while the trunk that the channel profile names is TRIPPED (R116). -/
def State.tripHold (s : State) (c : Channel) : Bool :=
  (s.profile c).trunk.any fun t => decide ((s.trunk t).state = some .TRIPPED)

/-- The gate-drive output: the switch is closed (R114). It is open while reset is held. -/
def State.switchClosed (s : State) (c : Channel) : Bool :=
  !s.inReset && !(s.driver c).shortHold && !s.tripHold c
    && match s.commanded c with
      | .off => false
      | .on => true
      | .pulsing => (s.driver c).pulse.isSome

/-- The hard-short comparator is armed while the drive is on or pulsing and no hold is set (R112). -/
def State.armed (s : State) (c : Channel) : Bool :=
  decide (s.commanded c ≠ .off) && !(s.driver c).shortHold && !s.tripHold c

/-- ATTN is asserted while the queue holds a notice or the lost count is above 0 (R173). -/
def PortRec.attn (r : PortRec) : Bool := !r.queue.isEmpty || decide (0 < r.lost)

/-- The headroom of a configured trunk: its rating less its reserved sum, which may be negative (R18). -/
def TrunkRec.headroom (r : TrunkRec) : Option Int := r.profile.map fun p => (p.rating : Int) - (r.reserved : Int)

/-- A demand line is asserted: its debounced level is high; undetermined counts as low (R118). -/
def LineRec.high (r : LineRec) : Bool := decide (r.level = some true)

/-- Some VETO line bound to the channel, other than `except`, has its level low or undetermined (R126, R129). -/
def State.vetoedBy (s : State) (c : Channel) (except : Option Line) : Bool :=
  (List.finRange 4).any fun l =>
    decide (except ≠ some l) && decide ((s.line l).binding = .VETO c) && !(s.line l).high

/-- Permission for the channel is withheld (R126). -/
def State.withheld (s : State) (c : Channel) : Bool := decide (s.config.phase = .SERVICE) && s.vetoedBy c none

/-- The access mask of the channel's profile permits the port. -/
def State.permits (s : State) (c : Channel) (p : Port) : Bool := (s.profile c).mask.getLsbD p.val

/-- The trunk current I (R7): the sum of the latest current samples of all channels whose profile names the trunk. -/
def State.trunkCurrent (s : State) (t : Trunk) : Nat :=
  ((List.finRange 12).map fun c => if (s.profile c).trunk = some t then s.sense.current[c] else 0).sum

/-- The staged flag of a channel's profile (R73). -/
def State.staged (s : State) (c : Channel) : Bool := (s.profile c).precharge.isSome

/-- The need of a channel (R61): the larger of precharge allowance and declared current for a staged channel, the
declared current otherwise. -/
def State.need (s : State) (c : Channel) : Nat :=
  match (s.profile c).precharge with
  | some p => max p.allowance (s.declared c)
  | none => s.declared c

/-- The number of channels that a port holds under its current epoch in the Lease Manager's port view (R164). -/
def State.heldCount (s : State) (p : Port) : Nat := (channelsWhere fun c => s.isHolder p c).length

/-- The trip heat of a TRIPPED trunk, with which an entry that joins its queue is flushed (R71). -/
def State.heatIfTripped (s : State) (t : Trunk) : Option Nat :=
  if (s.trunk t).state = some .TRIPPED then some (s.trunk t).tripHeat else none

/-- The trip heat that a channel's entry in a queue joined with, if the trunk was TRIPPED then (R71). -/
def flushHeat (q : List Entry) (c : Channel) : Option Nat :=
  (q.find? fun e => decide (e.channel = c)).bind (·.tripHeat)

/-- The number of entries ahead of a channel's entry in a queue. -/
def entriesAhead (q : List Entry) (c : Channel) : Nat := (q.takeWhile fun e => decide (e.channel ≠ c)).length

end Sys2Proof.Machine
end

