-- ==== Sys2Proof/Machine/Operands.lean ====
section
/-! DEFINITION. The operand forms of requests: each raw field of a payload, checked against its range and step and turned into
the quantity it stands for (Table 11-2, Tables 8-2 to 8-4 and 4-1); `none` is BAD_ARGUMENT from the owner (R176). -/

namespace Sys2Proof.Machine

/-- A trunk byte, 0–2. -/
def trunkOf (b : Byte) : Option Trunk := if h : b.toNat < 3 then some ⟨b.toNat, h⟩ else none

/-- A port byte, 0–3. -/
def portOf (b : Byte) : Option Port := if h : b.toNat < 4 then some ⟨b.toNat, h⟩ else none

/-- A line byte, 0–3. -/
def lineOf (b : Byte) : Option Line := if h : b.toNat < 4 then some ⟨b.toNat, h⟩ else none

/-- The trunk byte of a channel profile, where 3 is UNUSED: `some none`. -/
def profileTrunkOf (b : Byte) : Option (Option Trunk) :=
  if b = 3#8 then some none else (trunkOf b).map some

/-- A current field, 1–655 in 100 mA units: 100–65,500 mA. -/
def currentOf (w : BitVec 16) : Option Nat :=
  if 1 ≤ w.toNat ∧ w.toNat ≤ 655 then some (100 * w.toNat) else none

/-- A priority byte, 0–7. -/
def priorityOf (b : Byte) : Option Nat := if b.toNat ≤ 7 then some b.toNat else none

/-- An orphan policy byte with the successor byte, which is checked only for HAND (R31, R176). -/
def orphanOf (policy successor : Byte) : Option Orphan :=
  if policy = 0#8 then some .KEEP
  else if policy = 1#8 then some .DROP
  else if policy = 2#8 then (portOf successor).map .HAND
  else none

/-- A wait limit or supervision period byte, in 10 ms units: 0, or 10–2,550 ms. Every byte is in range. -/
def tenMsOf (b : Byte) : Nat := 10 * b.toNat

/-- A trunk profile block in range (Table 8-2). -/
def trunkProfileOf (b : TrunkBlock) : Option (Trunk × TrunkProfile) :=
  match trunkOf b.trunk with
  | none => none
  | some t =>
    if 10 ≤ b.rating.toNat ∧ b.rating.toNat ≤ 2500 ∧ 10 ≤ b.tNom.toNat ∧ 4 ≤ b.k.toNat ∧ b.k.toNat ≤ 16
        ∧ 1 ≤ b.margin.toNat ∧ b.margin.toNat ≤ 10
    then some (t, ⟨100 * b.rating.toNat, b.tNom.toNat, b.k.toNat, 10 * b.margin.toNat⟩)
    else none

/-- Precharge fields in range, with the fill on-time below the fill period (Table 4-1, R73). -/
def prechargeOf (b : PrechargeBlock) : Option Precharge :=
  if 1 ≤ b.allowance.toNat ∧ b.allowance.toNat ≤ 655 ∧ 4 ≤ b.probePeriod.toNat ∧ b.probePeriod.toNat ≤ 16
      ∧ 1 ≤ b.probeOn.toNat ∧ 4 ≤ b.pulseLimit.toNat ∧ b.pulseLimit.toNat ≤ 40 ∧ 1 ≤ b.target.toNat
      ∧ b.target.toNat ≤ 15 ∧ 1 ≤ b.fillPeriod.toNat ∧ b.fillPeriod.toNat ≤ 80 ∧ 1 ≤ b.fillOn.toNat
      ∧ b.fillOn.toNat < 50 * b.fillPeriod.toNat ∧ 1 ≤ b.fillTimeout.toNat
  then some {
    allowance := 100 * b.allowance.toNat
    probePeriod := 500 * b.probePeriod.toNat
    probeOn := b.probeOn.toNat
    pulseLimit := b.pulseLimit.toNat
    target := b.target.toNat
    fillPeriod := 50 * b.fillPeriod.toNat
    fillOn := b.fillOn.toNat
    fillTimeout := 10 * Config.msec * b.fillTimeout.toNat }
  else none

/-- The precharge fields of a channel profile block, absent with the staged flag clear. -/
def optionalPrechargeOf : Option PrechargeBlock → Option (Option Precharge)
  | none => some none
  | some p => (prechargeOf p).map some

/-- A channel profile block in range (Table 8-3, Table 4-1). -/
def channelProfileOf (b : ChannelBlock) : Option (Channel × ChannelProfile) :=
  match channelOf b.channel, profileTrunkOf b.trunk, optionalPrechargeOf b.precharge with
  | some c, some t, some p =>
    if b.mask.toNat < 16 ∧ 10 ≤ b.limit.toNat ∧ b.limit.toNat ≤ 655
    then some (c, ⟨t, b.mask.truncate 4, 100 * b.limit.toNat, p⟩)
    else none
  | _, _, _ => none

/-- The part of a line binding block that its mode selects, in range (Table 8-4). -/
def bindingOf : LineBody → Option Binding
  | .NONE => some .NONE
  | .ASSIST ch cur prio =>
    match channelOf ch, currentOf cur, priorityOf prio with
    | some c, some mA, some p => some (.ASSIST c mA p)
    | _, _, _ => none
  | .VETO ch => (channelOf ch).map .VETO

/-- A line binding block in range (Table 8-4). -/
def lineBindingOf (b : LineBlock) : Option (Line × Binding) :=
  match lineOf b.line, bindingOf b.body with
  | some l, some x => some (l, x)
  | _, _ => none

/-- The kind, target and new values of a PROPOSE, in range (R139). -/
def proposalOf : ProposeBlock → Option ProposalBody
  | .trunk b => (trunkProfileOf b).map fun x => .trunk x.1 x.2
  | .channel b => (channelProfileOf b).map fun x => .channel x.1 x.2
  | .line b => (lineBindingOf b).map fun x => .line x.1 x.2
  | .lockout ch => (channelOf ch).map .lockout

end Sys2Proof.Machine
end

