-- ==== Sys2Proof/Machine/Records.lean ====
section
/-! DEFINITION. The bytes that a host reads: status codes (Table 11-4), state and cause encodings (Table 11-7), the records of
11.4 and the absence codes of R177. -/

namespace Sys2Proof.Machine

/-- The status codes of Table 11-4. -/
def statusCode : Status → Byte
  | .OK => 0x00#8 | .ACCEPTED => 0x01#8 | .NONE => 0x02#8 | .EMPTY => 0x03#8 | .BAD_FRAME => 0x10#8
  | .BAD_ARGUMENT => 0x11#8 | .NOT_OPEN => 0x12#8 | .WRONG_PHASE => 0x13#8 | .STATE => 0x14#8
  | .NOT_PERMITTED => 0x15#8 | .HELD => 0x16#8 | .LOCKED_OUT => 0x17#8 | .NOT_LAPSED => 0x18#8
  | .NO_HEADROOM => 0x19#8 | .FAULTED => 0x1A#8 | .TRUNK_TRIPPED => 0x1B#8 | .NOT_COOL => 0x1C#8
  | .INCOMPLETE => 0x1D#8 | .SLOT_BUSY => 0x1E#8 | .NO_PROPOSAL => 0x1F#8 | .SELF_CONCUR => 0x20#8

/-- The EMPTY frame that an empty response holder clocks out (R149, R175). -/
def emptyFrame : List Byte := frame 0x5A#8 0x00#8 (statusCode .EMPTY) []

/-- A response frame: sync 0x5A (Table 11-1). -/
def responseFrame (tag : Byte) (st : Status) (payload : List Byte) : List Byte :=
  frame 0x5A#8 tag (statusCode st) payload

/-- Channel states (Table 11-7). -/
def chanStateByte : ChanState → Byte
  | .FREE => 0#8 | .IDLE => 1#8 | .QUEUED => 2#8 | .PROBE => 3#8 | .FILL => 4#8 | .ON => 5#8 | .INHIBITED => 6#8
  | .SHED => 7#8 | .FAULTED => 8#8

/-- Trunk states, 0xFF absent (Table 11-7). -/
def trunkStateByte : Option TrunkState → Byte
  | some .NORMAL => 0#8 | some .WARM => 1#8 | some .SHEDDING => 2#8 | some .TRIPPED => 3#8 | none => 0xFF#8

/-- Port states (Table 11-7). -/
def portStateByte : PortState → Byte
  | .DOWN => 0#8 | .LIVE => 1#8 | .LAPSED => 2#8

/-- Fault causes (Table 11-7). -/
def faultCauseByte : FaultCause → Byte
  | .SHORT => 0x03#8 | .PRECHARGE_SHORT => 0x04#8 | .PRECHARGE_TIMEOUT => 0x05#8

/-- Shed causes (Table 11-7). -/
def shedCauseByte : ShedCause → Byte
  | .SHED => 0x01#8 | .TRIP => 0x02#8

/-- Proposal kinds (Table 11-2). -/
def kindByte : ProposalKind → Byte
  | .TRUNK_PROFILE => 0#8 | .CHANNEL_PROFILE => 1#8 | .LINE_BINDING => 2#8 | .RELEASE_LOCKOUT => 3#8

/-- Notice kinds (Table 11-7). -/
def noticeKindByte : NoticeKind → Byte
  | .GRANTED => 0x01#8 | .ENERGIZED => 0x02#8 | .SHED => 0x03#8 | .TRIPPED => 0x04#8 | .CLEARED => 0x05#8
  | .FAULT => 0x06#8 | .LOCKOUT => 0x07#8 | .OVERDRAW => 0x08#8 | .INHIBITED => 0x09#8 | .RESUMED => 0x0A#8
  | .WAIT_EXPIRED => 0x0B#8 | .QUEUE_FLUSHED => 0x0C#8 | .LEASE_HANDED => 0x0D#8 | .LEASE_ADOPTED => 0x0E#8
  | .PROPOSAL => 0x0F#8 | .APPLIED => 0x10#8 | .REFUSED => 0x11#8 | .WITHDRAWN => 0x12#8 | .EXPIRED => 0x13#8

/-- The cause byte of a notice, 0xFF absent (Table 11-12). -/
def noticeCauseByte : Option NoticeCause → Byte
  | none => 0xFF#8
  | some (.shed c) => shedCauseByte c
  | some (.fault c) => faultCauseByte c
  | some (.withdraw .WITHDRAW) => 0x06#8
  | some (.withdraw .LAPSE) => 0x07#8
  | some (.withdraw .CLOSE) => 0x08#8
  | some (.kind k) => kindByte k
  | some (.status st) => statusCode st

/-- The holder code of a port or a line (Table 11-2). -/
def portHolderByte (p : Port) : Byte := BitVec.ofNat 8 p.val

/-- The holder code of a demand line (Table 11-2). -/
def lineHolderByte (l : Line) : Byte := BitVec.ofNat 8 (0x10 + l.val)

/-- The holder byte, 0xFF absent (Table 11-2). -/
def holderByte : Option Holder → Byte
  | none => 0xFF#8
  | some (.port p _) => portHolderByte p
  | some (.line l) => lineHolderByte l

/-- The value bytes of a notice, 0xFFFFFF absent (Table 11-12). -/
def noticeValueBytes : Option NoticeValue → List Byte
  | none => [0xFF#8, 0xFF#8, 0xFF#8]
  | some (.heat n) => nat24 n
  | some (.current n) => nat24 n
  | some (.count n) => nat24 n
  | some (.port p) => nat24 p.val
  | some (.line l) => nat24 (0x10 + l.val)
  | some (.state st) => nat24 (chanStateByte st).toNat

/-- The subject bytes of a notice (Table 11-12). -/
def subjectBytes : Subject → List Byte
  | .channel c => nat16 c.val
  | .trunk t => nat16 t.val
  | .proposal n => be16 n

/-- The notice record, 8 bytes (Table 11-12). -/
def noticeRecord (q : QueuedNotice) : List Byte :=
  [q.seq, noticeKindByte q.notice.kind] ++ subjectBytes q.notice.subject ++ [noticeCauseByte q.notice.cause]
    ++ noticeValueBytes q.notice.value

/-- Time left in whole ms. A part of a millisecond is rounded as the free value `Config.roundsUp` says (log entry 6). -/
def msLeft (us : Nat) : Nat :=
  if us % Config.msec = 0 then us / Config.msec
  else if Config.roundsUp us then us / Config.msec + 1 else us / Config.msec

/-- A timer field of two bytes, 0xFFFF absent. -/
def timerBytes : Option Nat → List Byte
  | none => [0xFF#8, 0xFF#8]
  | some us => nat16 (msLeft us)

/-- One byte of a number. -/
def byteOf (n : Nat) : Byte := BitVec.ofNat 8 n

/-- A bit of a flag byte. -/
def flagBit (b : Bool) (weight : Nat) : Nat := if b then weight else 0

/-- The trunk byte of a channel, 3 for UNUSED (Table 11-2). -/
def trunkByte : Option Trunk → Byte
  | some t => byteOf t.val
  | none => 3#8

/-- The lease-terms byte: the policy in bits 3–2, 3 when absent; the successor in bits 1–0, 0 unless HAND (R177). Table 11-8 gives
bits 7–4 no field; they read 0 (DESIGN CHOICE, log entry 37). -/
def leaseTermsByte : Option Orphan → Byte
  | some .KEEP => 0x00#8
  | some .DROP => 0x04#8
  | some (.HAND p) => byteOf (0x08 + p.val)
  | none => 0x0C#8

/-- The epoch bytes: 0 unless the holder is a port (R177). -/
def epochBytes : Option Holder → List Byte
  | some (.port _ e) => be16 e
  | _ => [0#8, 0#8]

/-- The cause byte of a channel: the fault cause in FAULTED, the shed cause in SHED, 0xFF otherwise (Table 11-8). -/
def channelCauseByte (r : ChannelRec) : Byte :=
  match r.state, r.faultCause, r.shedCause with
  | .FAULTED, some c, _ => faultCauseByte c
  | .SHED, _, some c => shedCauseByte c
  | _, _, _ => 0xFF#8

/-- The channel status record, 24 bytes (Table 11-8, R38). The table gives bit 5 of byte 13 no field; it reads 0 (DESIGN CHOICE, log
entry 37). -/
def State.channelRecord (s : State) (c : Channel) : List Byte :=
  let r := s.chan c
  let a := s.acct c
  [byteOf c.val, trunkByte r.trunk, chanStateByte r.state, holderByte (s.holder c)]
    ++ epochBytes (s.holder c)
    ++ [leaseTermsByte (r.lease.bind (·.orphan))]
    ++ nat16 (s.declared c / 100)
    ++ [match r.lease with | some l => byteOf l.priority | none => 0xFF#8,
        match r.lease with | some l => byteOf (l.wait / 10) | none => 0#8]
    ++ nat16 (a.reservation / 100)
    ++ [byteOf (r.faultCount * 64 + a.runCount),
        byteOf ((s.profile c).mask.toNat * 16 + flagBit (s.staged c) 8 + flagBit r.lockedOut 4 + flagBit r.intent 2
          + flagBit a.overdrawn 1),
        channelCauseByte r]
    ++ (match r.stamp with | some x => be32 x | none => [0#8, 0#8, 0#8, 0#8])
    ++ timerBytes r.onStable
    ++ nat16 s.sense.current[c]

/-- A profile field of a trunk, 0 when absent (R177). -/
def profileField (r : TrunkRec) (f : TrunkProfile → Nat) : Nat :=
  match r.profile with
  | some p => f p
  | none => 0

/-- The trunk status record, 20 bytes (Table 11-9, R23). The table gives bits 7–2 of byte 1 no field; they read 0 (DESIGN CHOICE, log
entry 37). -/
def State.trunkRecord (s : State) (t : Trunk) : List Byte :=
  let r := s.trunk t
  [byteOf t.val, byteOf (flagBit r.latch 2 + flagBit r.profile.isSome 1)]
    ++ nat16 (profileField r (·.rating) / 100)
    ++ nat16 (profileField r (·.tNom))
    ++ [byteOf (profileField r (·.k)), byteOf (profileField r (·.margin) / 10)]
    ++ nat24 r.heat
    ++ [trunkStateByte r.state]
    ++ nat16 (r.reserved / 100)
    ++ (match r.headroom with | some h => be16 (BitVec.ofInt 16 (h / 100)) | none => [0x80#8, 0x00#8])
    ++ [match r.slot with | some c => byteOf c.val | none => 0xFF#8]
    ++ (match r.lastShed with | some h => nat24 h | none => [0xFF#8, 0xFF#8, 0xFF#8])

/-- The port status record, 11 bytes (Table 11-10, R164). -/
def State.portRecord (s : State) (p : Port) : List Byte :=
  let r := s.port p
  [portHolderByte p, portStateByte r.state] ++ be16 r.epoch
    ++ [match r.period with | some ms => byteOf (ms / 10) | none => 0#8]
    ++ timerBytes r.timer
    ++ [byteOf r.queue.length, byteOf r.lost, r.seq, byteOf (s.heldCount p)]

/-- The kind of a proposal. -/
def ProposalBody.kindOf : ProposalBody → ProposalKind
  | .trunk _ _ => .TRUNK_PROFILE
  | .channel _ _ => .CHANNEL_PROFILE
  | .line _ _ => .LINE_BINDING
  | .lockout _ => .RELEASE_LOCKOUT

/-- The precharge part of a channel profile block, from the profile's quantities (Table 11-5). -/
def prechargeBytes (p : Precharge) : List Byte :=
  nat16 (p.allowance / 100) ++ [byteOf (p.probePeriod / 500), byteOf p.probeOn, byteOf p.pulseLimit, byteOf p.target,
    byteOf (p.fillPeriod / 50), byteOf p.fillOn, byteOf (p.fillTimeout / (10 * Config.msec))]

/-- The block of a proposal's kind (Table 11-5), from its target and new values. -/
def ProposalBody.block : ProposalBody → List Byte
  | .trunk t p => byteOf t.val :: (nat16 (p.rating / 100) ++ nat16 p.tNom ++ [byteOf p.k, byteOf (p.margin / 10)])
  | .channel c p =>
    [byteOf c.val, trunkByte p.trunk, byteOf p.mask.toNat] ++ nat16 (p.limit / 100)
      ++ (match p.precharge with | none => [0#8] | some x => 1#8 :: prechargeBytes x)
  | .line l .NONE => [byteOf l.val, 0#8]
  | .line l (.ASSIST c cur prio) => [byteOf l.val, 1#8, byteOf c.val] ++ nat16 (cur / 100) ++ [byteOf prio]
  | .line l (.VETO c) => [byteOf l.val, 2#8, byteOf c.val]
  | .lockout c => [byteOf c.val]

/-- The slot status bits (Table 11-7). -/
def slotStatusCode : Option Proposal → Nat
  | none => 0
  | some x => match x.status with
    | .OPEN _ => 1
    | .APPLYING _ => 2

/-- Append 0x00 up to a length. -/
def padTo (n : Nat) (l : List Byte) : List Byte := l ++ List.replicate (n - l.length) 0#8

/-- The proposer and concurrer byte (Table 11-11). The table gives bits 7, 3 and 2 no field; they read 0 (DESIGN CHOICE, log entry
37). -/
def partiesByte (x : Proposal) : Byte :=
  match x.status with
  | .OPEN _ => byteOf x.proposer.val
  | .APPLYING q => byteOf (64 + q.val * 16 + x.proposer.val)

/-- The window timer of a proposal, absent unless OPEN (Table 8-6). -/
def Proposal.timer (x : Proposal) : Option Nat :=
  match x.status with
  | .OPEN us => some us
  | .APPLYING _ => none

/-- The proposal record, 24 bytes (Table 11-11, R146, R177). The table gives bits 7–3 of byte 0 no field; they read 0 (DESIGN CHOICE,
log entry 37). -/
def State.proposalRecord (s : State) : List Byte :=
  let cfg := s.config
  padTo 24 ([byteOf (slotStatusCode cfg.slot * 2 + flagBit (decide (cfg.phase = .SERVICE)) 1)] ++ be16 cfg.counter
    ++ match cfg.slot with
      | none => [0#8, 0#8, 0#8, 0#8, 0xFF#8, 0xFF#8]
      | some x => be16 x.number ++ [partiesByte x, kindByte x.body.kindOf] ++ timerBytes x.timer ++ x.body.block)

end Sys2Proof.Machine
end

