-- ==== Sys2Proof/Machine/Port.lean ====
section
/-! DEFINITION. The Port Units (Chapter 9): the select window, the taking of a request frame, the response, the requests that
the Port Unit owns (OPEN, CLOSE, PING, READ PORT, READ IDENT, READ NOTICE), and the lapse. -/

namespace Sys2Proof.Machine

/-- The bytes 0x00 that a Port Unit clocks out in a window it does not take (R148, R150, R178). -/
def zeros (n : Nat) : List Byte := List.replicate n 0#8

/-- The bytes clocked out in a window of `n` bytes: the holder's frame, or EMPTY, cut short or followed by 0x00 (R149). -/
def shown (holder : Option (List Byte)) (n : Nat) : List Byte :=
  let f := holder.getD emptyFrame
  f.take n ++ zeros (n - f.length)

/-- A select window. While reset is held, in a window that began before its release, and while a request is in hand, the
Port Unit clocks out 0x00 and discards the input (R148, R178, R150); otherwise the response holder is clocked out and
emptied (R149), and the Port Unit acts on the bytes. -/
def State.window (s : State) (p : Port) (bytes : List Byte) (act : State → State) : State :=
  if s.inReset then s.updPort p fun r => { r with clockedOut := zeros bytes.length }
  else if (s.port p).selHeld then s.updPort p fun r => { r with selHeld := false, clockedOut := zeros bytes.length }
  else if (s.port p).inHand.isSome then s.updPort p fun r => { r with clockedOut := zeros bytes.length }
  else act (s.updPort p fun r => { r with clockedOut := shown r.holder bytes.length, holder := none })

/-- The supervision timer of a LIVE port restarts at its period, if that is not 0 (R161). -/
def PortRec.restart (r : PortRec) : PortRec :=
  if r.state = .LIVE then
    { r with timer := match r.period with
        | some ms => if ms = 0 then none else some (ms * Config.msec)
        | none => none }
  else r

/-- The response to the request in hand is formed (R155): it goes into the holder and, with the request's tag and CRC,
into the replay memory; no request is in hand after it. Without a request in hand there is nothing to answer. -/
def State.finish (s : State) (p : Port) (st : Status) (payload : List Byte) : State :=
  match (s.port p).inHand with
  | none => s
  | some q => s.updPort p fun r => { r with
      holder := some (responseFrame q.tag st payload)
      replay := some ⟨q.tag, q.crc, responseFrame q.tag st payload⟩
      inHand := none }

/-- A frame is taken (steps 2 and 3 of R154): request in hand becomes yes; the request is passed to its owner when the
session permits it, and refused with NOT_OPEN otherwise. -/
def State.takeRequest (s : State) (p : Port) (tag crc : Byte) (anyState : Bool) (own : State → State) : State :=
  let taken := s.updPort p fun r => { r.restart with inHand := some ⟨tag, crc⟩ }
  if anyState || decide ((s.port p).state = .LIVE) then own taken else taken.finish p .NOT_OPEN []

/-- The stored response that answers a frame, when the frame is a replay: its tag and CRC equal those in the replay
memory (R153). -/
def PortRec.replayOf (r : PortRec) (tag crc : Byte) : Option (List Byte) :=
  match r.replay with
  | some m => if m.tag = tag ∧ m.crc = crc then some m.response else none
  | none => none

/-- A request frame that passed the frame check: a replay is answered from the memory and not executed (R153), any other
frame is taken (R154). Either way the supervision timer of a LIVE port restarts (R161). -/
def State.accept (s : State) (p : Port) (tag crc : Byte) (anyState : Bool) (own : State → State) : State :=
  match (s.port p).replayOf tag crc with
  | some f => s.updPort p fun r => { r.restart with holder := some f }
  | none => s.takeRequest p tag crc anyState own

/-- OPEN and READ IDENT are taken in every port state (R154). -/
def anyPortState : Instr → Bool
  | .openPort _ _ | .readIdent _ => true
  | _ => false

/-- The window of a request of a host port: its frame passes the check of R152 by construction. -/
def State.hostRequest (s : State) (i : Instr) (own : State → State) : State :=
  match encodeRequest i with
  | none => s
  | some (r, code, payload) =>
    s.window r.port (requestFrame r.tag code payload ++ r.trail) fun s =>
      s.accept r.port r.tag (crc8 (covered r.tag code payload)) (anyPortState i) own

/-! ### The requests that the Port Unit owns (R157 to R160, R164, R165, R170) -/

/-- OPEN, judged by the Port Unit (R157): from LIVE it is answered STATE; otherwise the epoch advances, the port becomes
LIVE with its period, the replay memory is cleared, the queue too when the port was DOWN (R172), and the OPEN claim and
report are sent. The response is formed when the Lease Manager has answered. -/
def State.ownOpen (s : State) (p : Port) (period : Byte) : State :=
  let r := s.port p
  if r.state = .LIVE then s.finish p .STATE (be16 r.epoch)
  else
    let opened : PortRec := { r with
      state := .LIVE
      epoch := r.epoch + 1
      period := some (tenMsOf period)
      timer := if tenMsOf period = 0 then none else some (tenMsOf period * Config.msec)
      replay := none }
    let cleared : PortRec := if r.state = .DOWN then { opened with queue := [], lost := 0 } else opened
    ((s.updPort p fun _ => cleared).send (.openClaim p (r.epoch + 1))).send (.sessionReport p .OPEN)

/-- CLOSE, taken from a LIVE port (R159): the port becomes DOWN without a period or timer, its queue and replay memory are
cleared, and the CLOSE claim and report are sent. -/
def State.ownClose (s : State) (p : Port) : State :=
  ((s.updPort p fun r => { r with
      state := .DOWN, period := none, timer := none, queue := [], lost := 0, replay := none }).send
    (.closeClaim p)).send (.sessionReport p .CLOSE)

/-- PING is answered OK (R160). -/
def State.ownPing (s : State) (p : Port) : State := s.finish p .OK []

/-- READ PORT returns the record of the port it names (R164). The spec does not say whether the time left of the sender's own timer is
the one before or after the restart that the frame itself causes (R161): it is the one after, since `takeRequest` restarts the timer
first (DESIGN CHOICE, log entry 36). -/
def State.ownReadPort (s : State) (p : Port) (port : Byte) : State :=
  match portOf port with
  | none => s.finish p .BAD_ARGUMENT []
  | some q => s.finish p .OK (s.portRecord q)

/-- READ IDENT returns the part code, the revision, the port's index and its state (R165). -/
def State.ownReadIdent (s : State) (p : Port) : State :=
  s.finish p .OK (be16 Config.partCode ++ [Config.revision, portHolderByte p, portStateByte (s.port p).state])

/-- READ NOTICE removes and returns the oldest notice, or NONE, with the lost count, which becomes 0 (R170). -/
def State.ownReadNotice (s : State) (p : Port) : State :=
  let r := s.port p
  match r.queue with
  | [] => (s.updPort p fun r => { r with lost := 0 }).finish p .NONE [byteOf r.lost]
  | q :: rest =>
    (s.updPort p fun r => { r with queue := rest, lost := 0 }).finish p .OK
      (noticeRecord q ++ [byteOf r.lost, byteOf rest.length])

/-! ### The commands -/

/-- RESPONSE_READY: the owner's answer to a passed request arrives, and the response is formed (R155). -/
def execResponseReady (p : Port) (st : Status) (payload : List Byte) (s : State) : Host.Outcome State Fault Refusal :=
  .next (s.taking (.responseReady p st payload) fun s => s.finish p st payload)

/-- OPEN (R157). -/
def execOpenPort (r : Req) (period : Byte) (s : State) : Host.Outcome State Fault Refusal :=
  .next (s.hostRequest (.openPort r period) fun s => s.ownOpen r.port period)

/-- CLOSE (R159). -/
def execClosePort (r : Req) (s : State) : Host.Outcome State Fault Refusal :=
  .next (s.hostRequest (.closePort r) fun s => s.ownClose r.port)

/-- PING (R160). -/
def execPing (r : Req) (s : State) : Host.Outcome State Fault Refusal :=
  .next (s.hostRequest (.ping r) fun s => s.ownPing r.port)

/-- READ PORT (R164). -/
def execReadPort (r : Req) (port : Byte) (s : State) : Host.Outcome State Fault Refusal :=
  .next (s.hostRequest (.readPort r port) fun s => s.ownReadPort r.port port)

/-- READ IDENT (R165). -/
def execReadIdent (r : Req) (s : State) : Host.Outcome State Fault Refusal :=
  .next (s.hostRequest (.readIdent r) fun s => s.ownReadIdent r.port)

/-- READ NOTICE (R170). -/
def execReadNotice (r : Req) (s : State) : Host.Outcome State Fault Refusal :=
  .next (s.hostRequest (.readNotice r) fun s => s.ownReadNotice r.port)

/-- SUPERVISION_EXPIRY (R162): a LIVE port whose supervision timer runs becomes LAPSED; the timer becomes absent and the
rest of the record is kept; the lapse claim and report are sent. -/
def execSupervisionExpiry (p : Port) (s : State) : Host.Outcome State Fault Refusal :=
  .next <| s.running fun s =>
    if (s.port p).state = .LIVE ∧ (s.port p).timer.isSome then
      ((s.updPort p fun r => { r with state := .LAPSED, timer := none }).send (.lapseClaim p)).send
        (.sessionReport p .LAPSE)
    else s

/-- A copy of a notice at a port (R168): discarded at a DOWN port; otherwise it takes the present sequence number and
joins the queue, or is counted as lost at a full queue, and the sequence number advances. -/
def PortRec.takeCopy (r : PortRec) (n : Notice) : PortRec :=
  match r.state with
  | .DOWN => r
  | _ =>
    if r.queue.length < Config.noticeCapacity then { r with queue := r.queue ++ [⟨r.seq, n⟩], seq := r.seq + 1 }
    else { r with lost := min 255 (r.lost + 1), seq := r.seq + 1 }

/-- NOTICE_COPY_TAKEN (R168). -/
def execNoticeCopyTaken (sender : Block) (p : Port) (n : Notice) (s : State) : Host.Outcome State Fault Refusal :=
  .next (s.taking (.noticeCopyTaken sender p n) fun s => s.updPort p fun r => r.takeCopy n)

end Sys2Proof.Machine
end

