-- ==== Sys2Proof/Machine/Service.lean ====
section
/-! DEFINITION. The service passes of the Admission Unit over the queues (R63, R64). They stand before the Staged Energize Unit, which
takes an abort after the service event of its trunk (R87), and before the Lease Manager, whose flush lets a waiting pass go on. -/

namespace Sys2Proof.Machine

/-- Step 1 and 2 of a pass: with the queue empty there is nothing to offer; otherwise the head's need is offered. A head whose wait
limit has run out is not offered: the expiry came before the offer, so its entry leaves by R69 and the pass offers the new head (R70).
Until it has left, no entry behind it is offered (R64): the pass waits. -/
def State.offerHead (s : State) (t : Trunk) : State :=
  match s.queue t with
  | [] => s.updPass t fun x => { x with claim := none }
  | e :: _ =>
    if e.expired then s.updPass t fun _ => ⟨none, true⟩
    else
      (s.updPass t fun x => { x with claim := some ⟨e.channel, s.need e.channel, .asked⟩ }).send
        (.admissionClaim true t e.channel (s.need e.channel) (s.staged e.channel))

/-- A pass starts with no further pass marked (R64). -/
def State.startPass (s : State) (t : Trunk) : State := (s.updPass t fun _ => ⟨none, false⟩).offerHead t

/-- A pass ends; a marked further pass starts (R64). -/
def State.endPass (s : State) (t : Trunk) : State :=
  if (s.pass t).again then s.startPass t else s.updPass t fun _ => ⟨none, false⟩

/-- A pass goes on with the queue as it stands (step 5 of R64), and ends when it is empty. -/
def State.continuePass (s : State) (t : Trunk) : State :=
  if s.queue t = [] then s.endPass t else s.offerHead t

/-- A service event (R63, R64): a pass in progress is marked for one further pass; otherwise a pass starts. A pass that waits for an
expired head looks at the head again, and that no further pass is marked for the event is the model's choice (DESIGN CHOICE, log
entry 43). -/
def State.takeServiceEvent (s : State) (t : Trunk) : State :=
  if (s.pass t).claim.isSome then s.updPass t fun x => { x with again := true }
  else s.startPass t

/-- An entry has left the queue without a service event: a pass that waits for an expired head looks at the head again (R70; log
entry 43). -/
def State.resumePass (s : State) (t : Trunk) : State := if s.pass t = ⟨none, true⟩ then s.startPass t else s

end Sys2Proof.Machine
end

