-- ==== Sys2Proof/Machine/Staged.lean ====
section
/-! DEFINITION. The Staged Energize Unit (Chapter 4): one run for each trunk, its probe and fill phases, its claims to the
Lease Manager and their answers, and the abort. -/

namespace Sys2Proof.Machine

/-- The precharge fields of a channel's profile, present for a staged channel (R73), as they stand when they are read: a run keeps
none of its own. Between a release and the taking of the run's abort an applied profile may replace or remove them (DESIGN CHOICE, log
entry 42). -/
def State.precharge (s : State) (c : Channel) : Option Precharge := (s.profile c).precharge

/-- The probe target is reached: Vout × 16 ≥ n × Vfeed, on the latest samples (R80). -/
def State.reached (s : State) (t : Trunk) (c : Channel) (target : Nat) : Bool :=
  decide (target * s.sense.vfeed[t] ≤ s.sense.vout[c] * 16)

/-- An output voltage has settled: Vfeed − Vout < 100 mV (R83). -/
def settledAt (vfeed vout : Nat) : Bool := decide ((vfeed : Int) - (vout : Int) < 100)

/-- A start (R78): the run record of the channel's trunk is filled in PROBE, the first probe pulse is issued, and the
period timer starts. The spec does not say which trunk's record that is, nor what the start does to a run that stands there, when the
channel was released before the start is taken, or before its admit claim, and an applied CHANNEL PROFILE has moved it or made it staged:
the trunk and the precharge fields are those that the channel then has. The record of that trunk is overwritten; with no trunk, or with
no precharge fields, no run starts (DESIGN CHOICE, log entries 42 and 44). -/
def State.takeStart (s : State) (c : Channel) : State :=
  match (s.chan c).trunk, s.precharge c with
  | some t, some p => (s.setRun t (some ⟨c, .PROBE 1, none, some p.probePeriod⟩)).send (.pulseCommand c p.probeOn)
  | _, _ => s

/-- A check of the probe phase (R80): an advance claim at the target, a failure claim at the pulse limit, the next probe
pulse otherwise. -/
def State.probeCheck (s : State) (t : Trunk) (c : Channel) (pulses : Nat) (p : Precharge) : State :=
  if s.reached t c p.target then
    (s.setRun t (some ⟨c, .PROBE pulses, some .ADVANCE, none⟩)).send (.advanceClaim c)
  else if p.pulseLimit ≤ pulses then
    (s.setRun t (some ⟨c, .PROBE pulses, some .FAILURE, none⟩)).send (.prechargeFailureClaim c .PRECHARGE_SHORT)
  else
    (s.setRun t (some ⟨c, .PROBE (pulses + 1), none, some p.probePeriod⟩)).send (.pulseCommand c p.probeOn)

/-- The period timer of a run in PROBE expires (R80). -/
def State.probeExpiry (s : State) (t : Trunk) : State :=
  match s.run t with
  | some ⟨c, .PROBE pulses, none, some _⟩ =>
    match s.precharge c with
    | some p => s.probeCheck t c pulses p
    | none => s
  | _ => s

/-- The answer to an advance claim (R81): taken, the run is in FILL with the fill timer, the first fill pulse and the
fill period; ignored, the abort has emptied the record before. An answer counts for a run of its channel with that claim pending; an
answer to the claim of an aborted run that finds a later run of the same channel is ignored, since R87 has it ignored and nothing of
an earlier run is carried over (R78), though R77 names only another channel and an empty record (DESIGN CHOICE, log entry 40). -/
def State.takeAdvanceAnswer (s : State) (c : Channel) (taken : Bool) : State :=
  match s.runTrunk c, s.precharge c with
  | some t, some p =>
    if taken = true ∧ (s.run t).map (·.pending) = some (some .ADVANCE) then
      (s.setRun t (some ⟨c, .FILL (some p.fillTimeout), none, some p.fillPeriod⟩)).send (.pulseCommand c p.fillOn)
    else s
  | _, _ => s

/-- The period timer of a run in FILL expires: the next fill pulse (R82). -/
def State.fillExpiry (s : State) (t : Trunk) : State :=
  match s.run t with
  | some ⟨c, .FILL timer, none, some _⟩ =>
    match s.precharge c with
    | some p => (s.setRun t (some ⟨c, .FILL timer, none, some p.fillPeriod⟩)).send (.pulseCommand c p.fillOn)
    | none => s
  | _ => s

/-- An output-voltage sample (R83): of the channel of a run in FILL with no claim pending it is judged, and a settled one
sends the completion claim and stops both timers; every other sample is dropped. -/
def State.takeOutputSample (s : State) (c : Channel) (vout : Nat) : State :=
  match s.runTrunk c with
  | none => s
  | some t =>
    match s.run t with
    | some ⟨_, .FILL _, none, _⟩ =>
      if settledAt s.sense.vfeed[t] vout then
        (s.setRun t (some ⟨c, .FILL none, some .COMPLETION, none⟩)).send (.completionClaim c)
      else s
    | _ => s

/-- The fill timer expires (R84): a failure claim with PRECHARGE_TIMEOUT, unless a claim is pending. -/
def State.fillTimeout (s : State) (t : Trunk) : State :=
  match s.run t with
  | some ⟨c, .FILL (some _), none, _⟩ =>
    (s.setRun t (some ⟨c, .FILL none, some .FAILURE, none⟩)).send (.prechargeFailureClaim c .PRECHARGE_TIMEOUT)
  | _ => s

/-- The answer to a precharge failure claim, taken or ignored, empties the run record (R86), if the run has that claim pending. An
answer to the claim of an aborted run that finds a later run of the same channel is ignored (R87; DESIGN CHOICE, log entry 40). -/
def State.takeFailureAnswer (s : State) (c : Channel) : State :=
  match s.runTrunk c with
  | some t => if (s.run t).map (·.pending) = some (some .FAILURE) then s.setRun t none else s
  | none => s

/-- An abort for the channel of a run empties the record (R87). -/
def State.takeAbort (s : State) (c : Channel) : State :=
  match s.runTrunk c with
  | some t => s.setRun t none
  | none => s

/-- A taken completion answer (R85): the run record is emptied and ENERGIZED is posted to the holder port, if the run has that claim
pending (DESIGN CHOICE for a later run of the same channel, log entry 40). -/
def State.completionDone (s : State) (c : Channel) : State :=
  match s.runTrunk c with
  | some t =>
    if (s.run t).map (·.pending) = some (some .COMPLETION) then
      (s.setRun t none).postHolder .leaseManager c ⟨.ENERGIZED, .channel c, none, some (.current (s.declared c))⟩
    else s
  | none => s

/-- The Staged Energize Unit's part of a message of the Lease Manager (R77). -/
def stagedTake : Instr → State → State
  | .start c, s => s.takeStart c
  | .advanceAnswer c taken, s => s.takeAdvanceAnswer c taken
  | .completionAnswer c taken, s => if taken then s.completionDone c else s
  | .failureAnswer c _, s => s.takeFailureAnswer c
  | .abort c, s => s.takeAbort c
  | _, s => s

/-- A completion answer is on its way for a channel that a claim or request concerns. -/
def State.completionDue (s : State) (i : Instr) : Instr → Bool
  | .completionAnswer c true => s.concerns i c
  | _ => false

/-- A list up to and including the last of its members that meet a test. -/
def upToLast (p : Instr → Bool) (l : List Instr) : List Instr := (l.reverse.dropWhile fun m => !p m).reverse

/-- The messages of a list that are taken, so that its last is in its turn: the last, and what precedes one of them. -/
def State.needed (s : State) (l : List Instr) : List Instr :=
  l.foldr (fun m later => if later.isEmpty || later.any (s.precedes m) then m :: later else later) []

/-- The receiver's part of a message taken so that a completion answer is in its turn. -/
def settleTake : Instr → State → State
  | .serviceEvent t, s => s.takeServiceEvent t
  | m, s => stagedTake m s

/-- Completion answers that the Staged Energize Unit has not taken yet are taken before the Lease Manager takes the next
claim or request for their channel, so ENERGIZED is posted before what follows (R88, R169; log entry 5); what is in flight and
precedes them is taken before them: what the Lease Manager sent the Staged Energize Unit earlier (R77), and the service event of an
abort among it (R87). -/
def State.settleCompletions (s : State) (i : Instr) : State :=
  (s.needed (upToLast (s.completionDue i) s.inFlight)).foldl (fun s m => settleTake m (s.arrive m)) s

/-! ### The commands -/

/-- START (R78). -/
def execStart (c : Channel) (s : State) : Host.Outcome State Fault Refusal :=
  .next (s.taking (.start c) fun s => s.takeStart c)

/-- PROBE_PERIOD_EXPIRY (R80). -/
def execProbePeriodExpiry (t : Trunk) (s : State) : Host.Outcome State Fault Refusal :=
  .next (s.running fun s => s.probeExpiry t)

/-- ADVANCE_ANSWER (R81). -/
def execAdvanceAnswer (c : Channel) (taken : Bool) (s : State) : Host.Outcome State Fault Refusal :=
  .next (s.taking (.advanceAnswer c taken) fun s => s.takeAdvanceAnswer c taken)

/-- FILL_PERIOD_EXPIRY (R82). -/
def execFillPeriodExpiry (t : Trunk) (s : State) : Host.Outcome State Fault Refusal :=
  .next (s.running fun s => s.fillExpiry t)

/-- OUTPUT_VOLTAGE_SAMPLE (R83). -/
def execOutputVoltageSample (c : Channel) (vout : Nat) (s : State) : Host.Outcome State Fault Refusal :=
  .next (s.taking (.outputVoltageSample c vout) fun s => s.takeOutputSample c vout)

/-- FILL_TIMER_EXPIRY (R84). -/
def execFillTimerExpiry (t : Trunk) (s : State) : Host.Outcome State Fault Refusal :=
  .next (s.running fun s => s.fillTimeout t)

/-- COMPLETION_ANSWER (R85): taken, the record is emptied and ENERGIZED posted; ignored, nothing follows. -/
def execCompletionAnswer (c : Channel) (taken : Bool) (s : State) : Host.Outcome State Fault Refusal :=
  .next (s.taking (.completionAnswer c taken) fun s => if taken then s.completionDone c else s)

/-- FAILURE_ANSWER (R86). -/
def execFailureAnswer (c : Channel) (taken : Bool) (s : State) : Host.Outcome State Fault Refusal :=
  .next (s.taking (.failureAnswer c taken) fun s => s.takeFailureAnswer c)

/-- ABORT (R87). -/
def execAbort (c : Channel) (s : State) : Host.Outcome State Fault Refusal :=
  .next (s.taking (.abort c) fun s => s.takeAbort c)

end Sys2Proof.Machine
end

