-- ==== Sys2Proof/Machine/Lease.lean ====
section
/-! DEFINITION. The Lease Manager (Chapter 2): the requests it takes from host ports, the session claims, and the claims of
the other blocks. Each `take…` is the Lease Manager's own part; each command passes the gate of the hold-backs first. -/

namespace Sys2Proof.Machine

/-! ### Requests (2.4) -/

/-- The checks 2 and 3 of R30: the device phase is SERVICE, the channel index is 0–11. -/
def State.leaseRequest (s : State) (p : Port) (ch : Byte) (k : Channel → State) : State :=
  if s.config.phase ≠ .SERVICE then s.respond p .WRONG_PHASE []
  else match channelOf ch with
    | none => s.respond p .BAD_ARGUMENT []
    | some c => k c

/-- The holder check of R30: a FREE channel gives STATE, a sender that is not the holder NOT_PERMITTED. -/
def State.holderRequest (s : State) (p : Port) (ch : Byte) (k : Channel → State) : State :=
  s.leaseRequest p ch fun c =>
    if (s.chan c).state = .FREE then s.respond p .STATE []
    else if s.isHolder p c then k c
    else s.respond p .NOT_PERMITTED []

/-- The successor that a CLAIM under HAND names must be another port of the access mask (R31). -/
def State.successorOk (s : State) (p : Port) (c : Channel) : Orphan → Bool
  | .HAND q => decide (q ≠ p) && s.permits c q
  | _ => true

/-- CLAIM, judged by the Lease Manager (R31). -/
def State.takeClaim (s : State) (p : Port) (ch : Byte) (cur : BitVec 16) (prio policy successor wait : Byte) : State :=
  s.leaseRequest p ch fun c =>
    match currentOf cur, priorityOf prio, orphanOf policy successor with
    | some mA, some pr, some orphan =>
      if !s.successorOk p c orphan then s.respond p .BAD_ARGUMENT []
      else if (s.chan c).trunk = none ∨ s.permits c p = false then s.respond p .NOT_PERMITTED []
      else if (s.chan c).lockedOut then s.respond p .LOCKED_OUT []
      else if (s.chan c).state ≠ .FREE then s.respond p .HELD []
      else
        (s.updChan c fun r => { r with
            state := .IDLE
            lease := some ⟨.port p (s.viewOf p).epoch, some orphan, mA, pr, tenMsOf wait⟩ }).respond p .OK
          (be16 (s.viewOf p).epoch ++ [byteOf (s.chan c).faultCount])
    | _, _, _ => s.respond p .BAD_ARGUMENT []

/-- RELEASE ends the sender's lease in every held state (R33). -/
def State.takeRelease (s : State) (p : Port) (ch : Byte) : State :=
  s.holderRequest p ch fun c => (s.endLease c false true).respond p .OK []

/-- The holder is a port that is LAPSED in the port view (R34); `none` otherwise. -/
def State.lapsedHolder (s : State) (c : Channel) : Option Port :=
  match s.holderPort c with
  | some q => if (s.viewOf q).standing = .LAPSED then some q else none
  | none => none

/-- ADOPT moves the lease of a LAPSED holder to the sender (R34). -/
def State.takeAdopt (s : State) (p : Port) (ch : Byte) : State :=
  s.leaseRequest p ch fun c =>
    if (s.chan c).trunk = none ∨ s.permits c p = false then s.respond p .NOT_PERMITTED []
    else match s.lapsedHolder c with
      | none => s.respond p .NOT_LAPSED []
      | some q =>
        ((s.updChan c fun r => { r with
            lease := r.lease.map fun l => { l with holder := .port p (s.viewOf p).epoch } }).post .leaseManager q
          ⟨.LEASE_ADOPTED, .channel c, none, some (.port p)⟩).respond p .OK [chanStateByte (s.chan c).state]

/-- DE-ENERGIZE returns a held channel to IDLE from any state other than FAULTED (R35). -/
def State.takeDeEnergize (s : State) (p : Port) (ch : Byte) : State :=
  s.holderRequest p ch fun c =>
    match (s.chan c).state with
    | .FAULTED => s.respond p .STATE []
    | .IDLE => s.respond p .OK []
    | _ => (s.leaveFor c .IDLE true id).respond p .OK []

/-- CLEAR FAULT returns a FAULTED channel to IDLE (R36). -/
def State.takeClearFault (s : State) (p : Port) (ch : Byte) : State :=
  s.holderRequest p ch fun c =>
    if (s.chan c).state = .FAULTED then (s.leaveFor c .IDLE true id).respond p .OK []
    else s.respond p .STATE []

/-- The declared current of a lease is replaced. -/
def State.setDeclared (s : State) (c : Channel) (mA : Nat) : State :=
  s.updChan c fun r => { r with lease := r.lease.map fun l => { l with declared := mA } }

/-- RESTATE sets a new declared current, by the channel state (R37): in QUEUED it tells the Admission Unit that the need
changed; in ON it sends a restated reservation claim and awaits its answer. -/
def State.takeRestate (s : State) (p : Port) (ch : Byte) (cur : BitVec 16) : State :=
  s.leaseRequest p ch fun _ =>
    match currentOf cur with
    | none => s.respond p .BAD_ARGUMENT []
    | some mA => s.holderRequest p ch fun c =>
      match (s.chan c).state with
      | .IDLE | .SHED | .INHIBITED => (s.setDeclared c mA).respond p .OK []
      | .QUEUED =>
        let restated := s.setDeclared c mA
        match (s.chan c).trunk with
        | some t => (restated.serviceEvent t).respond p .OK []
        | none => restated.respond p .OK []
      | .ON =>
        (s.updChan c fun r => { r with restating := some ⟨p, mA⟩ }).send (.restatedReservation c (s.declared c) mA)
      | _ => s.respond p .STATE []

/-- READ CHANNEL returns the channel status record, in either device phase (R38). -/
def State.takeReadChannel (s : State) (p : Port) (ch : Byte) : State :=
  match channelOf ch with
  | none => s.respond p .BAD_ARGUMENT []
  | some c => s.respond p .OK (s.channelRecord c)

/-! ### Session claims (2.5) -/

/-- The channels whose lease the port holds, in index order: R40 and R41 give the leases of one claim no order (DESIGN CHOICE, log entry
30). -/
def State.leasesOf (s : State) (p : Port) : List Channel := channelsWhere fun c => decide (s.holderPort c = some p)

/-- An OPEN claim (R39): the port's entry becomes LIVE with the new epoch; from LAPSED every lease the port still holds is
re-stamped. The lease count goes into the OPEN response (R157). -/
def State.takeOpenClaim (s : State) (p : Port) (epoch : BitVec 16) : State :=
  let kept := if (s.viewOf p).standing = .LAPSED then s.leasesOf p else []
  let stamped := kept.foldl (fun s c => s.updChan c fun r => { r with
    lease := r.lease.map fun l => { l with holder := .port p epoch } }) s
  (stamped.updView p fun _ => ⟨.LIVE, epoch⟩).respond p .OK (be16 epoch ++ [byteOf kept.length])

/-- A lease of a lapsing port is treated by its orphan policy (R40). -/
def State.lapseLease (s : State) (p : Port) (c : Channel) : State :=
  match (s.chan c).lease.bind (·.orphan) with
  | some .KEEP => s
  | some (.HAND q) =>
    if (s.viewOf q).standing = .LIVE then
      (s.updChan c fun r => { r with lease := r.lease.map fun l =>
          { l with holder := .port q (s.viewOf q).epoch, orphan := some .DROP } }).post .leaseManager q
        ⟨.LEASE_HANDED, .channel c, none, some (.port p)⟩
    else s.endLease c false true
  | _ => s.endLease c false true

/-- A lapse claim (R40): the port's entry becomes LAPSED, and each lease it holds is treated by its policy. -/
def State.takeLapseClaim (s : State) (p : Port) : State :=
  (s.leasesOf p).foldl (fun s c => s.lapseLease p c) (s.updView p fun v => { v with standing := .LAPSED })

/-- A CLOSE claim (R41): every lease of the port ends, its entry becomes DOWN, and the CLOSE is answered (R159). -/
def State.takeCloseClaim (s : State) (p : Port) : State :=
  (((s.leasesOf p).foldl (fun s c => s.endLease c false true) s).updView p
    fun v => { v with standing := .DOWN }).respond p .OK []

/-! ### Claims of the Admission Unit (R47) -/

/-- The state that a claim carries (R47). -/
def foundState : Found → ChanState
  | .IDLE => .IDLE
  | .SHED => .SHED
  | .QUEUED => .QUEUED

/-- The wait-limit timer of an entry (R69): absent for a wait limit of 0. -/
def waitTimer (ms : Nat) : Option Nat := if ms = 0 then none else some (ms * Config.msec)

/-- Where a new entry joins (R54): behind every entry of equal or higher priority. -/
def joinQueue (q : List Entry) (e : Entry) : List Entry :=
  q.takeWhile (fun x => decide (e.priority ≤ x.priority)) ++ e :: q.dropWhile (fun x => decide (e.priority ≤ x.priority))

/-- A queue entry claim (R57): taken in the state it carries, the channel goes to QUEUED and in the same change the entry
joins its trunk's queue with its wait-limit timer and the next arrival number; in another state it is dropped. An entry that joins
while the trunk is TRIPPED is to be flushed (R71, R105), whatever becomes of the trunk: it keeps the trip heat. -/
def State.takeQueueEntry (s : State) (c : Channel) (found : Found) : State :=
  match (s.chan c).trunk, (s.chan c).lease with
  | some t, some l =>
    if (s.chan c).state = foundState found ∧ found ≠ .QUEUED then
      let e : Entry := ⟨c, l.priority, s.arrivals, waitTimer l.wait, s.heatIfTripped t, false⟩
      (((s.updChan c fun r => { r with state := .QUEUED, shedCause := none }).updQueue t
          fun q => joinQueue q e).setArrivals (s.arrivals + 1)).send
        (.queueEntryAnswer c .QUEUED (some (entriesAhead (joinQueue (s.queue t) e) c)))
    else s.send (.queueEntryAnswer c (s.chan c).state none)
  | _, _ => s.send (.queueEntryAnswer c (s.chan c).state none)

/-- A withhold claim (R47, R56): in the state it carries, the channel goes to INHIBITED with energize intent yes. -/
def State.takeWithhold (s : State) (c : Channel) (found : Found) : State :=
  if (s.chan c).state = foundState found ∧ found ≠ .QUEUED then
    (s.updChan c fun r => { r with state := .INHIBITED, intent := true, shedCause := none }).send
      (.withholdAnswer c .INHIBITED true)
  else s.send (.withholdAnswer c (s.chan c).state false)

/-- The record of a channel admitted (R47): PROBE if staged and ON otherwise, with the stamp, and the ON-stable timer
started on entry into ON (R44). -/
def ChannelRec.admitted (r : ChannelRec) (staged : Bool) (stamp : BitVec 32) : ChannelRec :=
  { r with
    state := if staged then .PROBE else .ON
    stamp := some stamp
    shedCause := none
    onStable := if staged then none else some Config.onStable }

/-- The pass's admission of this channel is settled at the Lease Manager (R37). -/
def Pass.settle (x : Pass) (c : Channel) : Pass :=
  { x with claim := x.claim.map fun k => if k.channel = c ∧ k.stage = .sent then { k with stage := .settled } else k }

/-- An admit claim (R47, R65): in the state it carries the channel is admitted, its entry leaves the queue in the same
change, and a staged channel's run is started (R78); in another state the admission is dropped and the charge returned. R47 judges the
state alone: a channel that was released after the grant and claimed again is admitted when its state is again the one carried. It keeps
the charge, and the slot if that names it, that the grant set, on the trunk that granted it, though its declared current, its staged flag
or its trunk may be others by now; so its reservation may differ from Table 1-6 (R13, R37), it may enter PROBE without the slot, or ON
with the slot naming it (R19) (DESIGN CHOICE, log entry 44). -/
def State.takeAdmit (s : State) (t : Trunk) (c : Channel) (found : Found) (stamp : BitVec 32) (need : Nat) : State :=
  let settled := if found = .QUEUED then s.updPass t fun x => x.settle c else s
  if (s.chan c).state = foundState found then
    let admitted := settled.updChan c fun r => r.admitted (s.staged c) stamp
    let left := if found = .QUEUED then admitted.leaveQueue c else admitted
    let started := if s.staged c then left.send (.start c) else left
    started.send (.admitClaimAnswer t c found need (if s.staged c then .PROBE else .ON) true)
  else (settled.returnCharge c).send (.admitClaimAnswer t c found need (s.chan c).state false)

/-- A wait-expiry claim (R69): in QUEUED the channel goes to IDLE, its entry leaves with a service event when it was the
head, and WAIT_EXPIRED reports the entries that were ahead. -/
def State.takeWaitExpiry (s : State) (c : Channel) : State :=
  if (s.chan c).state = .QUEUED then
    let ahead := match (s.chan c).trunk with
      | some t => entriesAhead (s.queue t) c
      | none => 0
    (s.leaveFor c .IDLE true id).postHolder .admissionUnit c
      ⟨.WAIT_EXPIRED, .channel c, none, some (.count ahead)⟩
  else s

/-- A flush claim (R71): in QUEUED the channel goes to IDLE, its entry leaves without a service event, and QUEUE_FLUSHED
carries the trip heat. A pass that waits for an expired head goes on (log entry 43). -/
def State.takeFlush (s : State) (c : Channel) (heat : Nat) : State :=
  if (s.chan c).state = .QUEUED then
    let flushed := ((s.leaveQueue c).updChan c fun r => { r with state := .IDLE }).postHolder .admissionUnit c
      ⟨.QUEUE_FLUSHED, .channel c, some (.shed .TRIP), some (.heat heat)⟩
    match (s.chan c).trunk with
    | some t => flushed.resumePass t
    | none => flushed
  else s

/-! ### Claims of the Staged Energize Unit (R48) -/

/-- An advance claim (R81): from PROBE the channel goes to FILL. -/
def State.takeAdvance (s : State) (c : Channel) : State :=
  if (s.chan c).state = .PROBE then
    (s.updChan c fun r => { r with state := .FILL }).send (.advanceAnswer c true)
  else s.send (.advanceAnswer c false)

/-- A completion claim (R85): from FILL the channel goes to ON with the ON-stable timer started, and the reservation is
lowered in the same change (R16). A pulse in progress runs on into the steady drive (R115), which ends it as a pulse. The spec does
not say when an output sample deferred for that pulse is then taken: it stays due, and PULSE_END takes it though the switch stays
closed (DESIGN CHOICE, log entry 32). -/
def State.takeCompletion (s : State) (c : Channel) : State :=
  if (s.chan c).state = .FILL then
    (((s.updChan c fun r => { r with state := .ON, onStable := some Config.onStable }).endPulse c).lowerCharge c).send
      (.completionAnswer c true)
  else s.send (.completionAnswer c false)

/-- The state in which a precharge failure claim is taken (R48). -/
def failureState : FaultCause → Option ChanState
  | .PRECHARGE_SHORT => some .PROBE
  | .PRECHARGE_TIMEOUT => some .FILL
  | .SHORT => none

/-- A precharge failure claim (R86): in its state, the need is returned and a fault with the cause is taken. -/
def State.takeFailure (s : State) (c : Channel) (cause : FaultCause) : State :=
  if failureState cause = some (s.chan c).state then
    (s.takeFault c cause false).send (.failureAnswer c true)
  else s.send (.failureAnswer c false)

/-! ### Claims of the Budget Unit (R49), the Sense Block (R42) and the Line Unit (R50) -/

/-- A shed claim (R49): from PROBE, FILL or ON the channel goes to SHED with cause SHED. -/
def State.takeShed (s : State) (t : Trunk) (c : Channel) : State :=
  if isDriven (s.chan c).state then
    (s.leaveFor c .SHED true fun r => { r with shedCause := some .SHED }).send (.shedAnswer t c true)
  else s.send (.shedAnswer t c false)

/-- A trip claim (R101): from PROBE, FILL or ON the channel goes to SHED with cause TRIP. -/
def State.takeTrip (s : State) (t : Trunk) (c : Channel) (heat : Nat) (confirmation : Bool) : State :=
  if isDriven (s.chan c).state then
    (s.leaveFor c .SHED true fun r => { r with shedCause := some .TRIP }).send
      (.tripClaimAnswer t c heat confirmation true)
  else s.send (.tripClaimAnswer t c heat confirmation false)

/-- A short detection (R42): in PROBE, FILL or ON a fault with cause SHORT is taken, in any other state the detection is
dropped; either way the driver's short hold is released in the same change (R113). -/
def State.takeShort (s : State) (c : Channel) : State :=
  let judged := if isDriven (s.chan c).state then s.takeFault c .SHORT true else s
  judged.updDriver c fun d => { d with shortHold := false }

/-- A line claim (R50): a FREE channel that is not locked out and whose trunk is not UNUSED goes to IDLE with the line as
holder; any other record refuses it. -/
def State.takeLineClaim (s : State) (l : Line) (c : Channel) (cur prio : Nat) : State :=
  if (s.chan c).state = .FREE ∧ (s.chan c).lockedOut = false ∧ (s.chan c).trunk ≠ none then
    (s.updChan c fun r => { r with state := .IDLE, lease := some ⟨.line l, none, cur, prio, 0⟩ }).send
      (.lineClaimAnswer l .CLAIM true)
  else s.send (.lineClaimAnswer l .CLAIM false)

/-- A line release (R50): the lease ends when the holder is the line; it is ignored otherwise. -/
def State.takeLineRelease (s : State) (l : Line) (c : Channel) : State :=
  if s.holder c = some (.line l) then (s.endLease c true true).send (.lineClaimAnswer l .RELEASE true)
  else s.send (.lineClaimAnswer l .RELEASE false)

/-- An inhibit claim (R50): from QUEUED, PROBE, FILL or ON the channel goes to INHIBITED with energize intent yes, and
INHIBITED names the line to the holder port; it is ignored in every other state. -/
def State.takeInhibit (s : State) (l : Line) (c : Channel) : State :=
  if (s.chan c).state = .QUEUED ∨ isDriven (s.chan c).state = true then
    (s.leaveFor c .INHIBITED true id).postHolder .leaseManager c ⟨.INHIBITED, .channel c, none, some (.line l)⟩
  else s

/-- A resume claim (R50): from INHIBITED the channel goes to IDLE with energize intent no, and the Line Unit issues
ENERGIZE for the holder as the Lease Manager took the resume (R60, R127); it is ignored in any other state. -/
def State.takeResume (s : State) (c : Channel) : State :=
  if (s.chan c).state = .INHIBITED then
    let resumed := s.leaveFor c .IDLE true id
    match s.holder c with
    | some h => resumed.send (.lineEnergize c h true)
    | none => resumed
  else s

/-! ### Claims of the Configuration Unit (R45, R51) -/

/-- A channel profile claim (R51): a FREE channel takes the trunk of the new profile. In SERVICE the profile held by the
Configuration Unit is replaced in the same change, and a free report follows unless the channel is locked out. A write
is answered to its port, an apply to the Configuration Unit. -/
def State.takeChannelProfile (s : State) (o : Origin) (c : Channel) (new : ChannelProfile) : State :=
  match o with
  | .write p =>
    if (s.chan c).state = .FREE then (s.updChan c fun r => { r with trunk := new.trunk }).respond p .OK []
    else s.respond p .HELD []
  | .apply =>
    if (s.chan c).state = .FREE then
      let replaced := (s.updConfig fun g =>
        { g with channelProfiles := updAt g.channelProfiles c fun _ => new }).updChan c fun r => { r with trunk := new.trunk }
      let reported := if (s.chan c).lockedOut then replaced else replaced.send (.freeReport c)
      reported.send (.applyAnswer true)
    else s.send (.applyAnswer false)

/-- A lockout release claim (R45): a set mark is cleared with the fault count and a free report is sent; a clear mark
refuses it. -/
def State.takeLockoutRelease (s : State) (c : Channel) : State :=
  if (s.chan c).lockedOut then
    ((s.updChan c fun r => { r with lockedOut := false, faultCount := 0 }).send (.freeReport c)).send (.applyAnswer true)
  else s.send (.applyAnswer false)

/-! ### The gate, and the release of what was held back -/

/-- The gate of the Lease Manager: a claim or request is held back, or taken. -/
def State.atLeaseManager (s : State) (i : Instr) (f : State → State) : State :=
  if s.leaseBlocked i then s.setHeldBack (s.heldBack ++ [i]) else f (s.settleCompletions i)

/-- The Lease Manager's part of a claim or request. -/
def leaseTake : Instr → State → State
  | .claim r ch cur prio policy successor wait, s => s.takeClaim r.port ch cur prio policy successor wait
  | .release r ch, s => s.takeRelease r.port ch
  | .adopt r ch, s => s.takeAdopt r.port ch
  | .deEnergize r ch, s => s.takeDeEnergize r.port ch
  | .clearFault r ch, s => s.takeClearFault r.port ch
  | .restate r ch cur, s => s.takeRestate r.port ch cur
  | .readChannel r ch, s => s.takeReadChannel r.port ch
  | .openClaim p e, s => s.takeOpenClaim p e
  | .lapseClaim p, s => s.takeLapseClaim p
  | .closeClaim p, s => s.takeCloseClaim p
  | .channelProfileClaim o c new, s => s.takeChannelProfile o c new
  | .lockoutReleaseClaim c, s => s.takeLockoutRelease c
  | .shedClaim t c, s => s.takeShed t c
  | .tripClaim t c heat conf, s => s.takeTrip t c heat conf
  | .queueEntryClaim c found, s => s.takeQueueEntry c found
  | .withholdClaim c found, s => s.takeWithhold c found
  | .admitClaim t c found stamp need, s => s.takeAdmit t c found stamp need
  | .waitExpiryClaim c, s => s.takeWaitExpiry c
  | .flushClaim c heat, s => s.takeFlush c heat
  | .advanceClaim c, s => s.takeAdvance c
  | .completionClaim c, s => s.takeCompletion c
  | .prechargeFailureClaim c cause, s => s.takeFailure c cause
  | .shortDetectionTaken c, s => s.takeShort c
  | .lineClaim l c cur prio, s => s.takeLineClaim l c cur prio
  | .lineRelease l c, s => s.takeLineRelease l c
  | .inhibitClaim l c, s => s.takeInhibit l c
  | .resumeClaim _ c, s => s.takeResume c
  | _, s => s

/-- What was held back stays so while it would be held back anew; an inhibit, until the ENERGIZE in hand for its channel has
been answered, whatever the channel state has become meanwhile (R50, R126). -/
def State.staysHeld (s : State) (i : Instr) : Bool :=
  s.leaseBlocked i || match i with
    | .inhibitClaim _ c => (s.inHand c).isSome
    | _ => false

/-- A claim or request that was held back is judged again. -/
def State.releaseOne (s : State) (i : Instr) : State :=
  if s.staysHeld i then s.setHeldBack (s.heldBack ++ [i]) else leaseTake i (s.settleCompletions i)

/-- The claims and requests held back are judged again, in the order they arrived; those still blocked stay (R37, R50). -/
def State.releaseHeldBack (s : State) : State := s.heldBack.foldl State.releaseOne (s.setHeldBack [])

/-! ### The commands -/

/-- A request of a host port for the Lease Manager: the Port Unit's part, then the gate, then the judgement. -/
def State.leaseCommand (s : State) (i : Instr) : State :=
  s.hostRequest i fun s => s.atLeaseManager i (leaseTake i)

/-- A claim of another block: it is taken by the Lease Manager through the gate. -/
def State.claimCommand (s : State) (i : Instr) : State :=
  s.taking i fun s => s.atLeaseManager i (leaseTake i)

/-- CLAIM (R31). -/
def execClaim (r : Req) (ch : Byte) (cur : BitVec 16) (prio policy successor wait : Byte) (s : State) :
    Host.Outcome State Fault Refusal :=
  .next (s.leaseCommand (.claim r ch cur prio policy successor wait))

/-- RELEASE (R33). -/
def execRelease (r : Req) (ch : Byte) (s : State) : Host.Outcome State Fault Refusal :=
  .next (s.leaseCommand (.release r ch))

/-- ADOPT (R34). -/
def execAdopt (r : Req) (ch : Byte) (s : State) : Host.Outcome State Fault Refusal :=
  .next (s.leaseCommand (.adopt r ch))

/-- DE-ENERGIZE (R35). -/
def execDeEnergize (r : Req) (ch : Byte) (s : State) : Host.Outcome State Fault Refusal :=
  .next (s.leaseCommand (.deEnergize r ch))

/-- CLEAR FAULT (R36). -/
def execClearFault (r : Req) (ch : Byte) (s : State) : Host.Outcome State Fault Refusal :=
  .next (s.leaseCommand (.clearFault r ch))

/-- RESTATE (R37). -/
def execRestate (r : Req) (ch : Byte) (cur : BitVec 16) (s : State) : Host.Outcome State Fault Refusal :=
  .next (s.leaseCommand (.restate r ch cur))

/-- READ CHANNEL (R38). -/
def execReadChannel (r : Req) (ch : Byte) (s : State) : Host.Outcome State Fault Refusal :=
  .next (s.leaseCommand (.readChannel r ch))

/-- OPEN_CLAIM (R39). -/
def execOpenClaim (p : Port) (epoch : BitVec 16) (s : State) : Host.Outcome State Fault Refusal :=
  .next (s.claimCommand (.openClaim p epoch))

/-- LAPSE_CLAIM (R40). -/
def execLapseClaim (p : Port) (s : State) : Host.Outcome State Fault Refusal :=
  .next (s.claimCommand (.lapseClaim p))

/-- CLOSE_CLAIM (R41). -/
def execCloseClaim (p : Port) (s : State) : Host.Outcome State Fault Refusal :=
  .next (s.claimCommand (.closeClaim p))

/-- CHANNEL_PROFILE_CLAIM (R51). -/
def execChannelProfileClaim (o : Origin) (c : Channel) (new : ChannelProfile) (s : State) :
    Host.Outcome State Fault Refusal :=
  .next (s.claimCommand (.channelProfileClaim o c new))

/-- LOCKOUT_RELEASE_CLAIM (R45). -/
def execLockoutReleaseClaim (c : Channel) (s : State) : Host.Outcome State Fault Refusal :=
  .next (s.claimCommand (.lockoutReleaseClaim c))

/-- SHED_CLAIM (R49). -/
def execShedClaim (t : Trunk) (c : Channel) (s : State) : Host.Outcome State Fault Refusal :=
  .next (s.claimCommand (.shedClaim t c))

/-- TRIP_CLAIM (R101). -/
def execTripClaim (t : Trunk) (c : Channel) (heat : Nat) (confirmation : Bool) (s : State) :
    Host.Outcome State Fault Refusal :=
  .next (s.claimCommand (.tripClaim t c heat confirmation))

/-- QUEUE_ENTRY_CLAIM (R57). -/
def execQueueEntryClaim (c : Channel) (found : Found) (s : State) : Host.Outcome State Fault Refusal :=
  .next (s.claimCommand (.queueEntryClaim c found))

/-- WITHHOLD_CLAIM (R56). -/
def execWithholdClaim (c : Channel) (found : Found) (s : State) : Host.Outcome State Fault Refusal :=
  .next (s.claimCommand (.withholdClaim c found))

/-- ADMIT_CLAIM (R47). A RESTATE held back for the admission of a service pass is taken once the claim is settled (R37). An inhibit
held back for an ENERGIZE in hand stays held: its last claim counts as answered when the Admission Unit takes the answer (R50,
R126; DESIGN CHOICE, log entry 13). -/
def execAdmitClaim (t : Trunk) (c : Channel) (found : Found) (stamp : BitVec 32) (need : Nat) (s : State) :
    Host.Outcome State Fault Refusal :=
  .next <| s.taking (.admitClaim t c found stamp need) fun s =>
    (s.atLeaseManager (.admitClaim t c found stamp need)
      (leaseTake (.admitClaim t c found stamp need))).releaseHeldBack

/-- WAIT_EXPIRY_CLAIM (R69). -/
def execWaitExpiryClaim (c : Channel) (s : State) : Host.Outcome State Fault Refusal :=
  .next (s.claimCommand (.waitExpiryClaim c))

/-- FLUSH_CLAIM (R71). -/
def execFlushClaim (c : Channel) (heat : Nat) (s : State) : Host.Outcome State Fault Refusal :=
  .next (s.claimCommand (.flushClaim c heat))

/-- ADVANCE_CLAIM (R81). -/
def execAdvanceClaim (c : Channel) (s : State) : Host.Outcome State Fault Refusal :=
  .next (s.claimCommand (.advanceClaim c))

/-- COMPLETION_CLAIM (R85). -/
def execCompletionClaim (c : Channel) (s : State) : Host.Outcome State Fault Refusal :=
  .next (s.claimCommand (.completionClaim c))

/-- PRECHARGE_FAILURE_CLAIM (R86). -/
def execPrechargeFailureClaim (c : Channel) (cause : FaultCause) (s : State) : Host.Outcome State Fault Refusal :=
  .next (s.claimCommand (.prechargeFailureClaim c cause))

/-- SHORT_DETECTION_TAKEN (R42). -/
def execShortDetectionTaken (c : Channel) (s : State) : Host.Outcome State Fault Refusal :=
  .next (s.claimCommand (.shortDetectionTaken c))

/-- LINE_CLAIM (R50). -/
def execLineClaim (l : Line) (c : Channel) (cur prio : Nat) (s : State) : Host.Outcome State Fault Refusal :=
  .next (s.claimCommand (.lineClaim l c cur prio))

/-- LINE_RELEASE (R50). -/
def execLineRelease (l : Line) (c : Channel) (s : State) : Host.Outcome State Fault Refusal :=
  .next (s.claimCommand (.lineRelease l c))

/-- INHIBIT_CLAIM (R50). -/
def execInhibitClaim (l : Line) (c : Channel) (s : State) : Host.Outcome State Fault Refusal :=
  .next (s.claimCommand (.inhibitClaim l c))

/-- RESUME_CLAIM (R50). -/
def execResumeClaim (l : Line) (c : Channel) (s : State) : Host.Outcome State Fault Refusal :=
  .next (s.claimCommand (.resumeClaim l c))

/-- ON_STABLE_EXPIRY (R44): while the timer runs, which it does only in ON, the fault count returns to 0 and the timer
becomes absent. -/
def execOnStableExpiry (c : Channel) (s : State) : Host.Outcome State Fault Refusal :=
  .next <| s.running fun s =>
    if (s.chan c).state = .ON ∧ (s.chan c).onStable.isSome then
      s.updChan c fun r => { r with faultCount := 0, onStable := none }
    else s

/-- RESTATED_RESERVATION_ANSWER (R37): the declared current is replaced when the claim was taken, the RESTATE is answered
OK or NO_HEADROOM, and then what was held back for the channel is taken, in the order it arrived. -/
def execRestatedReservationAnswer (c : Channel) (taken : Bool) (s : State) : Host.Outcome State Fault Refusal :=
  .next <| s.taking (.restatedReservationAnswer c taken) fun s =>
    match (s.chan c).restating with
    | none => s
    | some x =>
      let cleared := s.updChan c fun r => { r with restating := none }
      (if taken then (cleared.setDeclared c x.declared).respond x.port .OK []
       else cleared.respond x.port .NO_HEADROOM []).releaseHeldBack

end Sys2Proof.Machine
end

