-- ==== Sys2Proof/Machine/Admission.lean ====
section
/-! DEFINITION. The Admission Unit (Chapter 3): ENERGIZE, the arrival admission, the queues and their service passes, the
wait limits and the flush. -/

namespace Sys2Proof.Machine

/-! ### ENERGIZE (3.2) -/

/-- The payload of an ENERGIZE response judged at check 4 or later (R55, Table 11-6): the channel state, and the entries
ahead when the request queued the channel, 0xFF otherwise. -/
def energizePayload (st : ChanState) (ahead : Option Nat) : List Byte :=
  [chanStateByte st, match ahead with | some n => byteOf n | none => 0xFF#8]

/-- The response of an ENERGIZE returns to its port, or to the Line Unit (R60). -/
def State.answerEnergize (s : State) (src : EnergizeSource) (c : Channel) (status : Status) (st : ChanState)
    (ahead : Option Nat) : State :=
  match src with
  | .port p => s.respond p status (energizePayload st ahead)
  | .lineUnit resumed => s.send (.lineEnergizeResponse c resumed status st)

/-- An ENERGIZE for a channel found in IDLE or SHED (R56, R57): refused on a TRIPPED trunk, and when the need exceeds the
rating; withheld while a VETO line withholds permission; sent to the queue when the queue is not empty; otherwise offered to
the Budget Unit. A claim makes it the ENERGIZE in hand (R59). -/
def State.arrival (s : State) (src : EnergizeSource) (c : Channel) (found : Found) : State :=
  let refuse (st : Status) := s.answerEnergize src c st (s.chan c).state none
  match (s.chan c).trunk with
  | none => refuse .NO_HEADROOM
  | some t =>
    if (s.trunk t).state = some .TRIPPED then refuse .TRUNK_TRIPPED
    else if profileField (s.trunk t) (·.rating) < s.need c then refuse .NO_HEADROOM
    else if s.withheld c then (s.setInHand c (some ⟨src, found, .withhold⟩)).send (.withholdClaim c found)
    else if s.queue t ≠ [] then (s.setInHand c (some ⟨src, found, .entry⟩)).send (.queueEntryClaim c found)
    else (s.setInHand c (some ⟨src, found, .admission⟩)).send
      (.admissionClaim false t c (s.need c) (s.staged c))

/-- Check 5 of R55: the channel state. -/
def State.judgeEnergize (s : State) (src : EnergizeSource) (c : Channel) : State :=
  match (s.chan c).state with
  | .FAULTED => s.answerEnergize src c .FAULTED .FAULTED none
  | .IDLE => s.arrival src c .IDLE
  | .SHED => s.arrival src c .SHED
  | st => s.answerEnergize src c .OK st none

/-- ENERGIZE from a port (R55): phase, channel index, the hold-back of R59, the holder check, the state. -/
def State.takeEnergize (s : State) (r : Req) (ch : Byte) : State :=
  if s.config.phase ≠ .SERVICE then s.respond r.port .WRONG_PHASE []
  else match channelOf ch with
    | none => s.respond r.port .BAD_ARGUMENT []
    | some c =>
      if s.energizeBlocked c then s.setWaiting (s.waiting ++ [.energize r ch])
      else if (s.chan c).state = .FREE then s.answerEnergize (.port r.port) c .STATE .FREE none
      else if s.isHolder r.port c then s.judgeEnergize (.port r.port) c
      else s.answerEnergize (.port r.port) c .NOT_PERMITTED (s.chan c).state none

/-- ENERGIZE from the Line Unit (R60), for the holder it was issued for: a channel that is FREE or held by another is
answered STATE with the state found. -/
def State.takeLineEnergize (s : State) (c : Channel) (h : Holder) (resumed : Bool) : State :=
  if s.energizeBlocked c then s.setWaiting (s.waiting ++ [.lineEnergize c h resumed])
  else if s.holder c = some h then s.judgeEnergize (.lineUnit resumed) c
  else s.answerEnergize (.lineUnit resumed) c .STATE (s.chan c).state none

/-- An ENERGIZE that was held back is judged, or held back again (R59). -/
def energizeTake : Instr → State → State
  | .energize r ch, s => s.takeEnergize r ch
  | .lineEnergize c h resumed, s => s.takeLineEnergize c h resumed
  | _, s => s

/-- An answer has settled an admission: first the Lease Manager takes what it held back for it, against the state the
admission left (R37, R50), then the Admission Unit takes the held-back ENERGIZEs, in order of arrival (R59). Each rule has its items taken against
what the answer left, and none says which block goes first: that the Lease Manager does is the model's choice (DESIGN CHOICE, log
entry 38). -/
def State.admissionSettled (s : State) : State :=
  let released := s.releaseHeldBack
  released.waiting.foldl (fun s i => energizeTake i s) (released.setWaiting [])

/-- The ENERGIZE in hand for a channel is answered and ends (R59). -/
def State.endEnergize (s : State) (src : EnergizeSource) (c : Channel) (status : Status) (st : ChanState)
    (ahead : Option Nat) : State :=
  (s.setInHand c none).answerEnergize src c status st ahead

/-! ### Answers -/

/-- An admission is granted: the channel takes the next energize time stamp and an admit claim is sent (R58, R62, R64). -/
def State.sendAdmit (s : State) (t : Trunk) (c : Channel) (found : Found) (need : Nat) : State :=
  (s.setAdmissions (s.admissions + 1)).send (.admitClaim t c found s.admissions need)

/-- The answer to an arrival admission claim (R58). -/
def State.takeArrivalAnswer (s : State) (t : Trunk) (c : Channel) (need : Nat) (refusal : Option AdmissionRefusal) : State :=
  match s.inHand c with
  | some ⟨src, found, .admission⟩ =>
    match refusal with
    | none => (s.setInHand c (some ⟨src, found, .admitted⟩)).sendAdmit t c found need
    | some _ => (s.setInHand c (some ⟨src, found, .entry⟩)).send (.queueEntryClaim c found)
  | _ => s

/-- The answer to a pass admission claim (R64): granted, an admit claim in QUEUED is sent; refused, the pass ends. The spec leaves
open whether a marked further pass, which may offer the same head again, or a RESTATE held back for that head (R37) comes first:
the further pass offers first, and a RESTATE for its head stays held through it (DESIGN CHOICE, log entry 33). -/
def State.takePassAnswer (s : State) (t : Trunk) (c : Channel) (need : Nat) (refusal : Option AdmissionRefusal) : State :=
  match (s.pass t).claim with
  | some ⟨h, n, .asked⟩ =>
    if h = c then
      match refusal with
      | none => (s.updPass t fun x => { x with claim := some ⟨h, n, .sent⟩ }).sendAdmit t c .QUEUED need
      | some _ => (s.endPass t).admissionSettled
    else s
  | _ => s

/-- What a taken queue entry claim calls for besides the response: an entry that joined at the head is a service event
(R57); an entry that joined while the trunk was TRIPPED is flushed at once, with the trip heat, also when a TRUNK CLEAR has been taken
since (R71, R105; log entry 39). -/
def State.entryJoined (s : State) (c : Channel) (ahead : Nat) : State :=
  match (s.chan c).trunk with
  | none => s
  | some t =>
    let told := if ahead = 0 then s.serviceEvent t else s
    match flushHeat (s.queue t) c with
    | some heat => told.send (.flushClaim c heat)
    | none => told

/-- The answer to a queue entry claim (R57): ACCEPTED with the entries ahead, or STATE. -/
def State.takeEntryAnswer (s : State) (c : Channel) (left : ChanState) (ahead : Option Nat) : State :=
  match s.inHand c with
  | some ⟨src, _, .entry⟩ =>
    match ahead with
    | some n => ((s.endEnergize src c .ACCEPTED left (some n)).entryJoined c n).admissionSettled
    | none => (s.endEnergize src c .STATE left none).admissionSettled
  | _ => s

/-- The answer to a withhold claim (R56): ACCEPTED, or STATE when it was dropped. -/
def State.takeWithholdAnswer (s : State) (c : Channel) (left : ChanState) (taken : Bool) : State :=
  match s.inHand c with
  | some ⟨src, _, .withhold⟩ =>
    (s.endEnergize src c (if taken then .ACCEPTED else .STATE) left none).admissionSettled
  | _ => s

/-- The notices of a pass admission to the holder port (R65): GRANTED, and for a non-staged channel ENERGIZED after it. ENERGIZED carries the
declared current as it stands when the answer is taken; Table 3-2 does not say which that is when a RESTATE, or a release and a new
CLAIM, has been taken since the admit claim (DESIGN CHOICE, log entry 45). -/
def State.postGranted (s : State) (c : Channel) (need : Nat) (left : ChanState) : State :=
  let granted := s.postHolder .admissionUnit c ⟨.GRANTED, .channel c, none, some (.current need)⟩
  if left = .ON then
    granted.postHolder .admissionUnit c ⟨.ENERGIZED, .channel c, none, some (.current (s.declared c))⟩
  else granted

/-- The answer to an admit claim: of an arrival, the response of the ENERGIZE (R58); of a pass, the notices of a taken
admission, and the pass goes on (R64, R65). A taken one is followed by the admission confirmation (R67). The confirmation names the
trunk of the admission claim. R67 does not say which trunk that is for a channel that was released after the grant, moved by an applied
CHANNEL PROFILE and claimed again before the admit claim was taken (DESIGN CHOICE, log entry 44). -/
def State.takeAdmitAnswer (s : State) (t : Trunk) (c : Channel) (found : Found) (need : Nat) (left : ChanState)
    (taken : Bool) : State :=
  match found with
  | .QUEUED =>
    match (s.pass t).claim with
    | some ⟨h, _, stage⟩ =>
      if h = c ∧ stage ≠ .asked then
        let told := if taken then (s.postGranted c need left).send (.admissionConfirmation t c) else s
        (told.continuePass t).admissionSettled
      else s
    | none => s
  | _ =>
    match s.inHand c with
    | some ⟨src, _, .admitted⟩ =>
      let answered := s.endEnergize src c (if taken then .OK else .STATE) left none
      (if taken then answered.send (.admissionConfirmation t c) else answered).admissionSettled
    | _ => s

/-- A removal claim by itself (R68): an entry whose channel has left QUEUED leaves the queue. The Lease Manager's change and
the removal are one change, in which the entry has left already (log entry 2). -/
def State.takeRemoval (s : State) (c : Channel) : State :=
  if (s.chan c).state = .QUEUED then s else s.removeEntry c

/-! ### The commands -/

/-- ENERGIZE (R55). -/
def execEnergize (r : Req) (ch : Byte) (s : State) : Host.Outcome State Fault Refusal :=
  .next (s.hostRequest (.energize r ch) fun s => s.takeEnergize r ch)

/-- LINE_ENERGIZE (R60). -/
def execLineEnergize (c : Channel) (h : Holder) (resumed : Bool) (s : State) : Host.Outcome State Fault Refusal :=
  .next (s.taking (.lineEnergize c h resumed) fun s => s.takeLineEnergize c h resumed)

/-- ARRIVAL_ADMISSION_ANSWER (R58). -/
def execArrivalAdmissionAnswer (t : Trunk) (c : Channel) (need : Nat) (refusal : Option AdmissionRefusal) (s : State) :
    Host.Outcome State Fault Refusal :=
  .next (s.taking (.arrivalAdmissionAnswer t c need refusal) fun s => s.takeArrivalAnswer t c need refusal)

/-- QUEUE_ENTRY_ANSWER (R57). -/
def execQueueEntryAnswer (c : Channel) (left : ChanState) (ahead : Option Nat) (s : State) :
    Host.Outcome State Fault Refusal :=
  .next (s.taking (.queueEntryAnswer c left ahead) fun s => s.takeEntryAnswer c left ahead)

/-- WITHHOLD_ANSWER (R56). -/
def execWithholdAnswer (c : Channel) (left : ChanState) (taken : Bool) (s : State) : Host.Outcome State Fault Refusal :=
  .next (s.taking (.withholdAnswer c left taken) fun s => s.takeWithholdAnswer c left taken)

/-- ADMIT_CLAIM_ANSWER (R58, R65). -/
def execAdmitClaimAnswer (t : Trunk) (c : Channel) (found : Found) (need : Nat) (left : ChanState) (taken : Bool)
    (s : State) : Host.Outcome State Fault Refusal :=
  .next (s.taking (.admitClaimAnswer t c found need left taken) fun s => s.takeAdmitAnswer t c found need left taken)

/-- SERVICE_EVENT (R63). -/
def execServiceEvent (t : Trunk) (s : State) : Host.Outcome State Fault Refusal :=
  .next (s.taking (.serviceEvent t) fun s => s.takeServiceEvent t)

/-- PASS_ADMISSION_ANSWER (R64). -/
def execPassAdmissionAnswer (t : Trunk) (c : Channel) (need : Nat) (refusal : Option AdmissionRefusal) (s : State) :
    Host.Outcome State Fault Refusal :=
  .next (s.taking (.passAdmissionAnswer t c need refusal) fun s => s.takePassAnswer t c need refusal)

/-- REMOVAL_CLAIM (R68). -/
def execRemovalClaim (c : Channel) (s : State) : Host.Outcome State Fault Refusal :=
  .next (s.taking (.removalClaim c) fun s => s.takeRemoval c)

/-- The wait limit of a channel's entry has run out: its timer becomes absent, and no pass offers the entry from then on (R70). -/
def expireWait (q : List Entry) (c : Channel) : List Entry :=
  q.map fun e => if e.channel = c then { e with timer := none, expired := true } else e

/-- An entry of the channel whose wait-limit timer runs. -/
def waits (q : List Entry) (c : Channel) : Bool := q.any fun e => decide (e.channel = c) && e.timer.isSome

/-- WAIT_LIMIT_EXPIRY (R69): the timer of the channel's entry has run out, and a wait-expiry claim is sent. -/
def execWaitLimitExpiry (c : Channel) (s : State) : Host.Outcome State Fault Refusal :=
  .next <| s.running fun s =>
    match (List.finRange 3).find? fun t => waits (s.queue t) c with
    | some t => (s.updQueue t fun q => expireWait q c).send (.waitExpiryClaim c)
    | none => s

/-- QUEUE_FLUSH (R71): a flush claim for each entry of the trunk's queue, from the head. -/
def execQueueFlush (t : Trunk) (heat : Nat) (s : State) : Host.Outcome State Fault Refusal :=
  .next <| s.taking (.queueFlush t heat) fun s =>
    (s.queue t).foldl (fun s e => s.send (.flushClaim e.channel heat)) s

end Sys2Proof.Machine
end

