-- ==== Sys2Proof/Machine/Budget.lean ====
section
/-! DEFINITION. The Budget Unit (Chapters 1 and 5): the budget interval with heat, trunk state and overdraw, shedding and
trip, the reservation claims, the trunk profile claim, and the requests TRUNK CLEAR and READ TRUNK. -/

namespace Sys2Proof.Machine

/-! ### Heat (R8, R9) -/

/-- D of R8: floor((I² − Ir²) × 2^20 / (3 × Ir² × t_nom)), formed exactly in integers. -/
def heatingD (i ir tNom : Nat) : Nat := (i * i - ir * ir) * 2 ^ 20 / (3 * (ir * ir) * tNom)

/-- The heating step (R8): max(1, D), saturating at CEILING. -/
def heated (h i ir tNom : Nat) : Nat := min Config.ceiling (h + max 1 (heatingD i ir tNom))

/-- The cooling step (R9): max(1, floor(H / 2^k)), stopping at 0. -/
def cooled (h k : Nat) : Nat := h - max 1 (h / 2 ^ k)

/-- H after a budget interval with the trunk current `i` (R3, R8, R9). An unconfigured trunk cools with k = 10. -/
def TrunkRec.nextHeat (r : TrunkRec) (i : Nat) : Nat :=
  match r.profile with
  | some p => if p.rating < i then heated r.heat i p.rating p.tNom else cooled r.heat p.k
  | none => cooled r.heat 10

/-- The transition of Table 1-5, for the state held and H after the update. -/
def nextTrunkState (st : TrunkState) (h : Nat) : TrunkState :=
  match st with
  | .TRIPPED => .TRIPPED
  | .SHEDDING => if Config.hard ≤ h then .TRIPPED else if Config.warm ≤ h then .SHEDDING else .NORMAL
  | .NORMAL | .WARM =>
    if Config.hard ≤ h then .TRIPPED
    else if Config.shed ≤ h then .SHEDDING
    else if Config.warm ≤ h then .WARM
    else .NORMAL

/-- The derivation of a trunk state at a profile claim (R4). -/
def derivedState (latch : Bool) (h : Nat) : TrunkState :=
  if latch = true ∨ Config.hard ≤ h then .TRIPPED
  else if Config.shed ≤ h then .SHEDDING
  else if Config.warm ≤ h then .WARM
  else .NORMAL

/-! ### Shedding (5.1 to 5.4) -/

/-- The priority of a held channel; 7, which no shed takes, where there is no lease. -/
def ChannelRec.priority (r : ChannelRec) : Nat :=
  match r.lease with
  | some l => l.priority
  | none => 7

/-- The age of a channel's energize time stamp: the admission counter less the stamp, modulo 2^32 (R62). -/
def State.age (s : State) (c : Channel) : Nat :=
  match (s.chan c).stamp with
  | some x => (s.admissions - x).toNat
  | none => 0

/-- The shed candidates of a trunk: driven channels of priority 0 to 6 (R94). -/
def State.candidates (s : State) (t : Trunk) : List Channel :=
  (s.drivenOn t).filter fun c => decide ((s.chan c).priority ≤ 6)

/-- Channel `a` is chosen before `b`: lower priority, or the same and admitted later (R94). -/
def State.shedBefore (s : State) (a b : Channel) : Bool :=
  decide ((s.chan a).priority < (s.chan b).priority)
    || (decide ((s.chan a).priority = (s.chan b).priority) && decide (s.age a < s.age b))

/-- The first choice of R94 in a list of candidates. -/
def State.choose (s : State) : List Channel → Option Channel
  | [] => none
  | c :: rest =>
    match s.choose rest with
    | none => some c
    | some b => if s.shedBefore b c then some b else some c

/-- The candidate that a shed of the trunk chooses (R94). -/
def State.candidate (s : State) (t : Trunk) : Option Channel := s.choose (s.candidates t)

/-- A shed is made with the heat recorded for it (R95): a chosen candidate is claimed and is the shed in hand. While a
shed is in hand already, this one is made after its answer (R96). -/
def State.makeShed (s : State) (t : Trunk) (heat : Nat) : State :=
  if (s.trunk t).shedInHand.isSome then s.updTrunk t fun r => { r with owed := r.owed ++ [heat] }
  else match s.candidate t with
    | none => s
    | some c => (s.updTrunk t fun r => { r with shedInHand := some ⟨c, heat, true⟩ }).send (.shedClaim t c)

/-- The sheds owed are made, in order, as far as no shed is in hand (R96): an owed shed that finds no candidate ends, and
the first that is sent leaves the rest owed. -/
def State.makeOwed (s : State) (t : Trunk) : State :=
  let owed := (s.trunk t).owed
  owed.foldl (fun s heat => s.makeShed t heat) (s.updTrunk t fun r => { r with owed := [] })

/-! ### Trip (5.6) -/

/-- The trip hold of the channels whose profile names the trunk opens their switches: a pulse in progress ends (R115,
R116). -/
def State.openSwitches (s : State) (t : Trunk) : State :=
  (channelsWhere fun c => decide ((s.profile c).trunk = some t)).foldl (fun s c => s.endPulse c) s

/-- The TRIPPED notices of an entry (R102). -/
def State.postTripped (s : State) (t : Trunk) (heat : Nat) : State :=
  s.postTrunk t ⟨.TRIPPED, .trunk t, none, some (.heat heat)⟩

/-- The entry into TRIPPED (R100): the latch is set and H recorded as the trip heat; a trip claim goes to every driven
channel, the flush to the Admission Unit; the TRIPPED notices wait for the trip claims' answers. Step 3 of R100 gives the trip claims
of one entry no order, and so none to the SHED notices at a port: they are sent in channel index order (DESIGN CHOICE, log entry 30). -/
def State.trip (s : State) (t : Trunk) : State :=
  let heat := (s.trunk t).heat
  let driven := s.drivenOn t
  let latched := s.updTrunk t fun r => { r with
    latch := true, tripHeat := heat, trips := if driven.isEmpty then r.trips else r.trips ++ [⟨heat, driven⟩] }
  let claimed := driven.foldl (fun s c => s.send (.tripClaim t c heat false)) (latched.openSwitches t)
  let flushed := claimed.send (.queueFlush t heat)
  if driven.isEmpty then flushed.postTripped t heat else flushed

/-- A trunk enters another state, with the entry actions of that state alone (R10, R12, R93, R97, R100). Leaving SHEDDING
makes the shed bookkeeping absent; a shed in hand is then answered without a new choice (R97). -/
def State.enterState (s : State) (t : Trunk) (st : TrunkState) : State :=
  let moved := s.updTrunk t fun r => { r with
    state := some st, lastShed := none, shedTimer := none, owed := [],
    shedInHand := r.shedInHand.map fun x => { x with current := false } }
  match st with
  | .NORMAL => moved.serviceEvent t
  | .WARM => moved
  | .SHEDDING =>
    (moved.updTrunk t fun r => { r with lastShed := some r.heat, shedTimer := some Config.shedInterval }).makeShed t
      (s.trunk t).heat
  | .TRIPPED => moved.trip t

/-- The channels that the entry into a state claims in the same change, left out of the overdraw check (R6). -/
def State.claimedAt (s : State) (t : Trunk) (st : TrunkState) : List Channel :=
  match st with
  | .TRIPPED => s.drivenOn t
  | .SHEDDING => if (s.trunk t).shedInHand.isSome then [] else (s.candidate t).toList
  | _ => []

/-! ### Overdraw (1.6) -/

/-- A current rounded up to the next multiple of 100 mA (R21). -/
def roundUp100 (mA : Nat) : Nat := (mA + 99) / 100 * 100

/-- A sample above the overdraw limit: sample × 100 > reservation × (100 + margin) (R20). -/
def overLimit (sample reservation margin : Nat) : Bool := decide (reservation * (100 + margin) < sample * 100)

/-- The overdraw raise (R21): the reservation becomes the sample rounded up, without any headroom test; the mark is set,
the count returns to 0, and OVERDRAW goes to the holder port with the sample. The trunk whose sum rises is the one that the reservation is
charged against (DESIGN CHOICE where that is not the trunk of the channel, log entry 44). -/
def State.overdrawRaise (s : State) (t : Trunk) (c : Channel) (sample : Nat) : State :=
  ((s.charge c ((s.acct c).charged.getD t) (roundUp100 sample)).updAcct c fun a => { a with overdrawn := true, runCount := 0 }).postHolder
    .budgetUnit c ⟨.OVERDRAW, .channel c, none, some (.current sample)⟩

/-- The overdraw check of one channel in ON (R20, R21). -/
def State.overdrawCheck (s : State) (t : Trunk) (margin : Nat) (c : Channel) : State :=
  let sample := s.sense.current[c]
  if overLimit sample (s.acct c).reservation margin then
    if (s.acct c).runCount + 1 < Config.overdrawRun then s.updAcct c fun a => { a with runCount := a.runCount + 1 }
    else s.overdrawRaise t c sample
  else s.updAcct c fun a => { a with runCount := 0 }

/-- The channels of the trunk in ON, in index order: R20 gives the checks of one expiry, and so the OVERDRAW notices at a port, no order
(DESIGN CHOICE, log entry 30). -/
def State.onChannels (s : State) (t : Trunk) : List Channel :=
  channelsWhere fun c => decide ((s.chan c).trunk = some t) && decide ((s.chan c).state = .ON)

/-! ### The budget interval (1.3) and the shed interval (5.4) -/

/-- Part 1 of the budget interval expiry (R6): H is updated from the trunk current, and the interval restarts. -/
def State.heatStep (s : State) (t : Trunk) : State :=
  let i := s.trunkCurrent t
  s.updTrunk t fun r => { r with heat := r.nextHeat i, interval := Config.budgetInterval }

/-- The budget interval expiry (R6): heat, then the transition, then the overdraw check of what part 2 did not claim. -/
def State.budgetExpiry (s : State) (t : Trunk) : State :=
  let warmed := s.heatStep t
  match (s.trunk t).profile, (s.trunk t).state with
  | some p, some st =>
    let new := nextTrunkState st (warmed.trunk t).heat
    let moved := if new = st then warmed else warmed.enterState t new
    let claimed := if new = st then [] else warmed.claimedAt t new
    ((s.onChannels t).filter fun c => !claimed.contains c).foldl (fun s c => s.overdrawCheck t p.margin c) moved
  | _, _ => warmed

/-- The shed interval expiry (R96): at or above the last-shed heat, H is recorded and one shed is made; the timer restarts
in either case. -/
def State.shedExpiry (s : State) (t : Trunk) : State :=
  match (s.trunk t).lastShed with
  | none => s
  | some last =>
    let restarted := s.updTrunk t fun r => { r with shedTimer := some Config.shedInterval }
    let h := (s.trunk t).heat
    if last ≤ h then (restarted.updTrunk t fun r => { r with lastShed := some h }).makeShed t h else restarted

/-- The Lease Manager's answer to a shed claim (R95 to R97): taken, SHED goes to the holder port with the heat recorded
for this shed; ignored in the same episode, a new choice is made. Then the sheds owed are made. -/
def State.takeShedAnswer (s : State) (t : Trunk) (c : Channel) (taken : Bool) : State :=
  match (s.trunk t).shedInHand with
  | none => s
  | some x =>
    if x.channel = c then
      let ended := s.updTrunk t fun r => { r with shedInHand := none }
      let answered :=
        if taken then
          ended.postHolder .budgetUnit c ⟨.SHED, .channel c, some (.shed .SHED), some (.heat x.heat)⟩
        else if x.current = true ∧ (s.trunk t).state = some .SHEDDING then ended.makeShed t x.heat
        else ended
      if (s.trunk t).state = some .SHEDDING then answered.makeOwed t else answered
    else s

/-- The oldest entry into TRIPPED that awaits the channel is told of its answer: the trips as they then stand, and the
trip heat of an entry whose last answer this was (R102). -/
def settleTrip (c : Channel) : List Trip → List Trip × Option Nat
  | [] => ([], none)
  | x :: rest =>
    if x.awaited.contains c then
      if (x.awaited.erase c).isEmpty then (rest, some x.heat) else (⟨x.heat, x.awaited.erase c⟩ :: rest, none)
    else
      let (later, done) := settleTrip c rest
      (x :: later, done)

/-- The Lease Manager's answer to a trip claim (R101, R102): taken, SHED with cause TRIP goes to the holder port; the
last answer of an entry into TRIPPED lets the TRIPPED notices be posted. -/
def State.takeTripAnswer (s : State) (t : Trunk) (c : Channel) (heat : Nat) (confirmation taken : Bool) : State :=
  let told :=
    if taken then s.postHolder .budgetUnit c ⟨.SHED, .channel c, some (.shed .TRIP), some (.heat heat)⟩ else s
  if confirmation then told
  else
    let settled := settleTrip c (s.trunk t).trips
    let kept := told.updTrunk t fun r => { r with trips := settled.1 }
    match settled.2 with
    | some h => kept.postTripped t h
    | none => kept

/-! ### Reservation claims (1.5) -/

/-- The first failed condition of an admission claim (R14). -/
def TrunkRec.admissionRefusal (r : TrunkRec) (need : Nat) (staged : Bool) : Option AdmissionRefusal :=
  match r.profile with
  | none => some .notNormal
  | some p =>
    if r.state ≠ some .NORMAL then some .notNormal
    else if p.rating < r.reserved + need then some .noHeadroom
    else if staged = true ∧ r.slot.isSome then some .slotOccupied
    else none

/-- The answer to an admission claim: of a service pass, or of an arrival. -/
def admissionAnswer (pass : Bool) (t : Trunk) (c : Channel) (need : Nat) (refusal : Option AdmissionRefusal) : Instr :=
  if pass then .passAdmissionAnswer t c need refusal else .arrivalAdmissionAnswer t c need refusal

/-- An admission claim (R14): granted, the reservation becomes need, the reserved sum rises by need, and for a staged
channel the precharge slot names it; refused, nothing changes. -/
def State.takeAdmission (s : State) (pass : Bool) (t : Trunk) (c : Channel) (need : Nat) (staged : Bool) : State :=
  match (s.trunk t).admissionRefusal need staged with
  | some why => s.send (admissionAnswer pass t c need (some why))
  | none =>
    let charged := s.charge c t need
    let slotted := if staged then charged.updTrunk t fun r => { r with slot := some c } else charged
    slotted.send (admissionAnswer pass t c need none)

/-- A restated reservation (R17): a decrease of the declared current is taken unconditionally, an increase when the sum
with the new value stays within the rating. Taken, mark and count are cleared; a fall of the reserved sum is a service
event (R18). The reservation is judged and changed on the trunk that it is charged against (DESIGN CHOICE where that is not the trunk of the
channel, log entry 44). -/
def State.takeRestated (s : State) (c : Channel) (old new : Nat) : State :=
  match s.chargeTrunk c with
  | none => s.send (.restatedReservationAnswer c false)
  | some t =>
    let held := (s.acct c).reservation
    if new ≤ old ∨ (s.trunk t).reserved + new ≤ profileField (s.trunk t) (·.rating) + held then
      let charged := (s.charge c t new).updAcct c fun a => { a with overdrawn := false, runCount := 0 }
      charged.send (.restatedReservationAnswer c true)
    else s.send (.restatedReservationAnswer c false)

/-- An admission confirmation (R67): on a TRIPPED trunk the channel is tripped with the trip heat. The trunk judged is the one that granted
the admission, also for a channel that has been moved to another since (DESIGN CHOICE, log entry 44). -/
def State.takeConfirmation (s : State) (t : Trunk) (c : Channel) : State :=
  if (s.trunk t).state = some .TRIPPED then s.send (.tripClaim t c (s.trunk t).tripHeat true) else s

/-! ### The trunk profile claim (R4, R5) -/

/-- The derivation of the trunk state at a profile claim: an entry into another state is taken with its actions, the same
state is kept as it stands (R4). -/
def State.derive (s : State) (t : Trunk) : State :=
  let new := derivedState (s.trunk t).latch (s.trunk t).heat
  if (s.trunk t).state = some new then s.updTrunk t fun r => { r with latch := decide (new = .TRIPPED) }
  else s.enterState t new

/-- A trunk profile claim: of a write in COMMISSION it replaces the profile and derives the state (R4); of an apply in
SERVICE it is refused when the new rating lies below the reserved sum, and otherwise replaces the profile, derives the
state of a trunk that was unconfigured, and is a service event (R5). -/
def State.takeTrunkProfile (s : State) (o : Origin) (t : Trunk) (new : TrunkProfile) : State :=
  let replaced := s.updTrunk t fun r => { r with profile := some new }
  match o with
  | .write p => (replaced.derive t).respond p .OK []
  | .apply =>
    if new.rating < (s.trunk t).reserved then s.send (.applyAnswer false)
    else
      let derived := if (s.trunk t).profile.isSome then replaced else replaced.derive t
      (derived.serviceEvent t).send (.applyAnswer true)

/-! ### Requests (R104, R105, R23) -/

/-- Some channel whose profile names the trunk has the port in its access mask (R104). -/
def State.mayClear (s : State) (p : Port) (t : Trunk) : Bool :=
  (List.finRange 12).any fun c => decide ((s.profile c).trunk = some t) && s.permits c p

/-- TRUNK CLEAR, judged by the Budget Unit (R104, R105). -/
def State.takeTrunkClear (s : State) (p : Port) (trunk : Byte) : State :=
  match trunkOf trunk with
  | none => s.respond p .BAD_ARGUMENT []
  | some t =>
    let h := (s.trunk t).heat
    if s.mayClear p t = false then s.respond p .NOT_PERMITTED []
    else if (s.trunk t).state ≠ some .TRIPPED then s.respond p .STATE [trunkStateByte (s.trunk t).state]
    else if Config.cool ≤ h then s.respond p .NOT_COOL (nat24 h)
    else
      (((s.updTrunk t fun r => { r with latch := false, state := some .NORMAL }).respond p .OK (nat24 h)).serviceEvent
        t).postTrunk t ⟨.CLEARED, .trunk t, none, some (.heat h)⟩

/-- READ TRUNK returns the trunk status record (R23). -/
def State.takeReadTrunk (s : State) (p : Port) (trunk : Byte) : State :=
  match trunkOf trunk with
  | none => s.respond p .BAD_ARGUMENT []
  | some t => s.respond p .OK (s.trunkRecord t)

/-! ### The commands -/

/-- TRUNK CLEAR (R104). -/
def execTrunkClear (r : Req) (trunk : Byte) (s : State) : Host.Outcome State Fault Refusal :=
  .next (s.hostRequest (.trunkClear r trunk) fun s => s.takeTrunkClear r.port trunk)

/-- READ TRUNK (R23). -/
def execReadTrunk (r : Req) (trunk : Byte) (s : State) : Host.Outcome State Fault Refusal :=
  .next (s.hostRequest (.readTrunk r trunk) fun s => s.takeReadTrunk r.port trunk)

/-- TRUNK_PROFILE_CLAIM (R4, R5). -/
def execTrunkProfileClaim (o : Origin) (t : Trunk) (new : TrunkProfile) (s : State) : Host.Outcome State Fault Refusal :=
  .next (s.taking (.trunkProfileClaim o t new) fun s => s.takeTrunkProfile o t new)

/-- BUDGET_INTERVAL_EXPIRY (R6). -/
def execBudgetIntervalExpiry (t : Trunk) (s : State) : Host.Outcome State Fault Refusal :=
  .next (s.running fun s => s.budgetExpiry t)

/-- SHED_INTERVAL_EXPIRY (R96): taken while the trunk is SHEDDING and its timer runs (R97). -/
def execShedIntervalExpiry (t : Trunk) (s : State) : Host.Outcome State Fault Refusal :=
  .next <| s.running fun s =>
    if (s.trunk t).state = some .SHEDDING ∧ (s.trunk t).shedTimer.isSome then s.shedExpiry t else s

/-- SHED_ANSWER (R95). -/
def execShedAnswer (t : Trunk) (c : Channel) (taken : Bool) (s : State) : Host.Outcome State Fault Refusal :=
  .next (s.taking (.shedAnswer t c taken) fun s => s.takeShedAnswer t c taken)

/-- TRIP_CLAIM_ANSWER (R101, R102). -/
def execTripClaimAnswer (t : Trunk) (c : Channel) (heat : Nat) (confirmation taken : Bool) (s : State) :
    Host.Outcome State Fault Refusal :=
  .next (s.taking (.tripClaimAnswer t c heat confirmation taken) fun s => s.takeTripAnswer t c heat confirmation taken)

/-- ADMISSION_CLAIM (R14). -/
def execAdmissionClaim (pass : Bool) (t : Trunk) (c : Channel) (need : Nat) (staged : Bool) (s : State) :
    Host.Outcome State Fault Refusal :=
  .next (s.taking (.admissionClaim pass t c need staged) fun s => s.takeAdmission pass t c need staged)

/-- RETURN_CLAIM (R15; log entry 2). -/
def execReturnClaim (c : Channel) (s : State) : Host.Outcome State Fault Refusal :=
  .next (s.taking (.returnClaim c) fun s => s.returnCharge c)

/-- COMPLETION_LOWERING (R16). By itself it lowers what it finds charged; a reservation of 0 has nothing to lower (log entry 2). -/
def execCompletionLowering (c : Channel) (s : State) : Host.Outcome State Fault Refusal :=
  .next (s.taking (.completionLowering c) fun s => if (s.acct c).charged.isSome then s.lowerCharge c else s)

/-- RESTATED_RESERVATION (R17). -/
def execRestatedReservation (c : Channel) (old new : Nat) (s : State) : Host.Outcome State Fault Refusal :=
  .next (s.taking (.restatedReservation c old new) fun s => s.takeRestated c old new)

/-- ADMISSION_CONFIRMATION (R67). -/
def execAdmissionConfirmation (t : Trunk) (c : Channel) (s : State) : Host.Outcome State Fault Refusal :=
  .next (s.taking (.admissionConfirmation t c) fun s => s.takeConfirmation t c)

end Sys2Proof.Machine
end

