-- ==== Sys2Proof/Machine/LineUnit.lean ====
section
/-! DEFINITION. The Line Unit (Chapter 7): debounce, the events of ASSIST and VETO lines, the answers of the Lease Manager and
the Admission Unit, and the binding claim. -/

namespace Sys2Proof.Machine

/-- A line claim is sent with the line's ASSIST current and priority (R121). -/
def State.sendLineClaim (s : State) (l : Line) : State :=
  match (s.line l).binding with
  | .ASSIST c cur prio => (s.updLine l fun r => { r with claim := some .CLAIM }).send (.lineClaim l c cur prio)
  | _ => s

/-- A line release is sent (R123). -/
def State.sendLineRelease (s : State) (l : Line) : State :=
  match (s.line l).binding with
  | .ASSIST c _ _ => (s.updLine l fun r => { r with claim := some .RELEASE }).send (.lineRelease l c)
  | _ => s

/-- A rising ASSIST line (R121): no claim while the line holds the lease or has a claim in hand. -/
def State.assistRise (s : State) (l : Line) : State :=
  if (s.line l).leaseHeld = true ∨ (s.line l).claim.isSome then s else s.sendLineClaim l

/-- A falling ASSIST line (Table of R123, in its order). -/
def State.assistFall (s : State) (l : Line) : State :=
  if (s.line l).leaseHeld = true ∧ (s.line l).claim = none then s.sendLineRelease l
  else s.updLine l fun r => { r with overruled := false }

/-- A resume claim is sent for a channel that no other VETO line withholds (R127). -/
def State.resumeUnlessVetoed (s : State) (l : Line) (c : Channel) : State :=
  if s.vetoedBy c (some l) then s else s.send (.resumeClaim l c)

/-- A rising event (R121, R127). -/
def State.lineRise (s : State) (l : Line) : State :=
  match (s.line l).binding with
  | .NONE => s
  | .ASSIST _ _ _ => s.assistRise l
  | .VETO c => s.resumeUnlessVetoed l c

/-- A falling event (R123, R126). -/
def State.lineFall (s : State) (l : Line) : State :=
  match (s.line l).binding with
  | .NONE => s
  | .ASSIST _ _ _ => s.assistFall l
  | .VETO c => s.send (.inhibitClaim l c)

/-- The raw level at an input changes (R119): the debounce timer is discarded when the level is back at the debounced
level, and starts anew otherwise; it stands still while reset is held. -/
def LineRec.rawChange (r : LineRec) (high : Bool) (inReset : Bool) : LineRec :=
  if r.raw = high then r
  else if inReset then { r with raw := high }
  else { r with raw := high, debounce := if r.level = some high then none else some Config.debounce }

/-- The debounce timer expires (R119, R120): the raw level becomes the debounced level; in SERVICE a change to high is a
rising event and a change from high to low a falling one. -/
def State.debounced (s : State) (l : Line) : State :=
  let r := s.line l
  let taken := s.updLine l fun r => { r with level := some r.raw, debounce := none }
  if s.config.phase ≠ .SERVICE then taken
  else if r.raw = true ∧ r.level ≠ some true then taken.lineRise l
  else if r.raw = false ∧ r.level = some true then taken.lineFall l
  else taken

/-- The answer to a line claim or line release in hand (R121, R123). -/
def State.takeLineAnswer (s : State) (l : Line) (kind : LineClaimKind) (taken : Bool) : State :=
  let high := (s.line l).high
  match (s.line l).binding with
  | .ASSIST c _ _ =>
    if (s.line l).claim ≠ some kind then s
    else match kind with
      | .CLAIM =>
        if taken then
          let held := (s.updLine l fun r => { r with leaseHeld := true, claim := none, overruled := false }).send
            (.lineEnergize c (.line l) false)
          if high then held else held.sendLineRelease l
        else s.updLine l fun r => { r with claim := none, overruled := r.overruled || high }
      | .RELEASE =>
        let released := s.updLine l fun r => { r with leaseHeld := false, claim := none }
        if high then released.sendLineClaim l else released
  | _ => s

/-- The response to an ENERGIZE of the Line Unit (R121, R127): after a resume, RESUMED goes to the holder port with the
response status and the channel state. -/
def State.takeLineResponse (s : State) (c : Channel) (resumed : Bool) (status : Status) (st : ChanState) : State :=
  if resumed then s.postHolder .lineUnit c ⟨.RESUMED, .channel c, some (.status status), some (.state st)⟩ else s

/-- A line that waits for a channel: ASSIST, bound to it, overruled, high, no claim in hand (R122). -/
def LineRec.waitsFor (r : LineRec) (c : Channel) : Bool :=
  match r.binding with
  | .ASSIST d _ _ => decide (d = c) && r.overruled && r.high && r.claim.isNone
  | _ => false

/-- A free report (R122): every line that waits for the channel sends its line claim, in line order. -/
def State.takeFreeReport (s : State) (c : Channel) : State :=
  ((List.finRange 4).filter fun l => (s.line l).waitsFor c).foldl (fun s l => s.sendLineClaim l) s

/-- The report that a line's lease has ended (R124): lease held becomes no, and a high line is overruled. -/
def State.takeLeaseEnded (s : State) (l : Line) : State :=
  match (s.line l).binding with
  | .ASSIST _ _ _ => s.updLine l fun r => { r with leaseHeld := false, overruled := r.overruled || r.high }
  | _ => s

/-- What the old binding calls for when it is replaced (step 1 of R129). -/
def State.unbindLine (s : State) (l : Line) (old : Binding) : State :=
  match old with
  | .VETO c => if (s.line l).high then s else s.resumeUnlessVetoed l c
  | _ => s

/-- What the new binding calls for (steps 2 and 3 of R129). -/
def State.bindLine (s : State) (l : Line) (new : Binding) : State :=
  match new with
  | .VETO c => if (s.line l).high then s else s.send (.inhibitClaim l c)
  | .ASSIST _ _ _ => if (s.line l).high then s.sendLineClaim l else s
  | .NONE => s

/-- The answer of the Line Unit to a binding claim: to the port of a write, or to the Configuration Unit (R129). -/
def State.answerBinding (s : State) (o : Origin) (taken : Bool) : State :=
  match o with
  | .write p => s.respond p (if taken then .OK else .HELD) []
  | .apply => s.send (.applyAnswer taken)

/-- A binding claim (R129): refused while the line holds a lease or has a claim in hand; taken, the binding is replaced
as a whole and the overruled flag cleared, and in SERVICE the old binding's actions precede the new one's. -/
def State.takeBinding (s : State) (o : Origin) (l : Line) (new : Binding) : State :=
  if (s.line l).leaseHeld = true ∨ (s.line l).claim.isSome then s.answerBinding o false
  else
    let bound := s.updLine l fun r => { r with binding := new, overruled := false }
    (if s.config.phase = .SERVICE then (bound.unbindLine l (s.line l).binding).bindLine l new else bound).answerBinding o true

/-- The phase is SERVICE (R120): every ASSIST line that is high acts as if it had risen, in line order. -/
def State.takeServicePhase (s : State) : State :=
  ((List.finRange 4).filter fun l =>
      (s.line l).high && match (s.line l).binding with | .ASSIST _ _ _ => true | _ => false).foldl
    (fun s l => s.assistRise l) s

/-! ### The commands -/

/-- RAW_LEVEL_CHANGE (R119). The level is the input's own, so it changes while reset is held as well. -/
def execRawLevelChange (l : Line) (high : Bool) (s : State) : Host.Outcome State Fault Refusal :=
  .next (s.updLine l fun r => r.rawChange high s.inReset)

/-- DEBOUNCE_EXPIRY (R119). -/
def execDebounceExpiry (l : Line) (s : State) : Host.Outcome State Fault Refusal :=
  .next <| s.running fun s => if (s.line l).debounce.isSome then s.debounced l else s

/-- LINE_CLAIM_ANSWER (R121, R123). -/
def execLineClaimAnswer (l : Line) (kind : LineClaimKind) (taken : Bool) (s : State) : Host.Outcome State Fault Refusal :=
  .next (s.taking (.lineClaimAnswer l kind taken) fun s => s.takeLineAnswer l kind taken)

/-- LINE_ENERGIZE_RESPONSE (R121, R127). -/
def execLineEnergizeResponse (c : Channel) (resumed : Bool) (status : Status) (st : ChanState) (s : State) :
    Host.Outcome State Fault Refusal :=
  .next (s.taking (.lineEnergizeResponse c resumed status st) fun s => s.takeLineResponse c resumed status st)

/-- FREE_REPORT (R122). -/
def execFreeReport (c : Channel) (s : State) : Host.Outcome State Fault Refusal :=
  .next (s.taking (.freeReport c) fun s => s.takeFreeReport c)

/-- LINE_LEASE_ENDED (R124). -/
def execLineLeaseEnded (l : Line) (s : State) : Host.Outcome State Fault Refusal :=
  .next (s.taking (.lineLeaseEnded l) fun s => s.takeLeaseEnded l)

/-- BINDING_CLAIM (R129). -/
def execBindingClaim (o : Origin) (l : Line) (new : Binding) (s : State) : Host.Outcome State Fault Refusal :=
  .next (s.taking (.bindingClaim o l new) fun s => s.takeBinding o l new)

/-- SERVICE_PHASE_REPORT (R120). -/
def execServicePhaseReport (s : State) : Host.Outcome State Fault Refusal :=
  .next (s.taking .servicePhaseReport fun s => s.takeServicePhase)

end Sys2Proof.Machine
end

