-- ==== Sys2Proof/Machine/Configuration.lean ====
section
/-! DEFINITION. The Configuration Unit (Chapter 8): direct writes, the close of commissioning, proposals and concurrence, the
session reports, the window timer, and the answer to an apply. -/

namespace Sys2Proof.Machine

/-! ### Notices of proposals (Table 8-8) -/

/-- A notice to every port other than the proposer that is LIVE in the Configuration Unit's port view; the ports in index order (DESIGN
CHOICE, log entry 30). -/
def State.postOthers (s : State) (proposer : Port) (n : Notice) : State :=
  ((List.finRange 4).filter fun p => decide (p ≠ proposer) && decide (s.config.view[p] = .LIVE)).foldl
    (fun s p => s.post .configurationUnit p n) s

/-- A notice to the proposer, LIVE or LAPSED in the Configuration Unit's port view (R145). -/
def State.postProposer (s : State) (proposer : Port) (n : Notice) : State :=
  if s.config.view[proposer] = .DOWN then s else s.post .configurationUnit proposer n

/-- The slot is emptied or filled. -/
def State.setSlot (s : State) (x : Option Proposal) : State := s.updConfig fun g => { g with slot := x }

/-- A proposal is OPEN. -/
def Proposal.isOpen (x : Proposal) : Bool := x.timer.isSome

/-- The withdrawal of the proposal in the slot: the slot is emptied, WITHDRAWN goes to the other LIVE ports (R143, R145). -/
def State.withdrawSlot (s : State) (x : Proposal) (cause : WithdrawCause) : State :=
  (s.setSlot none).postOthers x.proposer
    ⟨.WITHDRAWN, .proposal x.number, some (.withdraw cause), some (.port x.proposer)⟩

/-! ### Session reports (R145) -/

/-- The standing that a session report gives a port. -/
def standingAfter : SessionChange → PortState
  | .OPEN => .LIVE
  | .LAPSE => .LAPSED
  | .CLOSE => .DOWN

/-- The cause of a withdrawal by a session report; an OPEN withdraws nothing. -/
def withdrawalOf : SessionChange → Option WithdrawCause
  | .OPEN => none
  | .LAPSE => some .LAPSE
  | .CLOSE => some .CLOSE

/-- A session report (R145): the view changes; the lapse or CLOSE of the proposer of an OPEN proposal withdraws it. -/
def State.takeSessionReport (s : State) (p : Port) (change : SessionChange) : State :=
  let seen := s.updConfig fun g => { g with view := updAt g.view p fun _ => standingAfter change }
  match s.config.slot, withdrawalOf change with
  | some x, some cause => if x.proposer = p ∧ x.isOpen = true then seen.withdrawSlot x cause else seen
  | _, _ => seen

/-- What a session report in flight is of this port. -/
def reportOf (p : Port) : Instr → Option SessionChange
  | .sessionReport q change => if q = p then some change else none
  | _ => none

/-- The reports of a port that are in flight are taken before a later request of that port (R29, R145, R154). -/
def State.drainReports (s : State) (p : Port) : State :=
  (s.inFlight.filterMap (reportOf p)).foldl
    (fun s change => (s.arrive (.sessionReport p change)).takeSessionReport p change) s

/-! ### Direct writes (R131 to R134) -/

/-- The checks of R131 for a direct write, whose fields in range are `fields`. -/
def State.directWrite {α : Type} (s : State) (p : Port) (fields : Option α) (k : α → State) : State :=
  if s.config.phase ≠ .COMMISSION then s.respond p .WRONG_PHASE []
  else match fields with
    | none => s.respond p .BAD_ARGUMENT []
    | some x => k x

/-- TRUNK PROFILE WRITE: the copy is replaced and the Budget Unit gets the claim (R131, R132). -/
def State.takeTrunkWrite (s : State) (p : Port) (b : TrunkBlock) : State :=
  s.directWrite p (trunkProfileOf b) fun x =>
    (s.updConfig fun g => { g with trunkProfiles := updAt g.trunkProfiles x.1 fun _ => some x.2 }).send
      (.trunkProfileClaim (.write p) x.1 x.2)

/-- CHANNEL PROFILE WRITE: the copy is replaced and the Lease Manager gets the claim (R131, R133). -/
def State.takeChannelWrite (s : State) (p : Port) (b : ChannelBlock) : State :=
  s.directWrite p (channelProfileOf b) fun x =>
    (s.updConfig fun g => { g with channelProfiles := updAt g.channelProfiles x.1 fun _ => x.2 }).send
      (.channelProfileClaim (.write p) x.1 x.2)

/-- LINE BINDING WRITE: the copy is replaced and the Line Unit gets the claim (R131, R134). -/
def State.takeBindingWrite (s : State) (p : Port) (b : LineBlock) : State :=
  s.directWrite p (lineBindingOf b) fun x =>
    (s.updConfig fun g => { g with bindings := updAt g.bindings x.1 fun _ => x.2 }).send
      (.bindingClaim (.write p) x.1 x.2)

/-- The claim of a direct write, which its owner takes in COMMISSION (R131). -/
def isWriteClaim : Instr → Bool
  | .trunkProfileClaim (.write _) _ _ | .channelProfileClaim (.write _) _ _ | .bindingClaim (.write _) _ _ => true
  | _ => false

/-- The owner's part of a claim of a direct write (Table of R131). -/
def writeTake : Instr → State → State
  | .trunkProfileClaim o t new, s => s.takeTrunkProfile o t new
  | .channelProfileClaim o c new, s =>
    s.atLeaseManager (.channelProfileClaim o c new) fun s => s.takeChannelProfile o c new
  | .bindingClaim o l new, s => s.takeBinding o l new
  | _, s => s

/-- The claims of direct writes that are in flight are taken by their owners, in the order sent: a write that was taken is carried
out while the phase is COMMISSION, and it counts in the check of CLOSE COMMISSIONING (R130, R131, R136; DEDUCED, log entry 35). -/
def State.carryOutWrites (s : State) : State :=
  (s.inFlight.filter isWriteClaim).foldl (fun s m => writeTake m (s.arrive m)) s

/-! ### CLOSE COMMISSIONING (R136) -/

/-- A trunk that has been given no profile. -/
def State.unconfigured (s : State) (t : Trunk) : Bool := (s.trunk t).profile.isNone

/-- The lowest channel whose profile names an unconfigured trunk, with that trunk. -/
def State.failingChannel (s : State) : Option (Channel × Trunk) :=
  (List.finRange 12).findSome? fun c =>
    match (s.profile c).trunk with
    | some t => if s.unconfigured t then some (c, t) else none
    | none => none

/-- The third check of CLOSE COMMISSIONING and its acceptance (R136). -/
def State.closePhase (s : State) (p : Port) : State :=
  match s.failingChannel with
  | some (c, t) => s.respond p .INCOMPLETE [byteOf c.val, byteOf t.val]
  | none => ((s.updConfig fun g => { g with phase := .SERVICE }).send .servicePhaseReport).respond p .OK []

/-- CLOSE COMMISSIONING, judged by the Configuration Unit (R136), after every write taken before it has been carried out (R130). -/
def State.takeCloseCommissioning (s : State) (p : Port) : State :=
  if s.config.phase ≠ .COMMISSION then s.respond p .WRONG_PHASE []
  else s.carryOutWrites.closePhase p

/-! ### PROPOSE, CONCUR, WITHDRAW, READ PROPOSAL -/

/-- The proposal counter after an accepted PROPOSE: from 65,535 it goes to 1 (R138). -/
def nextNumber (n : BitVec 16) : BitVec 16 := if n = 0xFFFF#16 then 1#16 else n + 1

/-- PROPOSE, judged by the Configuration Unit (R139). -/
def State.takePropose (s : State) (p : Port) (b : ProposeBlock) : State :=
  if s.config.phase ≠ .SERVICE then s.respond p .WRONG_PHASE []
  else match proposalOf b with
    | none => s.respond p .BAD_ARGUMENT []
    | some body =>
      if s.config.slot.isSome then s.respond p .SLOT_BUSY []
      else
        let n := s.config.counter
        ((s.updConfig fun g => { g with
            slot := some ⟨.OPEN Config.window, n, p, body⟩, counter := nextNumber n }).respond p .OK (be16 n)).postOthers p
          ⟨.PROPOSAL, .proposal n, some (.kind body.kindOf), some (.port p)⟩

/-- The refusal cause of an owner, by kind (Table 8-7). -/
def ProposalBody.refusal : ProposalBody → Status
  | .trunk _ _ => .NO_HEADROOM
  | .channel _ _ => .HELD
  | .line _ _ => .HELD
  | .lockout _ => .STATE

/-- The apply claim of a proposal, to the owner of its target (Table 8-7). -/
def ProposalBody.applyClaim : ProposalBody → Instr
  | .trunk t new => .trunkProfileClaim .apply t new
  | .channel c new => .channelProfileClaim .apply c new
  | .line l new => .bindingClaim .apply l new
  | .lockout c => .lockoutReleaseClaim c

/-- The Configuration Unit's own condition fails: a channel profile that names an unconfigured trunk (Table 8-7). -/
def State.ownConditionFails (s : State) : ProposalBody → Bool
  | .channel _ new => new.trunk.any s.unconfigured
  | _ => false

/-- An apply is refused (R141): the slot is emptied, the CONCUR is answered with the cause, REFUSED goes to the proposer. -/
def State.applyRefused (s : State) (x : Proposal) (q : Port) (cause : Status) : State :=
  ((s.setSlot none).respond q .OK [1#8, statusCode cause]).postProposer x.proposer
    ⟨.REFUSED, .proposal x.number, some (.status cause), some (.port q)⟩

/-- The Configuration Unit's copy of a trunk profile or binding is replaced when the apply was taken (step 3 of R141). -/
def ConfigRec.replaceCopy (g : ConfigRec) : ProposalBody → ConfigRec
  | .trunk t new => { g with trunkProfiles := updAt g.trunkProfiles t fun _ => some new }
  | .line l new => { g with bindings := updAt g.bindings l fun _ => new }
  | .channel _ _ => g
  | .lockout _ => g

/-- An apply is taken (R141): the copy is replaced, the slot emptied, the CONCUR answered, APPLIED goes to the proposer. -/
def State.applyTaken (s : State) (x : Proposal) (q : Port) : State :=
  (((s.updConfig fun g => g.replaceCopy x.body).setSlot none).respond q .OK [0#8, 0#8]).postProposer x.proposer
    ⟨.APPLIED, .proposal x.number, some (.kind x.body.kindOf), some (.port q)⟩

/-- The OPEN proposal of a number, which CONCUR and WITHDRAW look for (R140, R143). -/
def State.openProposal (s : State) (n : BitVec 16) : Option Proposal :=
  s.config.slot.filter fun x => x.isOpen && decide (x.number = n)

/-- The checks that CONCUR and WITHDRAW share (R140, R143): the phase, the number, the OPEN proposal of that number. -/
def State.namedProposal (s : State) (p : Port) (n : BitVec 16) (k : Proposal → State) : State :=
  if s.config.phase ≠ .SERVICE then s.respond p .WRONG_PHASE []
  else if n = 0#16 then s.respond p .BAD_ARGUMENT []
  else match s.openProposal n with
    | none => s.respond p .NO_PROPOSAL []
    | some x => k x

/-- CONCUR, judged by the Configuration Unit (R140): the status becomes APPLYING with the concurrer, and the apply test
of the kind is run (R141, R142). -/
def State.takeConcur (s : State) (p : Port) (n : BitVec 16) : State :=
  s.namedProposal p n fun x =>
    if x.proposer = p then s.respond p .SELF_CONCUR []
    else if s.ownConditionFails x.body then s.applyRefused x p .INCOMPLETE
    else (s.setSlot (some { x with status := .APPLYING p })).send x.body.applyClaim

/-- WITHDRAW, judged by the Configuration Unit (R143). -/
def State.takeWithdraw (s : State) (p : Port) (n : BitVec 16) : State :=
  s.namedProposal p n fun x =>
    if x.proposer ≠ p then s.respond p .NOT_PERMITTED []
    else (s.respond p .OK []).withdrawSlot x .WITHDRAW

/-- READ PROPOSAL returns the proposal record, in either device phase (R146). -/
def State.takeReadProposal (s : State) (p : Port) : State := s.respond p .OK s.proposalRecord

/-- The window timer of an OPEN proposal expires (R144): the slot is emptied and EXPIRED goes to the proposer. -/
def State.windowExpiry (s : State) : State :=
  match s.config.slot with
  | some x =>
    if x.isOpen then
      (s.setSlot none).postProposer x.proposer ⟨.EXPIRED, .proposal x.number, some (.kind x.body.kindOf), none⟩
    else s
  | none => s

/-- The owner's answer to an apply claim (R141). -/
def State.takeApplyAnswer (s : State) (taken : Bool) : State :=
  match s.config.slot with
  | some x =>
    match x.status with
    | .APPLYING q => if taken then s.applyTaken x q else s.applyRefused x q x.body.refusal
    | .OPEN _ => s
  | none => s

/-! ### The commands -/

/-- TRUNK PROFILE WRITE (R131). -/
def execTrunkProfileWrite (r : Req) (b : TrunkBlock) (s : State) : Host.Outcome State Fault Refusal :=
  .next (s.hostRequest (.trunkProfileWrite r b) fun s => (s.drainReports r.port).takeTrunkWrite r.port b)

/-- CHANNEL PROFILE WRITE (R131). -/
def execChannelProfileWrite (r : Req) (b : ChannelBlock) (s : State) : Host.Outcome State Fault Refusal :=
  .next (s.hostRequest (.channelProfileWrite r b) fun s => (s.drainReports r.port).takeChannelWrite r.port b)

/-- LINE BINDING WRITE (R131). -/
def execLineBindingWrite (r : Req) (b : LineBlock) (s : State) : Host.Outcome State Fault Refusal :=
  .next (s.hostRequest (.lineBindingWrite r b) fun s => (s.drainReports r.port).takeBindingWrite r.port b)

/-- CLOSE COMMISSIONING (R136). -/
def execCloseCommissioning (r : Req) (s : State) : Host.Outcome State Fault Refusal :=
  .next (s.hostRequest (.closeCommissioning r) fun s => (s.drainReports r.port).takeCloseCommissioning r.port)

/-- PROPOSE (R139). -/
def execPropose (r : Req) (b : ProposeBlock) (s : State) : Host.Outcome State Fault Refusal :=
  .next (s.hostRequest (.propose r b) fun s => (s.drainReports r.port).takePropose r.port b)

/-- CONCUR (R140). -/
def execConcur (r : Req) (n : BitVec 16) (s : State) : Host.Outcome State Fault Refusal :=
  .next (s.hostRequest (.concur r n) fun s => (s.drainReports r.port).takeConcur r.port n)

/-- WITHDRAW (R143). -/
def execWithdraw (r : Req) (n : BitVec 16) (s : State) : Host.Outcome State Fault Refusal :=
  .next (s.hostRequest (.withdraw r n) fun s => (s.drainReports r.port).takeWithdraw r.port n)

/-- READ PROPOSAL (R146). -/
def execReadProposal (r : Req) (s : State) : Host.Outcome State Fault Refusal :=
  .next (s.hostRequest (.readProposal r) fun s => (s.drainReports r.port).takeReadProposal r.port)

/-- SESSION_REPORT (R145). -/
def execSessionReport (p : Port) (change : SessionChange) (s : State) : Host.Outcome State Fault Refusal :=
  .next (s.taking (.sessionReport p change) fun s => s.takeSessionReport p change)

/-- WINDOW_TIMER_EXPIRY (R144). -/
def execWindowTimerExpiry (s : State) : Host.Outcome State Fault Refusal := .next (s.running State.windowExpiry)

/-- APPLY_ANSWER (R141). -/
def execApplyAnswer (taken : Bool) (s : State) : Host.Outcome State Fault Refusal :=
  .next (s.taking (.applyAnswer taken) fun s => s.takeApplyAnswer taken)

end Sys2Proof.Machine
end

