-- ==== Sys2Proof/Machine/Sense.lean ====
section
/-! DEFINITION. The Sense Block and the Channel Drivers (Chapter 6): the samplers, the hard-short comparator, the pulses. -/

namespace Sys2Proof.Machine

/-- A pulse command is carried out: the commanded drive is pulsing, no hold is set and no pulse is in progress (R115). -/
def State.carriesOut (s : State) (c : Channel) : Bool :=
  decide (s.commanded c = .pulsing) && !(s.driver c).shortHold && !s.tripHold c && (s.driver c).pulse.isNone

/-- A pulse command at its driver (R115): carried out, or dropped. A sample still deferred for a pulse that was cut short then waits for the
end of the new pulse (DESIGN CHOICE, log entry 32). -/
def State.takePulse (s : State) (c : Channel) (onTime : Nat) : State :=
  if s.carriesOut c then s.updDriver c fun d => { d with pulse := some onTime } else s

/-- The voltage at a channel's output input. -/
def State.setOutputPin (s : State) (c : Channel) (vo : Int) : State :=
  s.updSense fun b => { b with voPin := updAt b.voPin c fun _ => vo }

/-- The current samples of a sample period (R109), from the sensed current of each channel over equal parts of the period; the last
part is what the input goes on to give. -/
def State.sampleCurrents (s : State) (sensed : Vector (List Int) 12) : State :=
  s.updSense fun b => { b with
    current := sensed.map meanSample
    isPin := Vector.zipWith (fun parts old => parts.getLast?.getD old) sensed b.isPin
    currentTimer := Config.currentPeriod }

/-- The feed-voltage samples of an instant (R111), and what the voltage inputs give. -/
def State.sampleFeeds (s : State) (vo : Vector Int 12) (vf : Vector Int 3) : State :=
  s.updSense fun b => { b with
    vfeed := vf.map voltageSample, voPin := vo, vfPin := vf, voltageTimer := Config.voltagePeriod }

/-- The output-voltage sample of a channel at an instant (R110): deferred while a pulse is in progress. R110 does not say what becomes of a
sample still deferred for a pulse that was cut short or ran on into ON when an instant comes before the PULSE_END that would take it: the
instant's own sample, or while a new pulse is in progress the sample at that pulse's end, stands for both (DESIGN CHOICE, log entry 32). -/
def State.sampleOrDefer (s : State) (c : Channel) : State :=
  if (s.driver c).pulse.isSome then s.updSense fun b => { b with deferred := updAt b.deferred c fun _ => true }
  else s.sampleOutput c

/-- An output-sampling instant (R110, R111): the feeds, then the outputs in index order. R111 leaves the order of the two events at the
Staged Energize Unit open: here every feed voltage of an instant stands before any output sample of that instant is on its way, so an
output sample never meets the feed voltage of the instant before (DESIGN CHOICE, log entry 34). R110 gives the outputs no order (DESIGN
CHOICE, log entry 30). -/
def State.sampleAll (s : State) (vo : Vector Int 12) (vf : Vector Int 3) : State :=
  (List.finRange 12).foldl (fun s c => s.sampleOrDefer c) (s.sampleFeeds vo vf)

/-- The sensed current of a channel against its hard-short limit (R112, R113): above it at an armed comparator, the driver
sets its short hold, ends a pulse in progress and passes the detection to the Lease Manager. R112 has a detection raised when the
current rises above the limit, and does not say what a current above the limit does that stands when the comparator becomes armed: the
model tests the level at each SHORT_DETECTION command, also right after the arming, and raises none by itself (DESIGN CHOICE, log
entry 41). -/
def State.detectShort (s : State) (c : Channel) (current : Nat) : State :=
  if s.armed c = true ∧ (s.profile c).limit < current then
    ((s.updDriver c fun d => { d with shortHold := true }).endPulse c).send (.shortDetectionTaken c)
  else s

/-! ### The commands -/

/-- PULSE_COMMAND (R115). -/
def execPulseCommand (c : Channel) (onTime : Nat) (s : State) : Host.Outcome State Fault Refusal :=
  .next (s.taking (.pulseCommand c onTime) fun s => s.takePulse c onTime)

/-- The end of a pulse (R110, R115), with the output voltage then at the input, in µV: a pulse in progress ends at its on-time, and a
deferred sample is taken. A pulse that was cut short left its sample deferred, and its end is this event too. -/
def State.pulseEnd (s : State) (c : Channel) (vo : Int) : State :=
  if s.sense.deferred[c] then ((s.endPulse c).setOutputPin c vo).sampleOutput c
  else if (s.driver c).pulse.isSome then (s.endPulse c).setOutputPin c vo
  else s

/-- PULSE_END (R115, R110). -/
def execPulseEnd (c : Channel) (vo : Int) (s : State) : Host.Outcome State Fault Refusal :=
  .next (s.running fun s => s.pulseEnd c vo)

/-- CURRENT_SAMPLE (R109): the sensed current of each channel over equal parts of the sample period, in µA, negative in the reverse
direction. -/
def execCurrentSample (sensed : Vector (List Int) 12) (s : State) : Host.Outcome State Fault Refusal :=
  .next (s.running fun s => s.sampleCurrents sensed)

/-- SAMPLE_INSTANT (R110, R111), with the voltages at the inputs in µV. -/
def execSampleInstant (vo : Vector Int 12) (vf : Vector Int 3) (s : State) : Host.Outcome State Fault Refusal :=
  .next (s.running fun s => s.sampleAll vo vf)

/-- SHORT_DETECTION (R112, R113): the sensed current of the channel, in mA. -/
def execShortDetection (c : Channel) (current : Nat) (s : State) : Host.Outcome State Fault Refusal :=
  .next (s.running fun s => s.detectShort c current)

end Sys2Proof.Machine
end

