-- ==== Sys2Proof/Machine/Windows.lean ====
section
/-! DEFINITION. A select window from its bytes alone (R149 to R154): the idle window, the turnaround window, the bad frame, the
replay and the unknown code. The bytes decide what a window is, so each of these commands is the same window. -/

namespace Sys2Proof.Machine

/-- The part of a request that its owner judges (Table 9-4). -/
def ownerPart : Instr → State → State
  | .openPort r period, s => s.ownOpen r.port period
  | .closePort r, s => s.ownClose r.port
  | .ping r, s => s.ownPing r.port
  | .readPort r port, s => s.ownReadPort r.port port
  | .readIdent r, s => s.ownReadIdent r.port
  | .readNotice r, s => s.ownReadNotice r.port
  | .energize r ch, s => s.takeEnergize r ch
  | .trunkClear r trunk, s => s.takeTrunkClear r.port trunk
  | .readTrunk r trunk, s => s.takeReadTrunk r.port trunk
  | .trunkProfileWrite r b, s => (s.drainReports r.port).takeTrunkWrite r.port b
  | .channelProfileWrite r b, s => (s.drainReports r.port).takeChannelWrite r.port b
  | .lineBindingWrite r b, s => (s.drainReports r.port).takeBindingWrite r.port b
  | .closeCommissioning r, s => (s.drainReports r.port).takeCloseCommissioning r.port
  | .propose r b, s => (s.drainReports r.port).takePropose r.port b
  | .concur r n, s => (s.drainReports r.port).takeConcur r.port n
  | .withdraw r n, s => (s.drainReports r.port).takeWithdraw r.port n
  | .readProposal r, s => (s.drainReports r.port).takeReadProposal r.port
  | i, s => s.atLeaseManager i (leaseTake i)

/-- What the Port Unit does with the bytes of a window it takes (R151 to R154, R176). -/
def State.actOn (s : State) (p : Port) (bytes : List Byte) : State :=
  match checkFrame bytes with
  | .idle => s
  | .bad tag => s.updPort p fun r => { r with holder := some (responseFrame tag .BAD_FRAME []) }
  | .request tag code payload crc =>
    match decodeRequest ⟨p, tag, bytes.drop (payload.length + 5)⟩ code payload with
    | none => s.accept p tag crc true fun s => s.finish p .BAD_ARGUMENT []
    | some i => s.accept p tag crc (anyPortState i) (ownerPart i)

/-- A select window of a port, given by its bytes. -/
def State.rawWindow (s : State) (p : Port) (bytes : List Byte) : State :=
  s.window p bytes fun s => s.actOn p bytes

/-- IDLE_WINDOW (R151). -/
def execIdleWindow (p : Port) (bytes : List Byte) (s : State) : Host.Outcome State Fault Refusal :=
  .next (s.rawWindow p bytes)

/-- TURNAROUND_WINDOW (R150). -/
def execTurnaroundWindow (p : Port) (bytes : List Byte) (s : State) : Host.Outcome State Fault Refusal :=
  .next (s.rawWindow p bytes)

/-- BAD_FRAME (R152). -/
def execBadFrame (p : Port) (bytes : List Byte) (s : State) : Host.Outcome State Fault Refusal :=
  .next (s.rawWindow p bytes)

/-- REPLAY (R153). -/
def execReplay (p : Port) (bytes : List Byte) (s : State) : Host.Outcome State Fault Refusal :=
  .next (s.rawWindow p bytes)

/-- UNKNOWN_CODE_FRAME (R154, R176). -/
def execUnknownCodeFrame (p : Port) (bytes : List Byte) (s : State) : Host.Outcome State Fault Refusal :=
  .next (s.rawWindow p bytes)

end Sys2Proof.Machine
end

