-- ==== Sys2Proof/Machine/Clock.lean ====
section
/-! DEFINITION. The part's own clock (log entry 7): one microsecond on every timer that runs, and the commands that are due when
a timer has run out. -/

namespace Sys2Proof.Machine

/-- One microsecond less to run. -/
def countDown (timer : Option Nat) : Option Nat := timer.map fun us => us - 1

/-- The timers of a trunk record. -/
def TrunkRec.tick (r : TrunkRec) : TrunkRec := { r with interval := r.interval - 1, shedTimer := countDown r.shedTimer }

/-- The fill timer of a run phase. -/
def RunPhase.tick : RunPhase → RunPhase
  | .PROBE n => .PROBE n
  | .FILL timer => .FILL (countDown timer)

/-- The timers of a run. -/
def Run.tick (r : Run) : Run := { r with phase := r.phase.tick, period := countDown r.period }

/-- The window timer of a proposal. -/
def Proposal.tick (x : Proposal) : Proposal :=
  match x.status with
  | .OPEN us => { x with status := .OPEN (us - 1) }
  | .APPLYING _ => x

/-- One microsecond passes: every running timer of the part counts down. -/
def State.tick (s : State) : State :=
  { s with
    trunks := s.trunks.map TrunkRec.tick
    channels := s.channels.map fun r => { r with onStable := countDown r.onStable }
    queues := s.queues.map fun q => q.map fun e => { e with timer := countDown e.timer }
    runs := s.runs.map fun r => r.map Run.tick
    drivers := s.drivers.map fun d => { d with pulse := countDown d.pulse }
    sense := { s.sense with
      currentTimer := s.sense.currentTimer - 1
      voltageTimer := s.sense.voltageTimer - 1 }
    lines := s.lines.map fun r => { r with debounce := countDown r.debounce }
    ports := s.ports.map fun r => { r with timer := countDown r.timer }
    config := { s.config with slot := s.config.slot.map Proposal.tick } }

/-- A timer has run out. -/
def runOut (timer : Option Nat) : Bool := decide (timer = some 0)

/-- The period timer of a run in a phase has run out. -/
def Run.periodOut (r : Run) (probe : Bool) : Bool :=
  runOut r.period && match r.phase with
    | .PROBE _ => probe
    | .FILL _ => !probe

/-- The fill timer of a run has run out. -/
def Run.fillOut (r : Run) : Bool :=
  match r.phase with
  | .FILL timer => runOut timer
  | .PROBE _ => false

/-- A pulse has run for its on-time, or has ended with its deferred sample still to take (R110). -/
def State.pulseOver (s : State) (c : Channel) : Bool :=
  runOut (s.driver c).pulse || ((s.driver c).pulse.isNone && s.sense.deferred[c])

/-- The commands that are due, in the fixed order in which the part's own clock takes them (log entry 7). -/
def State.dueList (s : State) : List Instr :=
  ((channelsWhere s.pulseOver).map fun c => Instr.pulseEnd c s.sense.voPin[c])
    ++ (if s.sense.voltageTimer = 0 then [.sampleInstant s.sense.voPin s.sense.vfPin] else [])
    ++ (if s.sense.currentTimer = 0 then [.currentSample (s.sense.isPin.map fun x => [x])] else [])
    ++ ((List.finRange 3).filter fun t => decide ((s.trunk t).interval = 0)).map .budgetIntervalExpiry
    ++ ((List.finRange 3).filter fun t => runOut (s.trunk t).shedTimer).map .shedIntervalExpiry
    ++ ((List.finRange 3).filter fun t => (s.run t).any fun r => r.periodOut true).map .probePeriodExpiry
    ++ ((List.finRange 3).filter fun t => (s.run t).any fun r => r.periodOut false).map .fillPeriodExpiry
    ++ ((List.finRange 3).filter fun t => (s.run t).any Run.fillOut).map .fillTimerExpiry
    ++ (channelsWhere fun c => runOut (s.chan c).onStable).map .onStableExpiry
    ++ ((List.finRange 4).filter fun l => runOut (s.line l).debounce).map .debounceExpiry
    ++ (((List.finRange 3).flatMap fun t => (s.queue t).filter fun e => runOut e.timer).map fun e => .waitLimitExpiry e.channel)
    ++ (if s.config.slot.any fun x => runOut x.timer then [.windowTimerExpiry] else [])
    ++ ((List.finRange 4).filter fun p => runOut (s.port p).timer).map .supervisionExpiry

/-- The first command that is due. -/
def State.due (s : State) : Option Instr := s.dueList.head?

end Sys2Proof.Machine
end

