-- ==== Sys2Proof/Machine/Reset.lean ====
section
/-! DEFINITION. The resets: POWER_ON_RESET (R179), NRST_RESET (R2), RESET_RELEASE (R178). -/

namespace Sys2Proof.Machine

/-- Every record at its value after either reset, with the given trunk records; reset is held. What stands at the pins is
not the part's: the raw level of each demand line and the analog inputs stay (R25, R53, R76, R108, R118, R135, R148). -/
def State.resetWith (s : State) (trunks : Vector TrunkRec 3) : State :=
  { State.reset with
    pending := s.pending
    trunks := trunks
    sense := Sense.reset s.sense.isPin s.sense.voPin s.sense.vfPin
    lines := s.lines.map fun l => LineRec.reset l.raw }

/-- POWER_ON_RESET: every record at its power-on value, H at the cold-start value and the trip latch clear (R2, R179). -/
def execPowerOnReset (s : State) : Host.Outcome State Fault Refusal :=
  .next (s.resetWith (Vector.replicate 3 TrunkRec.reset))

/-- A trunk record after NRST: H and the trip latch keep the values held at the assertion (Table 1-2). -/
def TrunkRec.nrst (r : TrunkRec) : TrunkRec := { TrunkRec.reset with heat := r.heat, latch := r.latch }

/-- NRST_RESET: every record at its reset value except the heat and the trip latch of each trunk (R2). -/
def execNrstReset (s : State) : Host.Outcome State Fault Refusal :=
  .next (s.resetWith (s.trunks.map TrunkRec.nrst))

/-- RESET_RELEASE: the budget intervals, samplers and debounce start (R2, R108, R119), and a port whose select line is
still asserted does not take that window (R178). Nothing happens when reset is not held. -/
def execResetRelease (selected : List Port) (s : State) : Host.Outcome State Fault Refusal :=
  .next <|
    if s.inReset then
      { s with
        inReset := false
        lines := s.lines.map fun l => { l with debounce := some Config.debounce }
        ports := Vector.ofFn fun p => { s.port p with selHeld := selected.contains p } }
    else s

end Sys2Proof.Machine
end

