-- ==== Sys2Proof/Machine/Dispatch.lean ====
section
/-! DEFINITION. The dispatch: one arm for each constructor of Instr, one direct call of its meaning. -/

namespace Sys2Proof.Machine

def exec (i : Instr) (s : State) : Host.Outcome State Fault Refusal :=
  match i with
  | .powerOnReset => Sys2Proof.Machine.execPowerOnReset s
  | .nrstReset => Sys2Proof.Machine.execNrstReset s
  | .resetRelease selected => Sys2Proof.Machine.execResetRelease selected s
  | .idleWindow p bytes => Sys2Proof.Machine.execIdleWindow p bytes s
  | .turnaroundWindow p bytes => Sys2Proof.Machine.execTurnaroundWindow p bytes s
  | .badFrame p bytes => Sys2Proof.Machine.execBadFrame p bytes s
  | .replay p bytes => Sys2Proof.Machine.execReplay p bytes s
  | .unknownCodeFrame p bytes => Sys2Proof.Machine.execUnknownCodeFrame p bytes s
  | .responseReady p status payload => Sys2Proof.Machine.execResponseReady p status payload s
  | .openPort r period => Sys2Proof.Machine.execOpenPort r period s
  | .closePort r => Sys2Proof.Machine.execClosePort r s
  | .ping r => Sys2Proof.Machine.execPing r s
  | .readPort r port => Sys2Proof.Machine.execReadPort r port s
  | .readIdent r => Sys2Proof.Machine.execReadIdent r s
  | .readNotice r => Sys2Proof.Machine.execReadNotice r s
  | .claim r channel current priority policy successor wait => Sys2Proof.Machine.execClaim r channel current priority policy successor wait s
  | .release r channel => Sys2Proof.Machine.execRelease r channel s
  | .adopt r channel => Sys2Proof.Machine.execAdopt r channel s
  | .energize r channel => Sys2Proof.Machine.execEnergize r channel s
  | .deEnergize r channel => Sys2Proof.Machine.execDeEnergize r channel s
  | .clearFault r channel => Sys2Proof.Machine.execClearFault r channel s
  | .restate r channel current => Sys2Proof.Machine.execRestate r channel current s
  | .readChannel r channel => Sys2Proof.Machine.execReadChannel r channel s
  | .trunkClear r trunk => Sys2Proof.Machine.execTrunkClear r trunk s
  | .readTrunk r trunk => Sys2Proof.Machine.execReadTrunk r trunk s
  | .trunkProfileWrite r b => Sys2Proof.Machine.execTrunkProfileWrite r b s
  | .channelProfileWrite r b => Sys2Proof.Machine.execChannelProfileWrite r b s
  | .lineBindingWrite r b => Sys2Proof.Machine.execLineBindingWrite r b s
  | .closeCommissioning r => Sys2Proof.Machine.execCloseCommissioning r s
  | .propose r b => Sys2Proof.Machine.execPropose r b s
  | .concur r number => Sys2Proof.Machine.execConcur r number s
  | .withdraw r number => Sys2Proof.Machine.execWithdraw r number s
  | .readProposal r => Sys2Proof.Machine.execReadProposal r s
  | .supervisionExpiry p => Sys2Proof.Machine.execSupervisionExpiry p s
  | .openClaim p epoch => Sys2Proof.Machine.execOpenClaim p epoch s
  | .lapseClaim p => Sys2Proof.Machine.execLapseClaim p s
  | .closeClaim p => Sys2Proof.Machine.execCloseClaim p s
  | .sessionReport p change => Sys2Proof.Machine.execSessionReport p change s
  | .windowTimerExpiry => Sys2Proof.Machine.execWindowTimerExpiry s
  | .applyAnswer taken => Sys2Proof.Machine.execApplyAnswer taken s
  | .trunkProfileClaim o t new => Sys2Proof.Machine.execTrunkProfileClaim o t new s
  | .channelProfileClaim o c new => Sys2Proof.Machine.execChannelProfileClaim o c new s
  | .bindingClaim o l new => Sys2Proof.Machine.execBindingClaim o l new s
  | .lockoutReleaseClaim c => Sys2Proof.Machine.execLockoutReleaseClaim c s
  | .servicePhaseReport => Sys2Proof.Machine.execServicePhaseReport s
  | .budgetIntervalExpiry t => Sys2Proof.Machine.execBudgetIntervalExpiry t s
  | .shedIntervalExpiry t => Sys2Proof.Machine.execShedIntervalExpiry t s
  | .shedClaim t c => Sys2Proof.Machine.execShedClaim t c s
  | .shedAnswer t c taken => Sys2Proof.Machine.execShedAnswer t c taken s
  | .tripClaim t c heat confirmation => Sys2Proof.Machine.execTripClaim t c heat confirmation s
  | .tripClaimAnswer t c heat confirmation taken => Sys2Proof.Machine.execTripClaimAnswer t c heat confirmation taken s
  | .admissionClaim pass t c need staged => Sys2Proof.Machine.execAdmissionClaim pass t c need staged s
  | .returnClaim c => Sys2Proof.Machine.execReturnClaim c s
  | .completionLowering c => Sys2Proof.Machine.execCompletionLowering c s
  | .restatedReservation c old new => Sys2Proof.Machine.execRestatedReservation c old new s
  | .admissionConfirmation t c => Sys2Proof.Machine.execAdmissionConfirmation t c s
  | .lineEnergize c holder resumed => Sys2Proof.Machine.execLineEnergize c holder resumed s
  | .arrivalAdmissionAnswer t c need refusal => Sys2Proof.Machine.execArrivalAdmissionAnswer t c need refusal s
  | .queueEntryClaim c found => Sys2Proof.Machine.execQueueEntryClaim c found s
  | .queueEntryAnswer c left ahead => Sys2Proof.Machine.execQueueEntryAnswer c left ahead s
  | .withholdClaim c found => Sys2Proof.Machine.execWithholdClaim c found s
  | .admitClaim t c found stamp need => Sys2Proof.Machine.execAdmitClaim t c found stamp need s
  | .admitClaimAnswer t c found need left taken => Sys2Proof.Machine.execAdmitClaimAnswer t c found need left taken s
  | .serviceEvent t => Sys2Proof.Machine.execServiceEvent t s
  | .passAdmissionAnswer t c need refusal => Sys2Proof.Machine.execPassAdmissionAnswer t c need refusal s
  | .removalClaim c => Sys2Proof.Machine.execRemovalClaim c s
  | .waitLimitExpiry c => Sys2Proof.Machine.execWaitLimitExpiry c s
  | .waitExpiryClaim c => Sys2Proof.Machine.execWaitExpiryClaim c s
  | .queueFlush t heat => Sys2Proof.Machine.execQueueFlush t heat s
  | .flushClaim c heat => Sys2Proof.Machine.execFlushClaim c heat s
  | .start c => Sys2Proof.Machine.execStart c s
  | .probePeriodExpiry t => Sys2Proof.Machine.execProbePeriodExpiry t s
  | .advanceClaim c => Sys2Proof.Machine.execAdvanceClaim c s
  | .advanceAnswer c taken => Sys2Proof.Machine.execAdvanceAnswer c taken s
  | .fillPeriodExpiry t => Sys2Proof.Machine.execFillPeriodExpiry t s
  | .outputVoltageSample c vout => Sys2Proof.Machine.execOutputVoltageSample c vout s
  | .fillTimerExpiry t => Sys2Proof.Machine.execFillTimerExpiry t s
  | .completionClaim c => Sys2Proof.Machine.execCompletionClaim c s
  | .completionAnswer c taken => Sys2Proof.Machine.execCompletionAnswer c taken s
  | .prechargeFailureClaim c cause => Sys2Proof.Machine.execPrechargeFailureClaim c cause s
  | .failureAnswer c taken => Sys2Proof.Machine.execFailureAnswer c taken s
  | .abort c => Sys2Proof.Machine.execAbort c s
  | .pulseCommand c onTime => Sys2Proof.Machine.execPulseCommand c onTime s
  | .pulseEnd c vo => Sys2Proof.Machine.execPulseEnd c vo s
  | .currentSample sensed => Sys2Proof.Machine.execCurrentSample sensed s
  | .sampleInstant vo vf => Sys2Proof.Machine.execSampleInstant vo vf s
  | .shortDetection c current => Sys2Proof.Machine.execShortDetection c current s
  | .shortDetectionTaken c => Sys2Proof.Machine.execShortDetectionTaken c s
  | .onStableExpiry c => Sys2Proof.Machine.execOnStableExpiry c s
  | .rawLevelChange l high => Sys2Proof.Machine.execRawLevelChange l high s
  | .debounceExpiry l => Sys2Proof.Machine.execDebounceExpiry l s
  | .lineClaim l c current priority => Sys2Proof.Machine.execLineClaim l c current priority s
  | .lineRelease l c => Sys2Proof.Machine.execLineRelease l c s
  | .lineClaimAnswer l kind taken => Sys2Proof.Machine.execLineClaimAnswer l kind taken s
  | .inhibitClaim l c => Sys2Proof.Machine.execInhibitClaim l c s
  | .resumeClaim l c => Sys2Proof.Machine.execResumeClaim l c s
  | .lineEnergizeResponse c resumed status state => Sys2Proof.Machine.execLineEnergizeResponse c resumed status state s
  | .freeReport c => Sys2Proof.Machine.execFreeReport c s
  | .lineLeaseEnded l => Sys2Proof.Machine.execLineLeaseEnded l s
  | .noticeCopyTaken sender p n => Sys2Proof.Machine.execNoticeCopyTaken sender p n s
  | .restatedReservationAnswer c taken => Sys2Proof.Machine.execRestatedReservationAnswer c taken s
  | .withholdAnswer c left taken => Sys2Proof.Machine.execWithholdAnswer c left taken s

end Sys2Proof.Machine
end

