-- ==== Sys2Proof/Machine/Idle.lean ====
section
/-! DEFINITION. What the part does by itself when no command waits (log entry 7). -/

namespace Sys2Proof.Machine

/-- The command that the part takes by itself: the oldest message in flight, else the first expiry that is due. -/
def State.ownCommand (s : State) : Option Instr :=
  match s.inFlight with
  | m :: _ => some m
  | [] => s.due

/-- The step on an empty queue (DESIGN CHOICE, log entry 7): nothing while reset is held; otherwise the part takes the
command that is its own next, and where there is none a microsecond passes. -/
def idle (s : State) : Host.Outcome State Fault Refusal :=
  if s.inReset then .next s
  else match s.ownCommand with
    | some i => exec i s
    | none => .next s.tick

end Sys2Proof.Machine
end

