-- ==== Sys2Proof/Safety.lean ====
section
/-! DEFINITION. The terms in which statements about the SF1203 are made: when a Port Unit takes a request and the Lease
Manager a claim, what a channel's leaving its state does to the rest of the part, and the invariants that every step keeps. -/

namespace Sys2Proof.Safety

open Sys2Proof.Machine

/-! ### When a request is taken, and the state its owner finds -/

/-- The Port Unit takes the window: reset is not held, the window did not begin before its release, and no request is in
hand (R148, R150, R178). -/
def WindowTaken (s : State) (p : Port) : Prop :=
  s.inReset = false ∧ (s.port p).selHeld = false ∧ (s.port p).inHand = none

/-- A request that its Port Unit takes anew: the window is taken and the frame is no replay (R153). -/
def Fresh (s : State) (i : Instr) (r : Req) : Prop :=
  ∃ code payload, encodeRequest i = some (r, code, payload) ∧ WindowTaken s r.port
    ∧ (s.port r.port).replayOf r.tag (crc8 (covered r.tag code payload)) = none

/-- A fresh request from a LIVE port: it is passed to its owner (R154). -/
def Passed (s : State) (i : Instr) (r : Req) : Prop := Fresh s i r ∧ (s.port r.port).state = .LIVE

/-- The record of a port whose request `i` has been taken: the window has clocked out and emptied the holder, the
supervision timer has restarted, the request is in hand. -/
def takenPort (x : PortRec) (i : Instr) : PortRec :=
  match encodeRequest i with
  | none => x
  | some (r, code, payload) =>
    { x.restart with
      clockedOut := shown x.holder ((requestFrame r.tag code payload ++ r.trail).length)
      holder := none
      inHand := some ⟨r.tag, crc8 (covered r.tag code payload)⟩ }

/-- The state in which the owner of a passed request judges it: only its port's record has changed. -/
def taken (s : State) (i : Instr) (r : Req) : State := s.updPort r.port fun x => takenPort x i

/-- The record of a port whose request has been answered: holder and replay memory hold the response (R155). -/
def answeredPort (x : PortRec) (i : Instr) (st : Status) (payload : List Byte) : PortRec :=
  match encodeRequest i with
  | none => x
  | some (r, code, args) => { x with
      holder := some (responseFrame r.tag st payload)
      replay := some ⟨r.tag, crc8 (covered r.tag code args), responseFrame r.tag st payload⟩
      inHand := none }

/-- The state after a request that the Port Unit itself answers. -/
def answered (s : State) (i : Instr) (r : Req) (st : Status) (payload : List Byte) : State :=
  s.updPort r.port fun x => answeredPort (takenPort x i) i st payload

/-- It is the message's turn: no earlier message of its stream is in flight (R29, R46, R77, R145, R169), and before an abort no service
event for the trunk of its run (R87). -/
def InTurn (s : State) (m : Instr) : Prop := s.outOfTurn m = false

/-- One message is taken before another that was sent later: the two are of one stream (R29, R46, R77, R145, R154, R156, R169), or the
first is a service event and the second the abort of a channel whose run stands on that trunk (R87; log entry 3). -/
def TakenBefore (s : State) (x m : Instr) : Prop :=
  (stream m ≠ none ∧ stream x = stream m)
    ∨ ∃ t c, x = .serviceEvent t ∧ m = .abort c
      ∧ ((∃ r, s.run t = some r ∧ r.channel = c) ∨ (s.chan c).trunk = some t)

/-- A claim or request of the Lease Manager concerns a channel: it names it, or is a session claim of the port that holds it. -/
def Concerns (s : State) (i : Instr) (c : Channel) : Prop :=
  leaseChannel i = some c ∨ ∃ p, sessionPort i = some p ∧ s.holderPort c = some p

/-- The Lease Manager takes the claim or request at once: nothing concerning it is held back or awaits an answer (R29, R37,
R50), and no taken completion answer for a channel that it concerns is on its way (log entry 5). -/
def TakenAtOnce (s : State) (i : Instr) : Prop :=
  s.leaseBlocked i = false ∧ ∀ c, Concerns s i c → .completionAnswer c true ∉ s.inFlight

/-- The messages are taken one after the other, each in its turn, from `s` to `t`. -/
def TakenInTurn : List Instr → State → State → Prop
  | [], s, t => t = s
  | m :: rest, s, t => InTurn s m ∧ ∃ u, exec m s = .next u ∧ TakenInTurn rest u t

/-- Of the messages of a list, oldest first, those that the Lease Manager waits for before it takes the claim or request: the taken
completion answers for the channels that it concerns (R88, R169; log entry 5), and what is taken before one of these (R77, R87). -/
def TakenFirst (s : State) (i : Instr) : List Instr → List Instr → Prop
  | [], first => first = []
  | m :: rest, first => ∃ later, TakenFirst s i rest later ∧
    let waitedFor : Prop :=
      (∃ c, m = .completionAnswer c true ∧ Concerns s i c) ∨ ∃ x ∈ later, TakenBefore s m x
    (waitedFor ∧ first = m :: later) ∨ (¬ waitedFor ∧ first = later)

/-- Why the Lease Manager holds a claim or request back: a restated reservation of a channel that it names, or that the port of a
session claim holds, awaits its answer (R37); something that its port or the Line Unit sent before it is held back (R29, R46); it is a
RESTATE and an admission of the channel is in flight (R37); it is an inhibit for an IDLE or SHED channel, an ENERGIZE for which is in
hand (R50). -/
def HeldBackBecause (s : State) (i : Instr) : Prop :=
  (∃ c, (s.chan c).restating ≠ none ∧ Concerns s i c)
    ∨ (∃ p, sessionPort i = some p ∧ ∃ j ∈ s.heldBack, requestPort j = some p ∨ sessionPort j = some p)
    ∨ (∃ c, lineChannel i = some c ∧ ∃ j ∈ s.heldBack, lineChannel j = some c)
    ∨ (∃ (r : Req) (c : Channel) (cur : BitVec 16), i = .restate r (BitVec.ofNat 8 c.val) cur ∧ (s.inHand c ≠ none
      ∨ ∃ (t : Trunk) (k : PassClaim), (s.pass t).claim = some k ∧ k.channel = c ∧ k.stage ≠ .settled))
    ∨ ∃ l c, i = .inhibitClaim l c ∧ s.inHand c ≠ none ∧ ((s.chan c).state = .IDLE ∨ (s.chan c).state = .SHED)

/-- A claim of another block reaches, in its turn, a Lease Manager that takes it at once. -/
def ClaimTaken (s : State) (i : Instr) : Prop := s.inReset = false ∧ InTurn s i ∧ TakenAtOnce s i

/-- The Admission Unit and the Lease Manager hold nothing back. -/
def NothingHeld (s : State) : Prop := s.heldBack = [] ∧ s.waiting = []

/-- No session report of the port is on its way to the Configuration Unit. -/
def NoReports (s : State) (p : Port) : Prop := ∀ x, .sessionReport p x ∉ s.inFlight

/-- The message is a session report of the port. -/
def isReportOf (p : Port) : Instr → Bool
  | .sessionReport q _ => decide (q = p)
  | _ => false

/-- A request is judged behind the session reports of its port that are in flight: they are taken first, oldest first, and then the
request is what it is with none in flight (R145, R154; log entry 12). -/
def BehindReports (s : State) (i : Instr) (r : Req) : Prop :=
  ∃ v, TakenInTurn (s.inFlight.filter (isReportOf r.port)) s v ∧ NoReports v r.port ∧ Passed v i r ∧ exec i s = exec i v

/-- The select window that a command is: its port and the bytes clocked in. -/
def windowOf : Instr → Option (Port × List Byte)
  | .idleWindow p b | .turnaroundWindow p b | .badFrame p b | .replay p b | .unknownCodeFrame p b => some (p, b)
  | i => (encodeRequest i).map fun x => (x.1.port, requestFrame x.1.tag x.2.1 x.2.2 ++ x.1.trail)

/-- The commands that act while reset is held, the windows apart: the resets, their release, a level at an input pin. -/
def actsInReset : Instr → Bool
  | .powerOnReset | .nrstReset | .resetRelease _ | .rawLevelChange _ _ => true
  | _ => false

/-- A Lease Manager request that checks phase and channel (R30): its frame's fields and its channel byte. -/
def leaseRequestOf : Instr → Option (Req × Byte)
  | .claim r ch .. | .release r ch | .adopt r ch | .deEnergize r ch | .clearFault r ch | .restate r ch _ => some (r, ch)
  | _ => none

/-- Every record but those of the trunks is at its reset value; what stands at the pins stays (R2, Tables 2-2, 8-5, 9-2). -/
def ResetButTrunks (s t : State) : Prop :=
  t.inReset = true ∧ t.inFlight = [] ∧ t.heldBack = [] ∧ t.waiting = [] ∧ t.arrivals = 0#32 ∧ t.admissions = 0#32
    ∧ t.config = ConfigRec.reset ∧ t.sense = Sense.reset s.sense.isPin s.sense.voPin s.sense.vfPin
    ∧ (∀ c, t.chan c = ChannelRec.reset ∧ t.acct c = Account.reset ∧ t.driver c = ⟨none, false⟩ ∧ t.inHand c = none)
    ∧ (∀ k, t.queue k = [] ∧ t.pass k = ⟨none, false⟩ ∧ t.run k = none)
    ∧ (∀ l, t.line l = LineRec.reset (s.line l).raw)
    ∧ ∀ p, t.port p = PortRec.reset ∧ t.viewOf p = ⟨.DOWN, 0#16⟩

/-! ### What leaving a state does -/

/-- The reservation of a channel stands on the trunk: it is charged against it, or it is 0 and the trunk is the channel's. -/
def ChargedOn (s : State) (c : Channel) (t : Trunk) : Prop :=
  (s.acct c).charged = some t
    ∨ (s.acct c).charged = none ∧ (s.acct c).reservation = 0 ∧ (s.chan c).trunk = some t

/-- The service events of the return of a channel's reservation: one for the fall of the reserved sum, one more when the
slot is emptied (R18, R19); none for a reservation of 0. -/
def returnEvents (s : State) (c : Channel) : List Instr :=
  match (s.acct c).charged with
  | none => []
  | some t => if (s.trunk t).slot = some c then [.serviceEvent t, .serviceEvent t] else [.serviceEvent t]

/-- The trunk record after the return of channel `c`'s reservation, charged against it (R15, R19). -/
def returnedFrom (s : State) (c : Channel) (r : TrunkRec) : TrunkRec :=
  { r with
    reserved := r.reserved - (s.acct c).reservation
    slot := if r.slot = some c then none else r.slot }

/-- The trunk records after the return of a channel's reservation. -/
def returnedTrunks (s : State) (c : Channel) : Vector TrunkRec 3 :=
  match (s.acct c).charged with
  | none => s.trunks
  | some t => updAt s.trunks t (returnedFrom s c)

/-- The accounts after the return of a channel's reservation: reservation, mark and run count are cleared. -/
def returnedAccounts (s : State) (c : Channel) : Vector Account 12 :=
  match (s.acct c).charged with
  | none => s.accounts
  | some _ => updAt s.accounts c fun _ => Account.reset

/-- The state in which the reservation of a channel has been returned (R15). -/
def returned (s : State) (c : Channel) : State :=
  { s with
    trunks := returnedTrunks s c, accounts := returnedAccounts s c, inFlight := s.inFlight ++ returnEvents s c }

/-- The queues when the entry of a channel, and no other, has left the queue of its trunk (R68). -/
def queuesWithout (s : State) (c : Channel) : Vector (List Entry) 3 :=
  match (s.chan c).trunk with
  | some t => updAt s.queues t fun q => q.filter fun e => decide (e.channel ≠ c)
  | none => s.queues

/-- The service event of a removed head (R68). -/
def headEvents (s : State) (c : Channel) : List Instr :=
  match (s.chan c).trunk with
  | some t => if s.isHead t c then [.serviceEvent t] else []
  | none => []

/-- The messages that a channel's leaving of its state sends: the service events, and from PROBE and FILL the abort of the run
(R48, R18, R68). -/
def departure (s : State) (c : Channel) (abort : Bool) : List Instr :=
  match (s.chan c).state with
  | .QUEUED => headEvents s c
  | .PROBE | .FILL => returnEvents s c ++ (if abort then [.abort c] else [])
  | .ON => returnEvents s c
  | _ => []

/-- The state in which channel `c` has left its state for the record `new`: from PROBE, FILL and ON its reservation is
returned, from QUEUED its entry has left, a pulse in progress has ended, and the messages of `departure` are sent.
Everything else is as it was. -/
def goneTo (s : State) (c : Channel) (new : ChannelRec) (abort : Bool) : State :=
  { s with
    channels := updAt s.channels c fun _ => new
    drivers := updAt s.drivers c fun d => { d with pulse := none }
    trunks := if isDriven (s.chan c).state then returnedTrunks s c else s.trunks
    accounts := if isDriven (s.chan c).state then returnedAccounts s c else s.accounts
    queues := if (s.chan c).state = .QUEUED then queuesWithout s c else s.queues
    inFlight := s.inFlight ++ departure s c abort }

/-- The record of a channel that has gone to an undriven state: intent only in INHIBITED; stamp, timer and causes absent
(R26, R32, R44, R49). -/
def undriven (r : ChannelRec) (st : ChanState) : ChannelRec :=
  { r with state := st, intent := decide (st = .INHIBITED), stamp := none, onStable := none, faultCause := none,
           shedCause := none }

/-- The record of a channel whose lease has ended (R32). -/
def freed (r : ChannelRec) : ChannelRec := { undriven r .FREE with lease := none }

/-- The reports of the end of a lease: a free report unless the channel is locked out; to the Line Unit that its line's
lease has ended, unless by the line's own release (R32). -/
def endReports (s : State) (c : Channel) (locked ownRelease : Bool) : List Instr :=
  (if locked then [] else [.freeReport c])
    ++ match s.holder c with
      | some (.line l) => if ownRelease then [] else [.lineLeaseEnded l]
      | _ => []

/-- The state in which the lease of channel `c` has ended (R32). -/
def leaseEnded (s : State) (c : Channel) (ownRelease : Bool) : State :=
  let u := goneTo s c (freed (s.chan c)) true
  u.setInFlight (u.inFlight ++ endReports s c (s.chan c).lockedOut ownRelease)

/-- The state in which a fault of channel `c` has been taken (R43): FAULTED at the first and second, FREE and locked out at
the third. -/
def faulted (s : State) (c : Channel) (cause : FaultCause) (abort : Bool) : State :=
  let r := s.chan c
  let n := r.faultCount + 1
  if n < Config.lockoutFaults then
    (goneTo s c { undriven r .FAULTED with faultCause := some cause, faultCount := n } abort).postHolder .leaseManager c
      ⟨.FAULT, .channel c, some (.fault cause), some (.count n)⟩
  else
    let u := goneTo s c { freed r with faultCount := Config.lockoutFaults, lockedOut := true } abort
    let told := u.setInFlight (u.inFlight ++ endReports s c true false)
    match s.holderPort c with
    | some p =>
      told.post .leaseManager p ⟨.LOCKOUT, .channel c, some (.fault cause), some (.count Config.lockoutFaults)⟩
    | none => told

/-! ### The entry into a trunk state -/

/-- The driven channels of a trunk, in index order (R94, R100). -/
def drivenChannels (s : State) (t : Trunk) : List Channel :=
  channelsWhere fun c => decide ((s.chan c).trunk = some t) && isDriven (s.chan c).state

/-- The record of a trunk, `r` before, at its entry into another state. The shed bookkeeping is absent, and a shed in hand is of
an episode past (R97); at an entry into SHEDDING the last-shed heat and the 20 ms timer stand, and one shed is made, which waits
while a shed is in hand (R93, R95, R96); at an entry into TRIPPED the latch is set, the trip heat recorded, and the driven
channels are awaited (R100, R102). -/
def enteredTrunk (s : State) (t : Trunk) (r : TrunkRec) (new : TrunkState) : TrunkRec :=
  let left : TrunkRec := { r with
    state := some new, lastShed := none, shedTimer := none, owed := []
    shedInHand := r.shedInHand.map fun x => { x with current := false } }
  match new with
  | .NORMAL | .WARM => left
  | .SHEDDING => { left with
      lastShed := some r.heat
      shedTimer := some 20000
      shedInHand := match r.shedInHand with
        | some x => some { x with current := false }
        | none => (s.candidate t).map fun c => ⟨c, r.heat, true⟩
      owed := if r.shedInHand = none then [] else [r.heat] }
  | .TRIPPED => { left with
      latch := true
      tripHeat := r.heat
      trips := if drivenChannels s t = [] then r.trips else r.trips ++ [⟨r.heat, drivenChannels s t⟩] }

/-- The ports that a trunk notice goes to: LIVE in the port view and holding, under their current epoch, a channel of the trunk
(R102, R105, R167). -/
def trunkPorts (s : State) (t : Trunk) : List Port :=
  (List.finRange 4).filter fun q => decide ((s.viewOf q).standing = .LIVE
    ∧ ∃ d, (s.chan d).trunk = some t ∧ s.holder d = some (.port q (s.viewOf q).epoch))

/-- The messages of the entry of a trunk, with record `r` before, into another state: into NORMAL a service event; into SHEDDING
the claim of the one shed, unless one is in hand; into TRIPPED a trip claim for each driven channel and the flush, and with no
driven channel the TRIPPED notices at once (R12, R93, R95, R100, R102). The trip claims stand in channel index order, the notices in
port order: the model's choice (log entry 30). -/
def entryMessages (s : State) (t : Trunk) (r : TrunkRec) (new : TrunkState) : List Instr :=
  match new with
  | .NORMAL => [.serviceEvent t]
  | .WARM => []
  | .SHEDDING => if r.shedInHand = none then (s.candidate t).toList.map fun c => .shedClaim t c else []
  | .TRIPPED => (drivenChannels s t).map (fun c => .tripClaim t c r.heat false) ++ [.queueFlush t r.heat]
      ++ if drivenChannels s t = [] then (trunkPorts s t).map fun q =>
        .noticeCopyTaken .budgetUnit q ⟨.TRIPPED, .trunk t, none, some (.heat r.heat)⟩ else []

/-- The drivers at the entry of a trunk into another state: the trip hold of TRIPPED ends the pulse of every channel whose profile
names the trunk (R116). -/
def enteredDrivers (s : State) (t : Trunk) (new : TrunkState) (c : Channel) : Driver :=
  if new = .TRIPPED ∧ (s.profile c).trunk = some t then { s.driver c with pulse := none } else s.driver c

/-! ### Leases that end -/

/-- A lapse claim of the port ends the lease of the channel: the port holds it, under DROP or under HAND with a successor that is not
LIVE (R40). -/
def lapseEnds (s : State) (p : Port) (c : Channel) : Bool :=
  match s.holder c, (s.chan c).lease.bind (·.orphan) with
  | some (.port _ _), some .KEEP => false
  | some (.port q _), some (.HAND x) => decide (q = p) && (decide (x = p) || decide ((s.viewOf x).standing ≠ .LIVE))
  | some (.port q _), _ => decide (q = p)
  | _, _ => false

/-- A CLOSE claim of the port ends the lease of the channel: the port holds it (R41). -/
def closeEnds (s : State) (p : Port) (c : Channel) : Bool := decide (s.holderPort c = some p)

/-- What the ends of the leases of the channels of a test have done, from `s` to `u`: their records are freed; the reservation of
each driven one is returned, the reserved sums fall by them and a slot that names one is emptied; the entry of each QUEUED one has
left its queue; runs are aborted, and free reports and service events sent (R15, R32, R48, R68). Nothing else of the trunks,
accounts, queues and drivers has changed. -/
def LeasesEnded (s u : State) (ends : Channel → Bool) : Prop :=
  (∀ c, ends c = true →
    u.chan c = freed (s.chan c) ∧ (u.driver c) = { s.driver c with pulse := none }
    ∧ ((s.chan c).lockedOut = false → .freeReport c ∈ u.inFlight)
    ∧ (isPulsing (s.chan c).state = true → .abort c ∈ u.inFlight)
    ∧ (∀ t, isDriven (s.chan c).state = true → (s.acct c).charged = some t →
      u.acct c = ⟨0, none, false, 0⟩ ∧ .serviceEvent t ∈ u.inFlight)
    ∧ (∀ t, (s.chan c).state = .QUEUED → (s.chan c).trunk = some t → (s.queue t).head?.map (·.channel) = some c →
      .serviceEvent t ∈ u.inFlight))
  ∧ (∀ c, ends c = false → u.acct c = s.acct c ∧ u.driver c = s.driver c)
  ∧ (∀ c, isDriven (s.chan c).state = false → u.acct c = s.acct c)
  ∧ ∀ t : Trunk,
    let returned (c : Channel) : Bool :=
      ends c && isDriven (s.chan c).state && decide ((s.acct c).charged = some t)
    u.trunk t = { s.trunk t with
        reserved := (s.trunk t).reserved
          - ((List.finRange 12).map fun c => if returned c then (s.acct c).reservation else 0).sum
        slot := if (s.trunk t).slot.any returned then none else (s.trunk t).slot }
    ∧ u.queue t = (s.queue t).filter fun e =>
        !(ends e.channel && decide ((s.chan e.channel).state = .QUEUED) && decide ((s.chan e.channel).trunk = some t))

/-! ### The records that a host reads (11.4), byte by byte -/

/-- One byte of a number. -/
def oneByte (n : Nat) : Byte := BitVec.ofNat 8 n
/-- A number in two bytes, the high one first (Chapter 11). -/
def twoBytes (n : Nat) : List Byte := [oneByte (n / 256), oneByte n]
/-- A number in three bytes, the high one first. -/
def threeBytes (n : Nat) : List Byte := [oneByte (n / 65536), oneByte (n / 256), oneByte n]
/-- A number in four bytes, the high one first. -/
def fourBytes (n : Nat) : List Byte := [oneByte (n / 16777216), oneByte (n / 65536), oneByte (n / 256), oneByte n]
/-- The weight of a flag in its byte. -/
def weigh (b : Bool) (n : Nat) : Nat := if b then n else 0
/-- A timer in ms left, 0xFFFF absent; how a part of a millisecond counts is the free value of log entry 6. -/
def leftBytes (timer : Option Nat) : List Byte :=
  match timer with
  | none => [0xFF#8, 0xFF#8]
  | some us => twoBytes (msLeft us)

/-- The lease fields of the channel status record, bytes 3 to 10 of Table 11-8, with the absence codes of R177. -/
def leaseFields (lease : Option Lease) : List Byte :=
  match lease with
  | none => [0xFF#8, 0#8, 0#8, 0x0C#8, 0#8, 0#8, 0xFF#8, 0#8]
  | some l =>
    (match l.holder with
      | .port p e => oneByte p.val :: twoBytes e.toNat
      | .line k => [oneByte (16 + k.val), 0#8, 0#8])
    ++ [oneByte (match l.orphan with
      | none => 12
      | some .KEEP => 0
      | some .DROP => 4
      | some (.HAND q) => 8 + q.val)]
    ++ twoBytes (l.declared / 100) ++ [oneByte l.priority, oneByte (l.wait / 10)]

/-- The channel status record (Table 11-8). -/
def channelFields (s : State) (c : Channel) : List Byte :=
  let r := s.chan c
  let a := s.acct c
  [oneByte c.val, oneByte (match r.trunk with | some t => t.val | none => 3), chanStateByte r.state]
    ++ leaseFields r.lease ++ twoBytes (a.reservation / 100)
    ++ [oneByte (64 * r.faultCount + a.runCount),
        oneByte (16 * (s.profile c).mask.toNat + weigh (s.profile c).precharge.isSome 8 + weigh r.lockedOut 4
          + weigh r.intent 2 + weigh a.overdrawn 1),
        match r.state, r.faultCause, r.shedCause with
        | .FAULTED, some .SHORT, _ => 3#8
        | .FAULTED, some .PRECHARGE_SHORT, _ => 4#8
        | .FAULTED, some .PRECHARGE_TIMEOUT, _ => 5#8
        | .SHED, _, some .SHED => 1#8
        | .SHED, _, some .TRIP => 2#8
        | _, _, _ => 0xFF#8]
    ++ (match r.stamp with | some x => fourBytes x.toNat | none => [0#8, 0#8, 0#8, 0#8])
    ++ leftBytes r.onStable ++ twoBytes s.sense.current[c]

/-- The trunk status record (Table 11-9). -/
def trunkFields (s : State) (t : Trunk) : List Byte :=
  let r := s.trunk t
  [oneByte t.val, oneByte (weigh r.latch 2 + weigh r.profile.isSome 1)]
    ++ (match r.profile with
      | none => [0#8, 0#8, 0#8, 0#8, 0#8, 0#8]
      | some p => twoBytes (p.rating / 100) ++ twoBytes p.tNom ++ [oneByte p.k, oneByte (p.margin / 10)])
    ++ threeBytes r.heat ++ [trunkStateByte r.state] ++ twoBytes (r.reserved / 100)
    ++ (match r.profile with
      | none => [0x80#8, 0#8]
      | some p => twoBytes (BitVec.ofInt 16 (((p.rating : Int) - (r.reserved : Int)) / 100)).toNat)
    ++ [match r.slot with | some c => oneByte c.val | none => 0xFF#8]
    ++ (match r.lastShed with | some h => threeBytes h | none => [0xFF#8, 0xFF#8, 0xFF#8])

/-- The port status record (Table 11-10). -/
def portFields (s : State) (p : Port) : List Byte :=
  let r := s.port p
  [oneByte p.val, portStateByte r.state] ++ twoBytes r.epoch.toNat
    ++ [match r.period with | some ms => oneByte (ms / 10) | none => 0#8] ++ leftBytes r.timer
    ++ [oneByte r.queue.length, oneByte r.lost, r.seq,
        oneByte (channelsWhere fun c => decide (s.holder c = some (.port p (s.viewOf p).epoch))).length]

/-- The block of a proposal, from byte 9 of the proposal record on (Table 11-5). -/
def blockFields : ProposalBody → List Byte
  | .trunk t p => oneByte t.val :: (twoBytes (p.rating / 100) ++ twoBytes p.tNom ++ [oneByte p.k, oneByte (p.margin / 10)])
  | .channel c p =>
    [oneByte c.val, oneByte (match p.trunk with | some t => t.val | none => 3), oneByte p.mask.toNat]
      ++ twoBytes (p.limit / 100) ++ match p.precharge with
        | none => [0#8]
        | some x => 1#8 :: (twoBytes (x.allowance / 100) ++ [oneByte (x.probePeriod / 500), oneByte x.probeOn,
            oneByte x.pulseLimit, oneByte x.target, oneByte (x.fillPeriod / 50), oneByte x.fillOn,
            oneByte (x.fillTimeout / 10000)])
  | .line l .NONE => [oneByte l.val, 0#8]
  | .line l (.ASSIST c mA prio) => [oneByte l.val, 1#8, oneByte c.val] ++ twoBytes (mA / 100) ++ [oneByte prio]
  | .line l (.VETO c) => [oneByte l.val, 2#8, oneByte c.val]
  | .lockout c => [oneByte c.val]

/-- The proposal record (Table 11-11). -/
def proposalFields (s : State) : List Byte :=
  let phase := weigh (decide (s.config.phase = .SERVICE)) 1
  match s.config.slot with
  | none => oneByte phase :: (twoBytes s.config.counter.toNat ++ [0#8, 0#8, 0#8, 0#8, 0xFF#8, 0xFF#8]
      ++ List.replicate 15 0#8)
  | some x =>
    let kind : Byte := match x.body with
      | .trunk _ _ => 0#8
      | .channel _ _ => 1#8
      | .line _ _ => 2#8
      | .lockout _ => 3#8
    let head (status parties : Nat) (timer : Option Nat) : List Byte :=
      oneByte (2 * status + phase) :: (twoBytes s.config.counter.toNat ++ twoBytes x.number.toNat
        ++ [oneByte parties, kind] ++ leftBytes timer)
    (match x.status with
      | .OPEN us => head 1 x.proposer.val (some us)
      | .APPLYING q => head 2 (64 + 16 * q.val + x.proposer.val) none)
    ++ blockFields x.body ++ List.replicate (15 - (blockFields x.body).length) 0#8

/-- The notice record (Table 11-12, with the codes of Table 11-7). -/
def noticeFields (q : QueuedNotice) : List Byte :=
  [q.seq, noticeKindByte q.notice.kind]
    ++ (match q.notice.subject with
      | .channel c => twoBytes c.val
      | .trunk t => twoBytes t.val
      | .proposal n => twoBytes n.toNat)
    ++ [match q.notice.cause with
      | none => 0xFF#8
      | some (.shed .SHED) => 1#8
      | some (.shed .TRIP) => 2#8
      | some (.fault .SHORT) => 3#8
      | some (.fault .PRECHARGE_SHORT) => 4#8
      | some (.fault .PRECHARGE_TIMEOUT) => 5#8
      | some (.withdraw .WITHDRAW) => 6#8
      | some (.withdraw .LAPSE) => 7#8
      | some (.withdraw .CLOSE) => 8#8
      | some (.kind .TRUNK_PROFILE) => 0#8
      | some (.kind .CHANNEL_PROFILE) => 1#8
      | some (.kind .LINE_BINDING) => 2#8
      | some (.kind .RELEASE_LOCKOUT) => 3#8
      | some (.status st) => statusCode st]
    ++ match q.notice.value with
      | none => [0xFF#8, 0xFF#8, 0xFF#8]
      | some (.heat n) => threeBytes n
      | some (.current n) => threeBytes n
      | some (.count n) => threeBytes n
      | some (.port p) => threeBytes p.val
      | some (.line l) => threeBytes (16 + l.val)
      | some (.state st) => threeBytes (chanStateByte st).toNat

/-! ### The owners' windows -/

/-- The command is a select window whose bytes carry TRUNK CLEAR of the trunk (R104, R106). -/
def carriesTrunkClear (i : Instr) (t : Trunk) : Prop :=
  ∃ (p : Port) (bytes : List Byte) (tag code : Byte) (payload : List Byte) (crc : Byte) (r : Req),
    windowOf i = some (p, bytes) ∧ checkFrame bytes = .request tag code payload crc
      ∧ decodeRequest r code payload = some (.trunkClear r (BitVec.ofNat 8 t.val))

/-! ### Runs and proposals -/

/-- The run record of trunk `t` is `r`, its channel is `c`, and no other trunk's run record names that channel. -/
def RunOf (s : State) (t : Trunk) (c : Channel) (r : Run) : Prop :=
  s.run t = some r ∧ r.channel = c ∧ ∀ u, (s.run u).map (·.channel) = some c → u = t

/-- Another line than `l` withholds the channel: it is VETO, bound to it, and its level is low or undetermined (R126). -/
def VetoedByAnother (s : State) (l : Line) (c : Channel) : Prop :=
  ∃ k, k ≠ l ∧ (s.line k).binding = .VETO c ∧ (s.line k).level ≠ some true

/-- A notice to every port other than the proposer that is LIVE in the Configuration Unit's port view, in port order. -/
def toOthers (s : State) (proposer : Port) (n : Notice) : State :=
  s.setInFlight (s.inFlight ++ ((List.finRange 4).filter fun q =>
    decide (q ≠ proposer ∧ s.config.view[q] = .LIVE)).map fun q => .noticeCopyTaken .configurationUnit q n)

/-- A notice to the proposer, unless it is DOWN in the Configuration Unit's port view (R145). -/
def toProposer (s : State) (proposer : Port) (n : Notice) : State :=
  if s.config.view[proposer] = .DOWN then s else s.send (.noticeCopyTaken .configurationUnit proposer n)

/-- The proposal is a channel profile that names an unconfigured trunk: the Configuration Unit's own condition (Table 8-7). -/
def OwnConditionFails (s : State) (body : ProposalBody) : Prop :=
  ∃ c new t, body = .channel c new ∧ new.trunk = some t ∧ (s.trunk t).profile = none

/-! ### Time (log entry 7) -/

/-- One microsecond less of a timer that runs. -/
def lessOne (timer : Option Nat) : Option Nat := timer.map fun us => us - 1

/-- The record of a run one microsecond later: its period timer, and in FILL its fill timer. -/
def laterRun (r : Run) : Run :=
  { r with
    period := lessOne r.period
    phase := match r.phase with
      | .PROBE n => .PROBE n
      | .FILL timer => .FILL (lessOne timer) }

/-- The proposal one microsecond later: the window timer of an OPEN one. -/
def laterProposal (x : Proposal) : Proposal :=
  { x with status := match x.status with
      | .OPEN us => .OPEN (us - 1)
      | .APPLYING q => .APPLYING q }

/-- `t` is `s` one microsecond later: every running timer of the part has one microsecond less to run, and nothing else has
changed. -/
def OneMicrosecondLater (s t : State) : Prop :=
  t = { s with
      trunks := t.trunks, channels := t.channels, queues := t.queues, runs := t.runs, drivers := t.drivers, sense := t.sense
      lines := t.lines, ports := t.ports, config := t.config }
    ∧ (∀ k, t.trunk k = { s.trunk k with interval := (s.trunk k).interval - 1, shedTimer := lessOne (s.trunk k).shedTimer })
    ∧ (∀ c, t.chan c = { s.chan c with onStable := lessOne (s.chan c).onStable })
    ∧ (∀ k, t.queue k = (s.queue k).map fun e => { e with timer := lessOne e.timer })
    ∧ (∀ k, t.run k = (s.run k).map laterRun)
    ∧ (∀ c, t.driver c = { s.driver c with pulse := lessOne (s.driver c).pulse })
    ∧ t.sense = { s.sense with
      currentTimer := s.sense.currentTimer - 1, voltageTimer := s.sense.voltageTimer - 1 }
    ∧ (∀ l, t.line l = { s.line l with debounce := lessOne (s.line l).debounce })
    ∧ (∀ p, t.port p = { s.port p with timer := lessOne (s.port p).timer })
    ∧ t.config = { s.config with slot := s.config.slot.map laterProposal }

/-- The command is due: its timer has run out, or it is the end of a pulse that is over with its sample still to take (R110). The
samples are of what the analog inputs last gave (log entry 7). -/
def DueWhen (s : State) : Instr → Prop
  | .pulseEnd c uv => uv = s.sense.voPin[c]
    ∧ ((s.driver c).pulse = some 0 ∨ ((s.driver c).pulse = none ∧ s.sense.deferred[c] = true))
  | .sampleInstant vo vf => s.sense.voltageTimer = 0 ∧ vo = s.sense.voPin ∧ vf = s.sense.vfPin
  | .currentSample parts => s.sense.currentTimer = 0 ∧ parts = s.sense.isPin.map fun x => [x]
  | .budgetIntervalExpiry t => (s.trunk t).interval = 0
  | .shedIntervalExpiry t => (s.trunk t).shedTimer = some 0
  | .probePeriodExpiry t => ∃ r n, s.run t = some r ∧ r.phase = .PROBE n ∧ r.period = some 0
  | .fillPeriodExpiry t => ∃ r timer, s.run t = some r ∧ r.phase = .FILL timer ∧ r.period = some 0
  | .fillTimerExpiry t => ∃ r, s.run t = some r ∧ r.phase = .FILL (some 0)
  | .onStableExpiry c => (s.chan c).onStable = some 0
  | .debounceExpiry l => (s.line l).debounce = some 0
  | .waitLimitExpiry c => ∃ t, ∃ e ∈ s.queue t, e.channel = c ∧ e.timer = some 0
  | .windowTimerExpiry => ∃ x, s.config.slot = some x ∧ x.status = .OPEN 0
  | .supervisionExpiry p => (s.port p).timer = some 0
  | _ => False

/-- The place of a command among those due at once, in the order of log entry 7. -/
def dueRank : Instr → Nat
  | .pulseEnd c _ => c.val
  | .sampleInstant _ _ => 12
  | .currentSample _ => 13
  | .budgetIntervalExpiry t => 14 + t.val
  | .shedIntervalExpiry t => 17 + t.val
  | .probePeriodExpiry t => 20 + t.val
  | .fillPeriodExpiry t => 23 + t.val
  | .fillTimerExpiry t => 26 + t.val
  | .onStableExpiry c => 29 + c.val
  | .debounceExpiry l => 41 + l.val
  | .waitLimitExpiry _ => 45
  | .windowTimerExpiry => 46
  | .supervisionExpiry p => 47 + p.val
  | _ => 51

/-! ### Invariants -/

/-- A trunk record (Table 1-1, R8 to R11): H within range; state, last-shed heat and shed timer present as the table
says; in a configured trunk the latch is set exactly while the state is TRIPPED. -/
def trunkOk (r : TrunkRec) : Prop :=
  r.heat ≤ Config.ceiling ∧ r.state.isSome = r.profile.isSome
    ∧ (r.profile.isSome = true → (r.latch = true ↔ r.state = some .TRIPPED))
    ∧ (r.lastShed.isSome = true ↔ r.state = some .SHEDDING) ∧ (r.shedTimer.isSome = true ↔ r.state = some .SHEDDING)

/-- Every trunk record is in order. -/
def TrunksOk (s : State) : Prop := ∀ t, trunkOk (s.trunk t)

/-- The reservations charged against a trunk, summed over the channels. -/
def booked (s : State) (t : Trunk) : Nat :=
  ((List.finRange 12).map fun c => if (s.acct c).charged = some t then (s.acct c).reservation else 0).sum

/-- The reservation account (R13): each reserved sum is the sum of the reservations charged against the trunk, and a
channel is charged against no trunk exactly while its reservation is 0. -/
def AccountsOk (s : State) : Prop :=
  (∀ t, (s.trunk t).reserved = booked s t) ∧ ∀ c, (s.acct c).charged = none ↔ (s.acct c).reservation = 0

/-- A channel record (Table 2-1, R26, R43, R62): lease, stamp, causes and timer present exactly where the table says, intent
only in INHIBITED, the fault count at most 3, and 3 exactly with the locked-out mark, which only a FREE channel carries. -/
def chanOk (r : ChannelRec) : Prop :=
  (r.lease = none ↔ r.state = .FREE) ∧ (r.intent = true ↔ r.state = .INHIBITED)
    ∧ (r.stamp.isSome = true ↔ isDriven r.state = true) ∧ (r.faultCause.isSome = true ↔ r.state = .FAULTED)
    ∧ (r.shedCause.isSome = true ↔ r.state = .SHED) ∧ (r.onStable.isSome = true → r.state = .ON)
    ∧ r.faultCount ≤ Config.lockoutFaults ∧ (r.lockedOut = true ↔ r.faultCount = Config.lockoutFaults)
    ∧ (r.lockedOut = true → r.state = .FREE)

/-- Every channel record is in order, and a pulse is in progress only in PROBE and FILL with no short hold (Table 6-2). -/
def ChannelsOk (s : State) : Prop :=
  ∀ c, chanOk (s.chan c)
    ∧ ((s.driver c).pulse.isSome = true → isPulsing (s.chan c).state = true ∧ (s.driver c).shortHold = false)

/-- The admission queues (R52, R54): each stands in order of priority, no channel stands twice in one, and a channel stands
in the queue of a trunk exactly when it is QUEUED and on that trunk. -/
def QueuesOk (s : State) : Prop :=
  ∀ t, (s.queue t).Pairwise (fun a b => b.priority ≤ a.priority) ∧ ((s.queue t).map (·.channel)).Nodup
    ∧ ∀ c, c ∈ (s.queue t).map (·.channel) ↔ ((s.chan c).state = .QUEUED ∧ (s.chan c).trunk = some t)

/-- A port record (Table 9-1, R159, R169): at most 16 notices, a lost count of at most 255, an empty queue and no period while
DOWN, a supervision timer only while LIVE. -/
def portOk (r : PortRec) : Prop :=
  r.queue.length ≤ Config.noticeCapacity ∧ r.lost ≤ 255 ∧ (r.state = .DOWN → r.queue = [] ∧ r.lost = 0)
    ∧ (r.timer.isSome = true → r.state = .LIVE) ∧ (r.period = none ↔ r.state = .DOWN)

/-- Every port record is in order. -/
def PortsOk (s : State) : Prop := ∀ p, portOk (s.port p)

/-- A line record (Table 7-1, R119): only an ASSIST line is overruled, holds a lease or has a claim in hand; the debounce
timer runs only while the raw level differs from the debounced one. -/
def lineOk (r : LineRec) : Prop :=
  ((∀ c cur prio, r.binding ≠ .ASSIST c cur prio) → r.overruled = false ∧ r.leaseHeld = false ∧ r.claim = none)
    ∧ (r.debounce.isSome = true → r.level ≠ some r.raw)

/-- Every line record is in order, and its level is undetermined while reset is held. -/
def LinesOk (s : State) : Prop := ∀ l, lineOk (s.line l) ∧ (s.inReset = true → (s.line l).level = none)

/-- The proposal slot (R137, R138): the counter and the number of a proposal are never 0. -/
def SlotOk (s : State) : Prop := s.config.counter ≠ 0#16 ∧ ∀ x, s.config.slot = some x → x.number ≠ 0#16

end Sys2Proof.Safety
end

