-- ==== Sys2Proof/Certificates/Slice0/Obligations.lean ====
section
/-! DEFINITION. The statements about the SF1203 for the provers, each with the place of the spec it formalises. -/

section Obligations

open Sys2Proof Sys2Proof.Machine Sys2Proof.Safety

/-! ### The step, the resets -/

/-- Step of a state with command `c` at the front of its queue is `exec` of `c` on that state with the queue's rest. -/
def Obligations.StepTakesFrontCommand : Prop :=
  ∀ (c : Instr) (rest : List Instr) (s : State), s.pending = c :: rest → step s = exec c { s with pending := rest }

/-- The model's own choice (log entry 7): on an empty queue nothing happens while reset is held; otherwise the part takes
the oldest message in flight, else the first expiry that is due, else one microsecond passes. An expiry is due when its timer has
run out, the end of a pulse also when a sample deferred to it is still to be taken, and a sampling instant when its period has
(`DueWhen`); of those due at once the first is taken in the order of log entry 7 (`dueRank`), and none is due when no timer has run
out. In the microsecond that passes every running timer of the part has one microsecond less to run, and nothing else changes. -/
def Obligations.EmptyQueueStep : Prop :=
  ∀ s : State, s.pending = [] →
    (s.inReset = true → step s = .next s)
      ∧ (s.inReset = false → ∀ m rest, s.inFlight = m :: rest → step s = exec m s)
      ∧ (s.inReset = false → s.inFlight = [] → ∀ c, s.due = some c → step s = exec c s)
      ∧ (s.inReset = false → s.inFlight = [] → s.due = none → step s = .next s.tick)
      ∧ (s.due = none ↔ ∀ c, ¬ DueWhen s c)
      ∧ (∀ c, s.due = some c → DueWhen s c ∧ ∀ d, DueWhen s d → dueRank c ≤ dueRank d)
      ∧ OneMicrosecondLater s s.tick

/-- The model's own choice (log entries 1, 3 and 26): every command is taken in every state, so `exec` answers a next state, and the queue
of waiting commands is not its to change, also at a reset. A message waits while one that was sent earlier and is taken before it is
in flight: one of its stream, where the spec keeps the order (the session claims of a port R29, R154, R156; the claims of another
block to the Lease Manager R46; the Lease Manager's messages to the Staged Energize Unit R77; the session reports of a port R145, R156;
the copies of one block to one port R169), and before an abort a service event for the trunk of its run, which the queue receives
first (R87). -/
def Obligations.EveryCommandIsTaken : Prop :=
  (∀ (c : Instr) (s : State), ∃ t, exec c s = .next t ∧ t.pending = s.pending)
    ∧ (∀ (m : Instr) (s : State), s.inReset = false → ¬ InTurn s m →
      exec m s = .next (if m ∈ s.inFlight then s else s.send m))
    ∧ (∀ (m : Instr) (s : State), InTurn s m ↔
      ∀ before x after, s.inFlight = before ++ x :: after → m ∉ before → m ≠ x → ¬ TakenBefore s x m)
    ∧ ∀ (p : Port) (e : BitVec 16) (change : SessionChange) (b : Block) (n : Notice) (t : Trunk) (c : Channel) (l : Line)
      (found : Found) (x : BitVec 32) (k : Nat) (cause : FaultCause) (y : Bool),
      [Instr.openClaim p e, .lapseClaim p, .closeClaim p].map stream = List.replicate 3 (some (.portUnit p))
        ∧ [Instr.queueEntryClaim c found, .withholdClaim c found, .admitClaim t c found x k, .waitExpiryClaim c,
          .flushClaim c k].map stream = List.replicate 5 (some .admissionUnit)
        ∧ [Instr.advanceClaim c, .completionClaim c, .prechargeFailureClaim c cause].map stream
          = List.replicate 3 (some .stagedEnergizeUnit)
        ∧ [Instr.shedClaim t c, .tripClaim t c k y].map stream = List.replicate 2 (some .budgetUnit)
        ∧ [Instr.lineClaim l c k k, .lineRelease l c, .inhibitClaim l c, .resumeClaim l c].map stream
          = List.replicate 4 (some .lineUnit)
        ∧ [Instr.start c, .abort c, .advanceAnswer c y, .completionAnswer c y, .failureAnswer c y].map stream
          = List.replicate 5 (some .leaseManager)
        ∧ [Instr.shortDetectionTaken c, .sessionReport p change, .noticeCopyTaken b p n, .serviceEvent t].map stream
          = [some (.channelDriver c), some (.reports p), some (.copies b p), none]

/-- While reset is held, a select window clocks out 0x00 for each byte clocked in and does nothing else, and every other
command but the resets, the release of reset and a level change at a pin changes nothing (R2, R108, R118, R148, R178). That a message
or a request commanded then changes nothing is the model's choice (log entry 4). -/
def Obligations.HeldResetStopsThePart : Prop :=
  ∀ (c : Instr) (s : State), s.inReset = true → actsInReset c = false →
    exec c s = .next (match windowOf c with
      | some (p, bytes) => s.updPort p fun r => { r with clockedOut := List.replicate bytes.length 0x00#8 }
      | none => s)

/-- The two resets give every record its reset value, power-on with H = 393,216 hu and the trip latch clear, NRST with both
as they stood; the release starts the part: the debounce of each line runs for 2 ms, and a port whose select line is still
asserted waits for the window to end (Table 1-2, R2, R25, R53, R76, R108, R118, R119, R135, R148, R178, R179). The model's choices: what
stands at the analog and line pins stays (log entry 20), so does the queue of commands (log entry 26), the trip heat is 0 (log entry
31), and the debounce runs at the release on every line (log entry 23). -/
def Obligations.ResetsAndRelease : Prop :=
  (∀ s : State, ∃ t, exec .powerOnReset s = .next t ∧ t.pending = s.pending ∧ ResetButTrunks s t
      ∧ ∀ k, t.trunk k = { TrunkRec.reset with heat := 393216, latch := false })
    ∧ (∀ s : State, ∃ t, exec .nrstReset s = .next t ∧ t.pending = s.pending ∧ ResetButTrunks s t
      ∧ ∀ k, t.trunk k = { TrunkRec.reset with heat := (s.trunk k).heat, latch := (s.trunk k).latch })
    ∧ ∀ (s : State) (selected : List Port),
      (s.inReset = true → ∃ t, exec (.resetRelease selected) s = .next t
        ∧ t = { s with inReset := false, lines := t.lines, ports := t.ports }
        ∧ (∀ l, t.line l = { s.line l with debounce := some 2000 })
        ∧ ∀ p, t.port p = { s.port p with selHeld := decide (p ∈ selected) })
      ∧ (s.inReset = false → exec (.resetRelease selected) s = .next s)

/-! ### Select windows and frames (Chapters 9 and 11) -/

/-- The part of every window that does not depend on the bytes: one that began before the release of reset, or that begins
while a request is in hand, clocks out 0x00 and changes nothing else (R150, R178); an idle window of a port that takes
windows clocks out the response holder, or EMPTY, cut short or followed by 0x00, and empties it (R149, R151). -/
def Obligations.UntakenAndIdleWindows : Prop :=
  (∀ (c : Instr) (p : Port) (bytes : List Byte) (s : State), windowOf c = some (p, bytes) → s.inReset = false →
      ((s.port p).selHeld = true → exec c s = .next (s.updPort p fun r =>
          { r with selHeld := false, clockedOut := List.replicate bytes.length 0x00#8 }))
        ∧ ((s.port p).selHeld = false → (s.port p).inHand.isSome = true → exec c s = .next (s.updPort p fun r =>
          { r with clockedOut := List.replicate bytes.length 0x00#8 })))
    ∧ (∀ (p : Port) (bytes : List Byte) (s : State), bytes.head? ≠ some 0xA5#8 → WindowTaken s p →
      exec (.idleWindow p bytes) s = .next (s.updPort p fun r =>
        { r with clockedOut := shown r.holder bytes.length, holder := none }))
    ∧ ∀ (holder : Option (List Byte)) (n : Nat), (shown holder n).length = n
      ∧ ∀ k, k < n → (shown holder n)[k]? = some (((holder.getD [0x5A#8, 0x00#8, 0x03#8, 0x00#8, 0x14#8])[k]?).getD 0x00#8)

/-- A window with the sync byte 0xA5 whose frame is too short, has a length byte above 24 or a wrong CRC is answered
BAD_FRAME with the tag as received, 0x00 when there is none, and nothing else changes (R152); a frame with an unknown code,
or with a payload that its code does not call for, is taken and answered BAD_ARGUMENT (R154). -/
def Obligations.BadAndUnknownFrames : Prop :=
  (∀ (p : Port) (rest : List Byte) (s : State), WindowTaken s p →
      rest.length < 3 ∨ 24 < (rest.getD 2 0#8).toNat ∨ rest.length < (rest.getD 2 0#8).toNat + 4
        ∨ rest.getD ((rest.getD 2 0#8).toNat + 3) 0#8 ≠ crc8 (rest.take ((rest.getD 2 0#8).toNat + 3)) →
      exec (.badFrame p (0xA5#8 :: rest)) s = .next (s.updPort p fun r => { r with
        clockedOut := shown r.holder (rest.length + 1)
        holder := some (responseFrame (rest.headD 0x00#8) .BAD_FRAME []) }))
    ∧ ∀ (p : Port) (tag code : Byte) (payload trail : List Byte) (s : State),
      payload.length ≤ 24 → decodeRequest ⟨p, tag, trail⟩ code payload = none → WindowTaken s p →
      (s.port p).replayOf tag (crc8 (covered tag code payload)) = none →
      exec (.unknownCodeFrame p (requestFrame tag code payload ++ trail)) s = .next (s.updPort p fun r => { r.restart with
        clockedOut := shown r.holder (requestFrame tag code payload ++ trail).length
        holder := some (responseFrame tag .BAD_ARGUMENT [])
        replay := some ⟨tag, crc8 (covered tag code payload), responseFrame tag .BAD_ARGUMENT []⟩ })

/-- A frame whose tag and CRC are those of the replay memory is answered with the stored response and not executed, in every
port state (R153); a fresh request from a port that is not LIVE, other than OPEN and READ IDENT, is answered NOT_OPEN and
reaches no owner (R154). -/
def Obligations.ReplayAndNotOpen : Prop :=
  (∀ (p : Port) (tag code : Byte) (payload trail : List Byte) (stored : List Byte) (s : State),
      payload.length ≤ 24 → WindowTaken s p →
      (s.port p).replay = some ⟨tag, crc8 (covered tag code payload), stored⟩ →
      exec (.replay p (requestFrame tag code payload ++ trail)) s = .next (s.updPort p fun r => { r.restart with
        clockedOut := shown r.holder (requestFrame tag code payload ++ trail).length
        holder := some stored }))
    ∧ ∀ (i : Instr) (r : Req) (s : State), Fresh s i r → anyPortState i = false → (s.port r.port).state ≠ .LIVE →
      exec i s = .next (answered s i r .NOT_OPEN [])

/-- Decoding the frame of a request gives the request back, for every request and every value of its fields: the frame
passes the check of R152 with the tag, code, payload and CRC it was built from, and the payload decodes to the request. -/
def Obligations.DecodeOfEncode : Prop :=
  ∀ (i : Instr) (r : Req) (code : Byte) (payload : List Byte), encodeRequest i = some (r, code, payload) →
    decodeRequest r code payload = some i ∧ payload.length ≤ 24
      ∧ checkFrame (requestFrame r.tag code payload ++ r.trail)
        = .request r.tag code payload (crc8 (covered r.tag code payload))

/-- A request command is the select window of its frame: what it does is what the Port Unit does with those bytes. This rests on the
model's choices: the window rows that carry no request of their own are one window whose bytes alone decide what it is, here written
as the row UNKNOWN_CODE_FRAME (log entry 9), and the row of a request is the whole of its window, up to its owner's judgement
(log entry 10). -/
def Obligations.RequestIsItsWindow : Prop :=
  ∀ (i : Instr) (r : Req) (code : Byte) (payload : List Byte) (s : State), encodeRequest i = some (r, code, payload) →
    exec i s = exec (.unknownCodeFrame r.port (requestFrame r.tag code payload ++ r.trail)) s

/-- An owner's answer becomes the response frame (sync 0x5A, the request's tag, status, length, payload, CRC) in the holder
and in the replay memory, and no request is in hand after it (R155). The CRC starts at 0xFF, takes in each covered byte by exclusive
OR and eight shifts to the left, with 0x07 where the bit shifted out is 1 (R175). -/
def Obligations.ResponseReady : Prop :=
  (∀ (p : Port) (st : Status) (payload : List Byte) (q : RequestInHand) (s : State),
      s.inReset = false → (s.port p).inHand = some q →
      exec (.responseReady p st payload) s = .next ((s.arrive (.responseReady p st payload)).updPort p fun r => { r with
        holder := some (responseFrame q.tag st payload)
        replay := some ⟨q.tag, q.crc, responseFrame q.tag st payload⟩
        inHand := none }))
    ∧ ∀ (tag : Byte) (st : Status) (payload : List Byte),
      responseFrame tag st payload = [0x5A#8, tag, statusCode st, BitVec.ofNat 8 payload.length] ++ payload
        ++ [crc8 ([tag, statusCode st, BitVec.ofNat 8 payload.length] ++ payload)]
      ∧ ∀ bytes : List Byte, crc8 bytes = bytes.foldl (fun r b =>
        (List.range 8).foldl (fun x _ => if x.msb then (x <<< 1) ^^^ 0x07#8 else x <<< 1) (r ^^^ b)) 0xFF#8

/-! ### Sessions, port reads and notices (Chapters 9 and 10) -/

/-- OPEN from LIVE is answered STATE; from DOWN or LAPSED the epoch advances, the port is LIVE with its period and timer, the
replay memory is cleared, from DOWN the queue too, and the OPEN claim and report are sent. CLOSE from LIVE makes the port
DOWN, clears queue and replay memory and sends the CLOSE claim and report. The expiry of a running supervision timer makes a
LIVE port LAPSED and sends the lapse claim and report (R157, R159, R162, R172). In every port state ATTN is asserted while the queue
holds a notice or the lost count is above 0, and deasserted otherwise (R173). -/
def Obligations.Sessions : Prop :=
  (∀ (r : Req) (period : Byte) (s : State), Fresh s (.openPort r period) r →
      ((s.port r.port).state = .LIVE →
        exec (.openPort r period) s = .next (answered s (.openPort r period) r .STATE (be16 (s.port r.port).epoch)))
      ∧ ((s.port r.port).state ≠ .LIVE →
        exec (.openPort r period) s = .next ((((taken s (.openPort r period) r).updPort r.port fun x => { x with
            state := .LIVE
            epoch := x.epoch + 1
            period := some (10 * period.toNat)
            timer := if period = 0#8 then none else some (10000 * period.toNat)
            replay := none
            queue := if x.state = .DOWN then [] else x.queue
            lost := if x.state = .DOWN then 0 else x.lost }).send
          (.openClaim r.port ((s.port r.port).epoch + 1))).send (.sessionReport r.port .OPEN))))
    ∧ (∀ (r : Req) (s : State), Passed s (.closePort r) r →
      exec (.closePort r) s = .next ((((taken s (.closePort r) r).updPort r.port fun x => { x with
          state := .DOWN, period := none, timer := none, queue := [], lost := 0, replay := none }).send
        (.closeClaim r.port)).send (.sessionReport r.port .CLOSE)))
    ∧ ∀ (p : Port) (s : State), s.inReset = false →
      ((s.port p).state = .LIVE → (s.port p).timer.isSome = true →
        exec (.supervisionExpiry p) s = .next (((s.updPort p fun x => { x with state := .LAPSED, timer := none }).send
          (.lapseClaim p)).send (.sessionReport p .LAPSE)))
      ∧ ((s.port p).state ≠ .LIVE ∨ (s.port p).timer = none → exec (.supervisionExpiry p) s = .next s)
      ∧ ((s.port p).attn = true ↔ (s.port p).queue ≠ [] ∨ 0 < (s.port p).lost)

/-- PING from a LIVE port is answered OK and restarts the supervision timer, from another port NOT_OPEN, and the port state
stays (R160); READ IDENT is answered in every port state with the part code 0x1203, the revision 0x01, the index of the port
and its state (R165). Nothing but the port's record changes. -/
def Obligations.PingAndReadIdent : Prop :=
  (∀ (r : Req) (s : State), Fresh s (.ping r) r →
      exec (.ping r) s = .next (answered s (.ping r) r (if (s.port r.port).state = .LIVE then .OK else .NOT_OPEN) []))
    ∧ (∀ (r : Req) (s : State), Fresh s (.readIdent r) r →
      exec (.readIdent r) s = .next (answered s (.readIdent r) r .OK
        [0x12#8, 0x03#8, 0x01#8, BitVec.ofNat 8 r.port.val, portStateByte (s.port r.port).state]))
    ∧ (∀ (i : Instr) (r : Req) (st : Status) (payload : List Byte) (s : State), i = .ping r ∨ i = .readIdent r →
      ((answered s i r st payload).port r.port).state = (s.port r.port).state
      ∧ ∀ ms, (s.port r.port).state = .LIVE → (s.port r.port).period = some ms → ms ≠ 0 →
        ((answered s i r st payload).port r.port).timer = some (ms * 1000))

/-- READ PORT, READ CHANNEL, READ TRUNK and READ PROPOSAL return the record of what they name and change nothing but the
sender's port record; an index out of range is answered BAD_ARGUMENT (R164, R38, R23, R146). READ PROPOSAL behind session reports of its
port in flight is answered once they are taken (R145, R154; log entry 12). The records and the notice record hold
the fields of Tables 11-8 to 11-12 at their offsets, with the codes of Table 11-7 and the absence codes of R177. The model's choices:
bits that the tables give no field read 0 (log entry 37), READ PORT of the sender's own port reads its timer after the restart (log
entry 36), and a part of a millisecond left counts either way (log entry 6). -/
def Obligations.StatusReads : Prop :=
  (∀ (r : Req) (b : Byte) (s : State), Passed s (.readPort r b) r →
      (∀ q : Port, b = BitVec.ofNat 8 q.val →
        exec (.readPort r b) s = .next (answered s (.readPort r b) r .OK ((taken s (.readPort r b) r).portRecord q)))
      ∧ (4 ≤ b.toNat → exec (.readPort r b) s = .next (answered s (.readPort r b) r .BAD_ARGUMENT [])))
    ∧ (∀ (r : Req) (b : Byte) (s : State), Passed s (.readChannel r b) r → TakenAtOnce s (.readChannel r b) →
      (∀ c : Channel, b = BitVec.ofNat 8 c.val →
        exec (.readChannel r b) s = .next ((taken s (.readChannel r b) r).respond r.port .OK (s.channelRecord c)))
      ∧ (12 ≤ b.toNat →
        exec (.readChannel r b) s = .next ((taken s (.readChannel r b) r).respond r.port .BAD_ARGUMENT [])))
    ∧ (∀ (r : Req) (b : Byte) (s : State), Passed s (.readTrunk r b) r →
      (∀ t : Trunk, b = BitVec.ofNat 8 t.val →
        exec (.readTrunk r b) s = .next ((taken s (.readTrunk r b) r).respond r.port .OK (s.trunkRecord t)))
      ∧ (3 ≤ b.toNat → exec (.readTrunk r b) s = .next ((taken s (.readTrunk r b) r).respond r.port .BAD_ARGUMENT [])))
    ∧ (∀ (r : Req) (s : State), Passed s (.readProposal r) r → NoReports s r.port →
      exec (.readProposal r) s = .next ((taken s (.readProposal r) r).respond r.port .OK s.proposalRecord))
    ∧ (∀ (r : Req) (s : State), Passed s (.readProposal r) r → BehindReports s (.readProposal r) r)
    ∧ (∀ (s : State) (c : Channel) (t : Trunk) (p : Port) (q : QueuedNotice),
      (s.channelRecord c = channelFields s c ∧ (s.channelRecord c).length = 24)
        ∧ (s.trunkRecord t = trunkFields s t ∧ (s.trunkRecord t).length = 20)
        ∧ (s.portRecord p = portFields s p ∧ (s.portRecord p).length = 11)
        ∧ (s.proposalRecord = proposalFields s ∧ s.proposalRecord.length = 24)
        ∧ noticeRecord q = noticeFields q ∧ (noticeRecord q).length = 8)
    ∧ (∀ us : Nat, us / 1000 ≤ msLeft us ∧ msLeft us ≤ (us + 999) / 1000)
    ∧ [ChanState.FREE, .IDLE, .QUEUED, .PROBE, .FILL, .ON, .INHIBITED, .SHED, .FAULTED].map chanStateByte
      = (List.range 9).map oneByte
    ∧ [some TrunkState.NORMAL, some .WARM, some .SHEDDING, some .TRIPPED, none].map trunkStateByte
      = [0#8, 1#8, 2#8, 3#8, 0xFF#8]
    ∧ [PortState.DOWN, .LIVE, .LAPSED].map portStateByte = [0#8, 1#8, 2#8]
    ∧ [NoticeKind.GRANTED, .ENERGIZED, .SHED, .TRIPPED, .CLEARED, .FAULT, .LOCKOUT, .OVERDRAW, .INHIBITED, .RESUMED,
        .WAIT_EXPIRED, .QUEUE_FLUSHED, .LEASE_HANDED, .LEASE_ADOPTED, .PROPOSAL, .APPLIED, .REFUSED, .WITHDRAWN,
        .EXPIRED].map noticeKindByte = (List.range 19).map (fun n => oneByte (n + 1))
    ∧ [Status.OK, .ACCEPTED, .NONE, .EMPTY].map statusCode = (List.range 4).map oneByte
    ∧ [Status.BAD_FRAME, .BAD_ARGUMENT, .NOT_OPEN, .WRONG_PHASE, .STATE, .NOT_PERMITTED, .HELD, .LOCKED_OUT, .NOT_LAPSED,
        .NO_HEADROOM, .FAULTED, .TRUNK_TRIPPED, .NOT_COOL, .INCOMPLETE, .SLOT_BUSY, .NO_PROPOSAL, .SELF_CONCUR].map statusCode
      = (List.range 17).map (fun n => oneByte (n + 16))

/-- READ NOTICE from a LIVE port removes and returns the oldest notice with the lost count as it stood and the number of
notices left, or answers NONE with the lost count; the lost count becomes 0 and the sequence number stays. A DOWN or LAPSED
port is answered NOT_OPEN and its queue stays (R170). -/
def Obligations.ReadNotice : Prop :=
  (∀ (r : Req) (s : State), Passed s (.readNotice r) r →
      (∀ q rest, (s.port r.port).queue = q :: rest →
        exec (.readNotice r) s = .next ((answered s (.readNotice r) r .OK
          (noticeRecord q ++ [BitVec.ofNat 8 (s.port r.port).lost, BitVec.ofNat 8 rest.length])).updPort r.port
            fun x => { x with queue := rest, lost := 0 }))
      ∧ ((s.port r.port).queue = [] →
        exec (.readNotice r) s = .next ((answered s (.readNotice r) r .NONE
          [BitVec.ofNat 8 (s.port r.port).lost]).updPort r.port fun x => { x with lost := 0 })))
    ∧ ∀ (r : Req) (s : State), Fresh s (.readNotice r) r → (s.port r.port).state ≠ .LIVE →
      exec (.readNotice r) s = .next (answered s (.readNotice r) r .NOT_OPEN [])

/-- A copy of a notice: at a DOWN port it is discarded; at a LIVE or LAPSED port with fewer than 16 notices it takes the present
sequence number and joins the tail; with 16 notices it takes the number and is discarded, and the lost count increases by 1,
staying at 255. The sequence number then increases by 1, from 255 to 0 (R168). A copy is taken when no earlier copy of its block to
the port is in flight (R169). -/
def Obligations.NoticeCopyTaken : Prop :=
  ∀ (b : Block) (p : Port) (n : Notice) (s : State), s.inReset = false → InTurn s (.noticeCopyTaken b p n) →
    exec (.noticeCopyTaken b p n) s = .next ((s.arrive (.noticeCopyTaken b p n)).updPort p fun r =>
      if r.state = .DOWN then r
      else if r.queue.length < 16 then { r with queue := r.queue ++ [⟨r.seq, n⟩], seq := r.seq + 1#8 }
      else { r with lost := if r.lost < 255 then r.lost + 1 else 255, seq := r.seq + 1#8 })

/-! ### Requests of the Lease Manager (2.4) -/

/-- The checks that Lease Manager requests share, in order: the phase SERVICE, else WRONG_PHASE; a channel index of 0 to 11, else
BAD_ARGUMENT; for RELEASE, DE-ENERGIZE, CLEAR FAULT and RESTATE with its argument in range, a held channel, else STATE, and a sender that is the holder under its
current epoch, else NOT_PERMITTED. A refused request changes no channel record (R30). -/
def Obligations.LeaseRequestRefusals : Prop :=
  ∀ (i : Instr) (r : Req) (ch : Byte) (s : State), leaseRequestOf i = some (r, ch) → Passed s i r → TakenAtOnce s i →
    (s.config.phase = .COMMISSION → exec i s = .next ((taken s i r).respond r.port .WRONG_PHASE []))
      ∧ (s.config.phase = .SERVICE → 12 ≤ ch.toNat → exec i s = .next ((taken s i r).respond r.port .BAD_ARGUMENT []))
      ∧ (s.config.phase = .SERVICE → i = .release r ch ∨ i = .deEnergize r ch ∨ i = .clearFault r ch
          ∨ (∃ cur, i = .restate r ch cur ∧ 1 ≤ cur.toNat ∧ cur.toNat ≤ 655) →
        ∀ c : Channel, ch = BitVec.ofNat 8 c.val →
          ((s.chan c).state = .FREE → exec i s = .next ((taken s i r).respond r.port .STATE []))
          ∧ ((s.chan c).state ≠ .FREE → s.holder c ≠ some (.port r.port (s.viewOf r.port).epoch) →
            exec i s = .next ((taken s i r).respond r.port .NOT_PERMITTED [])))

/-- CLAIM in SERVICE phase for a channel 0 to 11, its checks in the order of R31: an argument out of range, or HAND with a successor
that is the claimant or not in the access mask, gives BAD_ARGUMENT; trunk UNUSED or the claimant not in the mask NOT_PERMITTED;
the locked-out mark LOCKED_OUT; a state other than FREE HELD; otherwise the channel goes to IDLE with the claimant's lease, and
the answer carries the stamped epoch and the fault count. -/
def Obligations.ClaimRequest : Prop :=
  ∀ (r : Req) (c : Channel) (cur : BitVec 16) (prio policy succ wait : Byte) (s : State),
    let i := Instr.claim r (BitVec.ofNat 8 c.val) cur prio policy succ wait
    let terms (o : Orphan) : Prop := 1 ≤ cur.toNat ∧ cur.toNat ≤ 655 ∧ prio.toNat ≤ 7 ∧
      match o with
      | .KEEP => policy = 0#8
      | .DROP => policy = 1#8
      | .HAND q => policy = 2#8 ∧ succ = BitVec.ofNat 8 q.val ∧ q ≠ r.port ∧ s.permits c q = true
    Passed s i r → TakenAtOnce s i → s.config.phase = .SERVICE →
      ((∀ o, ¬ terms o) → exec i s = .next ((taken s i r).respond r.port .BAD_ARGUMENT []))
      ∧ ∀ o, terms o → exec i s = .next (
        if (s.chan c).trunk = none ∨ s.permits c r.port = false then (taken s i r).respond r.port .NOT_PERMITTED []
        else if (s.chan c).lockedOut = true then (taken s i r).respond r.port .LOCKED_OUT []
        else if (s.chan c).state ≠ .FREE then (taken s i r).respond r.port .HELD []
        else ((taken s i r).updChan c fun x => { x with
            state := .IDLE
            lease := some ⟨.port r.port (s.viewOf r.port).epoch, some o, 100 * cur.toNat, prio.toNat, 10 * wait.toNat⟩
          }).respond r.port .OK (be16 (s.viewOf r.port).epoch ++ [BitVec.ofNat 8 (s.chan c).faultCount]))

/-- Requests of the holder, in SERVICE phase and a held state. RELEASE ends the lease in every held state (R33). DE-ENERGIZE takes
the channel to IDLE, answers OK in IDLE and STATE in FAULTED without a change (R35). CLEAR FAULT takes a FAULTED channel to IDLE
and answers STATE in every other state (R36). `goneTo` and `leaseEnded` say what leaving the state does. -/
def Obligations.ReleaseDeEnergizeClearFault : Prop :=
  ∀ (r : Req) (c : Channel) (s : State), s.config.phase = .SERVICE → (s.chan c).state ≠ .FREE →
    s.holder c = some (.port r.port (s.viewOf r.port).epoch) →
    (let i := Instr.release r (BitVec.ofNat 8 c.val);
      Passed s i r → TakenAtOnce s i → exec i s = .next ((leaseEnded (taken s i r) c false).respond r.port .OK []))
    ∧ (let i := Instr.deEnergize r (BitVec.ofNat 8 c.val);
      Passed s i r → TakenAtOnce s i → exec i s = .next (
        if (s.chan c).state = .FAULTED then (taken s i r).respond r.port .STATE []
        else if (s.chan c).state = .IDLE then (taken s i r).respond r.port .OK []
        else (goneTo (taken s i r) c (undriven (s.chan c) .IDLE) true).respond r.port .OK []))
    ∧ (let i := Instr.clearFault r (BitVec.ofNat 8 c.val);
      Passed s i r → TakenAtOnce s i → exec i s = .next (
        if (s.chan c).state = .FAULTED then
          (goneTo (taken s i r) c (undriven (s.chan c) .IDLE) true).respond r.port .OK []
        else (taken s i r).respond r.port .STATE []))

/-- ADOPT in SERVICE phase for a channel 0 to 11: trunk UNUSED or a sender not in the access mask gives NOT_PERMITTED; a channel that is
FREE, held by a line, or held by a port not LAPSED in the port view gives NOT_LAPSED; otherwise the holder becomes the sender
under its current epoch, everything else in the record stays, LEASE_ADOPTED goes to the former holder and the answer carries the
channel state (R34). -/
def Obligations.AdoptRequest : Prop :=
  ∀ (r : Req) (c : Channel) (s : State),
    let i := Instr.adopt r (BitVec.ofNat 8 c.val)
    Passed s i r → TakenAtOnce s i → s.config.phase = .SERVICE →
      ((s.chan c).trunk = none ∨ s.permits c r.port = false →
        exec i s = .next ((taken s i r).respond r.port .NOT_PERMITTED []))
      ∧ ((s.chan c).trunk ≠ none → s.permits c r.port = true →
        ((∀ q e, s.holder c = some (.port q e) → (s.viewOf q).standing ≠ .LAPSED) →
          exec i s = .next ((taken s i r).respond r.port .NOT_LAPSED []))
        ∧ ∀ l q e, (s.chan c).lease = some l → l.holder = .port q e → (s.viewOf q).standing = .LAPSED →
          exec i s = .next ((((taken s i r).updChan c fun x => { x with
              lease := some { l with holder := .port r.port (s.viewOf r.port).epoch } }).post .leaseManager q
            ⟨.LEASE_ADOPTED, .channel c, none, some (.port r.port)⟩).respond r.port .OK [chanStateByte (s.chan c).state]))

/-- RESTATE of the holder in SERVICE phase: a current field outside 1 to 655 gives BAD_ARGUMENT; in IDLE, SHED and INHIBITED the declared
current is replaced and OK answered; in QUEUED too, with a service event for the trunk's queue; in ON a restated reservation claim
goes to the Budget Unit and the answer waits; PROBE, FILL and FAULTED give STATE (R37). While an admission of the channel is in flight
the RESTATE is held back: an ENERGIZE for it in hand, or a service pass whose admission claim for it awaits the answer or whose admit
claim for it is not yet taken or dropped (R37). -/
def Obligations.RestateRequest : Prop :=
  ∀ (r : Req) (c : Channel) (cur : BitVec 16) (l : Lease) (t : Trunk) (s : State),
    let i := Instr.restate r (BitVec.ofNat 8 c.val) cur
    let restated := (taken s i r).updChan c fun x => { x with lease := some { l with declared := 100 * cur.toNat } }
    (Passed s i r → s.inHand c ≠ none ∨ (∃ u k, (s.pass u).claim = some k ∧ k.channel = c ∧ k.stage ≠ .settled) →
      exec i s = .next ((taken s i r).setHeldBack (s.heldBack ++ [i])))
    ∧ (Passed s i r → TakenAtOnce s i → s.config.phase = .SERVICE →
      (cur.toNat = 0 ∨ 655 < cur.toNat → exec i s = .next ((taken s i r).respond r.port .BAD_ARGUMENT []))
      ∧ (1 ≤ cur.toNat → cur.toNat ≤ 655 → (s.chan c).state ≠ .FREE → (s.chan c).lease = some l →
        l.holder = .port r.port (s.viewOf r.port).epoch → (s.chan c).trunk = some t →
        exec i s = .next (match (s.chan c).state with
          | .IDLE | .SHED | .INHIBITED => restated.respond r.port .OK []
          | .QUEUED => (restated.send (.serviceEvent t)).respond r.port .OK []
          | .ON => ((taken s i r).updChan c fun x => { x with restating := some ⟨r.port, 100 * cur.toNat⟩ }).send
              (.restatedReservation c l.declared (100 * cur.toNat))
          | _ => (taken s i r).respond r.port .STATE [])))

/-- A restated reservation: a decrease of the declared current is taken, an increase when the reserved sum with the new value stays within
the rating; taken, the reservation becomes the new value, mark and run count are cleared, and a fall of the reserved sum is a service
event (R17, R18). The trunk is the one that the reservation is charged against, and the channel's while it is 0; that this may be another
than the channel's is the model's choice (log entry 44). Its answer, with nothing else held back: taken, the
declared current is replaced and RESTATE answered OK; refused, NO_HEADROOM and no change (R37). While that answer is awaited, every
other claim and request for the channel is held back, here behind nothing held before it (R37). After the answer the Lease Manager takes
what it held back, the first first, as far as it is not held back anew, each as the same claim or request is taken that nothing holds
back (R37; log entry 13), and each behind the completion answers that it waits for (log entry 5). A claim or request is held back exactly while a restated reservation of a channel that it concerns awaits its
answer (R37); while a claim or request that its port, as a session claim (R29), or the Line Unit for its channel (R46) sent before it is
held back; for a RESTATE, while an admission of the channel is in flight (R37); for an inhibit of an IDLE or SHED channel, while an
ENERGIZE for it is in hand (R50). -/
def Obligations.RestatedReservation : Prop :=
  (∀ (c : Channel) (t : Trunk) (old new : Nat) (p : TrunkProfile) (s : State), s.inReset = false →
      ChargedOn s c t → (s.trunk t).profile = some p → 0 < new →
      exec (.restatedReservation c old new) s = .next (
        let u := s.arrive (.restatedReservation c old new)
        if new ≤ old ∨ (s.trunk t).reserved + new ≤ p.rating + (s.acct c).reservation then
          let v := (u.updTrunk t fun r => { r with reserved := r.reserved - (s.acct c).reservation + new }).updAcct c
            fun _ => ⟨new, some t, false, 0⟩
          (if new < (s.acct c).reservation then v.send (.serviceEvent t) else v).send (.restatedReservationAnswer c true)
        else u.send (.restatedReservationAnswer c false)))
    ∧ (∀ (c : Channel) (done : Bool) (x : Restating) (l : Lease) (s : State), s.inReset = false →
      (s.chan c).restating = some x → (s.chan c).lease = some l →
      let u := s.arrive (.restatedReservationAnswer c done)
      let v := if done then
          (u.updChan c fun r => { r with restating := none, lease := some { l with declared := x.declared } }).respond x.port .OK []
        else (u.updChan c fun r => { r with restating := none }).respond x.port .NO_HEADROOM []
      exec (.restatedReservationAnswer c done) s = .next v.releaseHeldBack
      ∧ (s.heldBack = [] → exec (.restatedReservationAnswer c done) s = .next v))
    ∧ (∀ (i : Instr) (rest : List Instr) (u : State), u.heldBack = i :: rest →
      TakenAtOnce (u.setHeldBack []) i → (∀ l c, i = .inhibitClaim l c → u.inHand c = none) →
      u.releaseHeldBack = ((leaseTake i (u.setHeldBack [])).setHeldBack rest).releaseHeldBack)
    ∧ (∀ (i : Instr) (rest first : List Instr) (u : State), u.inReset = false → u.heldBack = i :: rest →
      (u.setHeldBack []).leaseBlocked i = false → (∀ l c, i = .inhibitClaim l c → u.inHand c = none) →
      TakenFirst u i u.inFlight first → ∃ v, TakenInTurn first (u.setHeldBack []) v
        ∧ u.releaseHeldBack = ((leaseTake i v).setHeldBack rest).releaseHeldBack)
    ∧ (∀ (i : Instr) (u : State), u.heldBack = [i] → (u.setHeldBack []).leaseBlocked i = true → u.releaseHeldBack = u)
    ∧ (∀ (i : Instr) (r : Req) (s : State), (leaseRequestOf i ≠ none ∨ ∃ ch, i = .readChannel r ch) → Passed s i r →
      TakenAtOnce s i → exec i s = .next (leaseTake i (taken s i r)))
    ∧ (∀ (i : Instr) (s : State), encodeRequest i = none → (leaseChannel i ≠ none ∨ sessionPort i ≠ none) → ClaimTaken s i →
      (∀ t c found stamp need, i ≠ .admitClaim t c found stamp need) → exec i s = .next (leaseTake i (s.arrive i)))
    ∧ (∀ (i : Instr) (c : Channel) (s : State), leaseChannel i = some c → (s.chan c).restating ≠ none → s.heldBack = [] →
      (encodeRequest i = none → s.inReset = false → InTurn s i → exec i s = .next ((s.arrive i).setHeldBack [i]))
      ∧ ∀ r, Passed s i r → exec i s = .next ((taken s i r).setHeldBack [i]))
    ∧ ∀ (i : Instr) (s : State), s.leaseBlocked i = true ↔ HeldBackBecause s i

/-! ### Session claims (2.5) -/

/-- An OPEN claim makes the port LIVE in the port view under the new epoch; from LAPSED every lease the port holds is re-stamped with it,
and the OPEN response carries the epoch and the number of channels re-stamped, 0 otherwise; no other record changes (R39, R157). -/
def Obligations.OpenClaimRestampsLeases : Prop :=
  ∀ (p : Port) (epoch : BitVec 16) (s : State), ClaimTaken s (.openClaim p epoch) →
    ∃ u, exec (.openClaim p epoch) s = .next u
      ∧ u = { s with channels := u.channels, portView := u.portView, inFlight := u.inFlight }
      ∧ u.viewOf p = ⟨.LIVE, epoch⟩ ∧ (∀ q, q ≠ p → u.viewOf q = s.viewOf q)
      ∧ (∀ c, u.chan c = if (s.viewOf p).standing = .LAPSED ∧ s.holderPort c = some p then
          { s.chan c with lease := (s.chan c).lease.map fun l => { l with holder := .port p epoch } } else s.chan c)
      ∧ u.inFlight = (s.inFlight.erase (.openClaim p epoch)) ++ [.responseReady p .OK (be16 epoch ++ [BitVec.ofNat 8
          (if (s.viewOf p).standing = .LAPSED then (channelsWhere fun c => decide (s.holderPort c = some p)).length else 0)])]

/-- A lapse claim makes the port LAPSED in the port view and treats each lease it holds by its policy: KEEP stays; HAND to a successor
LIVE in the view passes on as a DROP lease under the successor's epoch, with LEASE_HANDED to it; every other lease ends (R40). A CLOSE
claim ends every lease of the port, makes it DOWN in the view and answers the CLOSE (R41). A lease that ends frees its channel: the
reservation returns to its trunk, the slot and the queue entry go, a run is aborted, a free report follows unless the channel is locked
out (R32). Neither touches another channel's record, another port, a line, a run, a pass or the configuration. -/
def Obligations.LapseAndCloseClaims : Prop :=
  ∀ (p : Port) (s : State),
    (ClaimTaken s (.lapseClaim p) → ∃ u, exec (.lapseClaim p) s = .next u
      ∧ u = { s with channels := u.channels, portView := u.portView, inFlight := u.inFlight, trunks := u.trunks,
                     accounts := u.accounts, queues := u.queues, drivers := u.drivers }
      ∧ u.viewOf p = { s.viewOf p with standing := .LAPSED } ∧ (∀ q, q ≠ p → u.viewOf q = s.viewOf q)
      ∧ LeasesEnded s u (lapseEnds s p)
      ∧ ∀ c, (s.holderPort c ≠ some p → u.chan c = s.chan c)
        ∧ ∀ l, s.holderPort c = some p → (s.chan c).lease = some l →
          (l.orphan = some .KEEP → u.chan c = s.chan c)
          ∧ (∀ q, l.orphan = some (.HAND q) → q ≠ p → (s.viewOf q).standing = .LIVE →
            u.chan c = { s.chan c with lease := some { l with
              holder := .port q (s.viewOf q).epoch, orphan := some .DROP } }
            ∧ .noticeCopyTaken .leaseManager q ⟨.LEASE_HANDED, .channel c, none, some (.port p)⟩ ∈ u.inFlight)
          ∧ (l.orphan ≠ some .KEEP → (∀ q, l.orphan = some (.HAND q) → q = p ∨ (s.viewOf q).standing ≠ .LIVE) →
            u.chan c = freed (s.chan c)))
    ∧ (ClaimTaken s (.closeClaim p) → ∃ u, exec (.closeClaim p) s = .next u
      ∧ u = { s with channels := u.channels, portView := u.portView, inFlight := u.inFlight, trunks := u.trunks,
                     accounts := u.accounts, queues := u.queues, drivers := u.drivers }
      ∧ u.viewOf p = { s.viewOf p with standing := .DOWN } ∧ (∀ q, q ≠ p → u.viewOf q = s.viewOf q)
      ∧ .responseReady p .OK [] ∈ u.inFlight
      ∧ LeasesEnded s u (closeEnds s p)
      ∧ ∀ c, (s.holderPort c = some p → u.chan c = freed (s.chan c)) ∧ (s.holderPort c ≠ some p → u.chan c = s.chan c))

/-! ### Claims of the other blocks on a channel (2.6, 2.7) -/

/-- A shed claim and a trip claim take a channel in PROBE, FILL or ON to SHED with their cause, return its reservation and end its run, and
are ignored in every other state (R49, R101). -/
def Obligations.ShedAndTripClaims : Prop :=
  ∀ (t : Trunk) (c : Channel) (heat : Nat) (conf : Bool) (s : State),
    (ClaimTaken s (.shedClaim t c) → exec (.shedClaim t c) s = .next (
      let u := s.arrive (.shedClaim t c)
      if isDriven (s.chan c).state then
        (goneTo u c { undriven (s.chan c) .SHED with shedCause := some .SHED } true).send (.shedAnswer t c true)
      else u.send (.shedAnswer t c false)))
    ∧ (ClaimTaken s (.tripClaim t c heat conf) → exec (.tripClaim t c heat conf) s = .next (
      let u := s.arrive (.tripClaim t c heat conf)
      if isDriven (s.chan c).state then
        (goneTo u c { undriven (s.chan c) .SHED with shedCause := some .TRIP } true).send (.tripClaimAnswer t c heat conf true)
      else u.send (.tripClaimAnswer t c heat conf false)))

/-- A queue entry claim, taken in the state it carries, IDLE or SHED: the channel goes to QUEUED, and its entry, with the next arrival number
and its wait limit's timer, joins behind every entry of equal or higher priority and ahead of the rest; while the trunk is TRIPPED it
is marked for the flush with the trip heat, in a field of the model's own (R71, R105; log entry 39). A withhold claim takes the
channel to INHIBITED with energize intent yes. In another state either is dropped and nothing changes, also when the channel has become
FREE since the ENERGIZE (R47, R54, R56, R57, R69). -/
def Obligations.QueueEntryAndWithholdClaims : Prop :=
  ∀ (c : Channel) (found : Found) (s : State), found ≠ .QUEUED →
    (ClaimTaken s (.queueEntryClaim c found) →
      let u := s.arrive (.queueEntryClaim c found)
      (∀ t l, (s.chan c).state = foundState found → (s.chan c).trunk = some t → (s.chan c).lease = some l →
        (s.queue t).Pairwise (fun a b => b.priority ≤ a.priority) → (∀ e ∈ s.queue t, e.channel ≠ c) →
        let ahead := (s.queue t).filter fun e => decide (l.priority ≤ e.priority)
        let behind := (s.queue t).filter fun e => decide (e.priority < l.priority)
        exec (.queueEntryClaim c found) s = .next (
          (((u.updChan c fun r => { r with state := .QUEUED, shedCause := none }).updQueue t fun _ =>
            ahead ++ ⟨c, l.priority, s.arrivals, if l.wait = 0 then none else some (1000 * l.wait),
              if (s.trunk t).state = some .TRIPPED then some (s.trunk t).tripHeat else none, false⟩ :: behind).setArrivals
              (s.arrivals + 1)).send (.queueEntryAnswer c .QUEUED (some ahead.length))))
      ∧ ((s.chan c).state ≠ foundState found →
        exec (.queueEntryClaim c found) s = .next (u.send (.queueEntryAnswer c (s.chan c).state none))))
    ∧ (ClaimTaken s (.withholdClaim c found) → exec (.withholdClaim c found) s = .next (
        let u := s.arrive (.withholdClaim c found)
        if (s.chan c).state = foundState found then
          (u.updChan c fun r => { r with state := .INHIBITED, intent := true, shedCause := none }).send
            (.withholdAnswer c .INHIBITED true)
        else u.send (.withholdAnswer c (s.chan c).state false)))

/-- An admit claim: taken in the state it carries, the channel goes to PROBE if staged, with a start for its run,
and to ON otherwise, with the ON-stable timer at 1,000 ms; the time stamp is the claim's, and from QUEUED its entry leaves. In
another state the admission is dropped and the charge returned (R47, R65, R78). That a channel released and claimed again
since the grant, with another declared current, staged flag or trunk, is admitted with the charge and the slot of the grant is the model's
choice (log entry 44). Then what the Lease Manager holds back is judged again: a RESTATE that waited for a pass's admission is taken (R37;
log entry 13). -/
def Obligations.AdmitClaim : Prop :=
  ∀ (t : Trunk) (c : Channel) (found : Found) (stamp : BitVec 32) (need : Nat) (s : State),
    let i := Instr.admitClaim t c found stamp need
    ClaimTaken s i → exec i s = .next (State.releaseHeldBack (
      let u := if found = .QUEUED then (s.arrive i).updPass t fun x => x.settle c else s.arrive i
      if (s.chan c).state = foundState found then
        let v : State := { u with
          channels := updAt u.channels c fun r => { r with
            state := if s.staged c then .PROBE else .ON
            stamp := some stamp
            shedCause := none
            onStable := if s.staged c then none else some 1000000 }
          queues := if found = .QUEUED then queuesWithout s c else s.queues }
        (if s.staged c then v.send (.start c) else v).send
          (.admitClaimAnswer t c found need (if s.staged c then .PROBE else .ON) true)
      else (returned u c).send (.admitClaimAnswer t c found need (s.chan c).state false)))

/-- A removal claim removes the entry of a channel that has left QUEUED, with a service event when it was the head (R68). The expiry of the
wait-limit timer of an entry stops the timer, keeps the entry from being offered by a pass (R70), and sends a wait-expiry claim; in QUEUED
it takes the channel to IDLE, its entry leaves, with a service event when it was the head, and WAIT_EXPIRED goes to the holder port with
the entries that were ahead (R69). A flush sends a flush claim for each entry of the queue, from the head; in QUEUED it takes the channel
to IDLE, its entry leaves without a service event, and QUEUE_FLUSHED goes to the holder port with the trip heat (R71). Both claims are
ignored in other states. That the removal claim is a command of its own, which changes nothing for a channel still QUEUED, is the model's
reading (log entry 2, DEDUCED); that a pass which waits for an expired head goes on when a flush claim has been taken is its choice (log
entry 43). -/
def Obligations.QueueUpkeep : Prop :=
  (∀ (c : Channel) (t : Trunk) (heat : Nat) (s : State), (s.chan c).trunk = some t →
     (ClaimTaken s (.waitExpiryClaim c) → exec (.waitExpiryClaim c) s = .next (
       let u := s.arrive (.waitExpiryClaim c)
       if (s.chan c).state = .QUEUED then
         (goneTo u c (undriven (s.chan c) .IDLE) true).postHolder .admissionUnit c
           ⟨.WAIT_EXPIRED, .channel c, none, some (.count (entriesAhead (s.queue t) c))⟩
       else u))
     ∧ (ClaimTaken s (.flushClaim c heat) → exec (.flushClaim c heat) s = .next (
       let u := s.arrive (.flushClaim c heat)
       if (s.chan c).state = .QUEUED then
         let v := ((u.updQueue t fun q => q.filter fun e => decide (e.channel ≠ c)).updChan c
           fun r => { r with state := .IDLE }).postHolder .admissionUnit c
             ⟨.QUEUE_FLUSHED, .channel c, some (.shed .TRIP), some (.heat heat)⟩
         if s.pass t = ⟨none, true⟩ then v.startPass t else v
       else u)))
  ∧ ((∀ (c : Channel) (t : Trunk) (s : State), s.inReset = false → (s.chan c).trunk = some t →
         exec (.removalClaim c) s = .next (
           let u := s.arrive (.removalClaim c)
           if (s.chan c).state = .QUEUED then u
           else
             let v := u.updQueue t fun q => q.filter fun e => decide (e.channel ≠ c)
             if (s.queue t).head?.map (·.channel) = some c then v.send (.serviceEvent t) else v))
       ∧ (∀ (c : Channel) (t : Trunk) (e : Entry) (s : State), s.inReset = false → QueuesOk s → e ∈ s.queue t → e.channel = c →
         e.timer ≠ none → exec (.waitLimitExpiry c) s = .next ((s.updQueue t fun q =>
           q.map fun x => if x.channel = c then { x with timer := none, expired := true } else x).send (.waitExpiryClaim c)))
       ∧ (∀ (c : Channel) (s : State), s.inReset = false → (∀ t, ∀ e ∈ s.queue t, e.channel = c → e.timer = none) →
         exec (.waitLimitExpiry c) s = .next s)
       ∧ ∀ (t : Trunk) (heat : Nat) (s : State), s.inReset = false →
         exec (.queueFlush t heat) s = .next (s.setInFlight
           (s.inFlight.erase (.queueFlush t heat) ++ (s.queue t).map fun e => .flushClaim e.channel heat)))

/-- An advance claim takes a channel from PROBE to FILL (R48, R81). A completion claim takes it from FILL to ON with the ON-stable timer at
1,000 ms, ends a pulse in progress, and in the same change lowers the reservation from need to the declared current and empties
the precharge slot, with a service event for each (R85, R16, R18, R19). A slot that does not name the channel stays, and a reservation
below the declared current rises to it: both only where the channel was claimed again between its grant and its admit claim (log entry
44). Both are ignored in every other state. That a deferred output sample stays due at the completion is the model's choice (log entry 32); that the lowering is made in the same change, log entry 2. -/
def Obligations.AdvanceAndCompletionClaims : Prop :=
  ∀ (c : Channel) (t : Trunk) (l : Lease) (s : State),
    (ClaimTaken s (.advanceClaim c) → exec (.advanceClaim c) s = .next (
      let u := s.arrive (.advanceClaim c)
      if (s.chan c).state = .PROBE then (u.updChan c fun r => { r with state := .FILL }).send (.advanceAnswer c true)
      else u.send (.advanceAnswer c false)))
    ∧ (ClaimTaken s (.completionClaim c) →
      ((s.chan c).state = .FILL → (s.chan c).lease = some l → 0 < l.declared → ChargedOn s c t → exec (.completionClaim c) s = .next (
          let u := s.arrive (.completionClaim c)
          { u with
            channels := updAt s.channels c fun r => { r with state := .ON, onStable := some 1000000 }
            drivers := updAt s.drivers c fun d => { d with pulse := none }
            trunks := updAt s.trunks t fun r => { r with
              reserved := r.reserved - (s.acct c).reservation + l.declared
              slot := if r.slot = some c then none else r.slot }
            accounts := updAt s.accounts c fun a => { a with
              reservation := l.declared, charged := some t, overdrawn := false }
            inFlight := u.inFlight
              ++ (if l.declared < (s.acct c).reservation then [.serviceEvent t] else [])
              ++ (if (s.trunk t).slot = some c then [.serviceEvent t] else []) ++ [.completionAnswer c true] }))
      ∧ ((s.chan c).state ≠ .FILL → exec (.completionClaim c) s = .next
          ((s.arrive (.completionClaim c)).send (.completionAnswer c false))))

/-- A precharge failure claim in its state (PROBE with PRECHARGE_SHORT, FILL with PRECHARGE_TIMEOUT) and a short detection in PROBE, FILL or ON
take a fault: FAULTED with a FAULT notice at counts 1 and 2, FREE and locked out with a LOCKOUT notice at 3, the reservation returned;
in every other state the claim is ignored and the detection dropped. A detection releases the driver's short hold either way (R42,
R43, R86, R113). -/
def Obligations.FaultsTaken : Prop :=
  ∀ (c : Channel) (cause : FaultCause) (s : State),
    (ClaimTaken s (.prechargeFailureClaim c cause) → exec (.prechargeFailureClaim c cause) s = .next (
      let u := s.arrive (.prechargeFailureClaim c cause)
      if (cause = .PRECHARGE_SHORT ∧ (s.chan c).state = .PROBE) ∨ (cause = .PRECHARGE_TIMEOUT ∧ (s.chan c).state = .FILL) then
        (faulted u c cause false).send (.failureAnswer c true)
      else u.send (.failureAnswer c false)))
    ∧ (ClaimTaken s (.shortDetectionTaken c) → exec (.shortDetectionTaken c) s = .next (
      let u := s.arrive (.shortDetectionTaken c)
      (if isDriven (s.chan c).state then faulted u c .SHORT true else u).updDriver c fun d => { d with shortHold := false }))

/-- A line claim takes a FREE channel that is not locked out and whose trunk is not UNUSED to IDLE, with the line as holder, its current and
priority, no orphan policy and no wait limit; every other record refuses it. A line release ends the lease when the holder is that line,
and is ignored otherwise (R50). An inhibit claim takes a channel in QUEUED, PROBE, FILL or ON to INHIBITED with energize intent yes, and
INHIBITED goes to the holder port with the line; a resume claim takes a channel in INHIBITED to IDLE with intent no, and the Line Unit
issues ENERGIZE for the holder. Both are ignored in every other state, FREE among them, but an inhibit claim for a channel in IDLE or SHED
with an ENERGIZE in hand is held back, and stays so while that ENERGIZE is in hand, whatever the channel state becomes (R50, R126, R127). -/
def Obligations.LineUnitClaims : Prop :=
  (∀ (l : Line) (c : Channel) (cur prio : Nat) (s : State),
     (ClaimTaken s (.lineClaim l c cur prio) → exec (.lineClaim l c cur prio) s = .next (
       let u := s.arrive (.lineClaim l c cur prio)
       if (s.chan c).state = .FREE ∧ (s.chan c).lockedOut = false ∧ (s.chan c).trunk ≠ none then
         (u.updChan c fun r => { r with state := .IDLE, lease := some ⟨.line l, none, cur, prio, 0⟩ }).send
           (.lineClaimAnswer l .CLAIM true)
       else u.send (.lineClaimAnswer l .CLAIM false)))
     ∧ (ClaimTaken s (.lineRelease l c) → exec (.lineRelease l c) s = .next (
       let u := s.arrive (.lineRelease l c)
       if s.holder c = some (.line l) then (leaseEnded u c true).send (.lineClaimAnswer l .RELEASE true)
       else u.send (.lineClaimAnswer l .RELEASE false))))
  ∧ (∀ (l : Line) (c : Channel) (s : State), ClaimTaken s (.inhibitClaim l c) → exec (.inhibitClaim l c) s = .next (
       let u := s.arrive (.inhibitClaim l c)
       if (s.chan c).state = .QUEUED ∨ isDriven (s.chan c).state = true then
         (goneTo u c (undriven (s.chan c) .INHIBITED) true).postHolder .leaseManager c
           ⟨.INHIBITED, .channel c, none, some (.line l)⟩
       else u))
  ∧ (∀ (l : Line) (c : Channel) (s : State), s.inReset = false → InTurn s (.inhibitClaim l c) → s.inHand c ≠ none →
       (s.chan c).state = .IDLE ∨ (s.chan c).state = .SHED →
       exec (.inhibitClaim l c) s = .next ((s.arrive (.inhibitClaim l c)).setHeldBack (s.heldBack ++ [.inhibitClaim l c])))
  ∧ (∀ (l : Line) (c : Channel) (u : State), u.heldBack = [.inhibitClaim l c] → u.inHand c ≠ none → u.releaseHeldBack = u)
  ∧ ∀ (l : Line) (c : Channel) (s : State), ClaimTaken s (.resumeClaim l c) →
       (∀ h, (s.chan c).state = .INHIBITED → s.holder c = some h → exec (.resumeClaim l c) s = .next (
         (goneTo (s.arrive (.resumeClaim l c)) c (undriven (s.chan c) .IDLE) true).send (.lineEnergize c h true)))
       ∧ ((s.chan c).state ≠ .INHIBITED → exec (.resumeClaim l c) s = .next (s.arrive (.resumeClaim l c)))

/-- A channel profile claim is taken while the channel is FREE and refused otherwise: a write sets the trunk field, an apply also replaces the
profile and sends a free report unless the channel is locked out (R51). A lockout release claim clears a set mark and the fault
count and sends a free report, and is refused while the mark is clear (R45). The expiry of a running ON-stable timer sets the fault
count of a channel in ON to 0 (R44). -/
def Obligations.ProfileLockoutAndOnStable : Prop :=
  ∀ (c : Channel) (new : ChannelProfile) (p : Port) (s : State),
    (ClaimTaken s (.channelProfileClaim (.write p) c new) → (s.chan c).state = .FREE →
      exec (.channelProfileClaim (.write p) c new) s = .next (((s.arrive (.channelProfileClaim (.write p) c new)).updChan c
        fun r => { r with trunk := new.trunk }).respond p .OK []))
    ∧ (ClaimTaken s (.channelProfileClaim .apply c new) → exec (.channelProfileClaim .apply c new) s = .next (
      let u := s.arrive (.channelProfileClaim .apply c new)
      if (s.chan c).state = .FREE then
        let v := (u.updConfig fun g => { g with channelProfiles := updAt g.channelProfiles c fun _ => new }).updChan c
          fun r => { r with trunk := new.trunk }
        (if (s.chan c).lockedOut then v else v.send (.freeReport c)).send (.applyAnswer true)
      else u.send (.applyAnswer false)))
    ∧ (ClaimTaken s (.lockoutReleaseClaim c) → exec (.lockoutReleaseClaim c) s = .next (
      let u := s.arrive (.lockoutReleaseClaim c)
      if (s.chan c).lockedOut then
        ((u.updChan c fun r => { r with lockedOut := false, faultCount := 0 }).send (.freeReport c)).send (.applyAnswer true)
      else u.send (.applyAnswer false)))
    ∧ (s.inReset = false → exec (.onStableExpiry c) s = .next (
      if (s.chan c).state = .ON ∧ (s.chan c).onStable ≠ none then
        s.updChan c fun r => { r with faultCount := 0, onStable := none }
      else s))

/-! ### Admission (Chapter 3) -/

/-- ENERGIZE from a port, its checks in the order of R55: phase SERVICE, else WRONG_PHASE; channel index 0 to 11, else BAD_ARGUMENT; while a
claim of the Admission Unit for the channel awaits its answer, of an ENERGIZE in hand or of a service pass, it is held back (R59; that
the claims of a pass count is the model's reading, log entry 15); a FREE channel gives STATE, a sender that is not the holder
NOT_PERMITTED, FAULTED gives FAULTED, and QUEUED, PROBE, FILL, ON and INHIBITED give OK, each with the channel state and 0xFF, and
nothing else changes. From the Line Unit, a channel not held by the holder it was issued for gives STATE; held by it, FAULTED gives FAULTED
and QUEUED, PROBE, FILL, ON and INHIBITED give OK, by item 5 of R55 (R60). -/
def Obligations.EnergizeChecks : Prop :=
  (∀ (r : Req) (b : Byte) (s : State), Passed s (.energize r b) r →
      (s.config.phase = .COMMISSION →
        exec (.energize r b) s = .next ((taken s (.energize r b) r).respond r.port .WRONG_PHASE []))
      ∧ (s.config.phase = .SERVICE → 12 ≤ b.toNat →
        exec (.energize r b) s = .next ((taken s (.energize r b) r).respond r.port .BAD_ARGUMENT [])))
    ∧ (∀ (r : Req) (c : Channel) (s : State),
      let i := Instr.energize r (BitVec.ofNat 8 c.val)
      let answer (st : Status) := (taken s i r).respond r.port st [chanStateByte (s.chan c).state, 0xFF#8]
      Passed s i r → s.config.phase = .SERVICE →
        (s.energizeBlocked c = true → exec i s = .next ((taken s i r).setWaiting (s.waiting ++ [i])))
        ∧ (s.energizeBlocked c = false →
          ((s.chan c).state = .FREE → exec i s = .next (answer .STATE))
          ∧ ((s.chan c).state ≠ .FREE → s.holder c ≠ some (.port r.port (s.viewOf r.port).epoch) →
            exec i s = .next (answer .NOT_PERMITTED))
          ∧ (s.holder c = some (.port r.port (s.viewOf r.port).epoch) → (s.chan c).state = .FAULTED →
            exec i s = .next (answer .FAULTED))
          ∧ (s.holder c = some (.port r.port (s.viewOf r.port).epoch) →
            (s.chan c).state = .QUEUED ∨ isDriven (s.chan c).state = true ∨ (s.chan c).state = .INHIBITED →
            exec i s = .next (answer .OK))))
    ∧ (∀ (c : Channel) (h : Holder) (resumed : Bool) (s : State), s.inReset = false → s.energizeBlocked c = false →
      let answer (st : Status) : State :=
        (s.arrive (.lineEnergize c h resumed)).send (.lineEnergizeResponse c resumed st (s.chan c).state)
      (s.holder c ≠ some h → exec (.lineEnergize c h resumed) s = .next (answer .STATE))
      ∧ (s.holder c = some h → (s.chan c).state = .FAULTED → exec (.lineEnergize c h resumed) s = .next (answer .FAULTED))
      ∧ (s.holder c = some h → (s.chan c).state = .QUEUED ∨ isDriven (s.chan c).state = true ∨ (s.chan c).state = .INHIBITED →
        exec (.lineEnergize c h resumed) s = .next (answer .OK)))
    ∧ (∀ (c : Channel) (h : Holder) (resumed : Bool) (s : State), s.inReset = false → s.energizeBlocked c = true →
      exec (.lineEnergize c h resumed) s = .next ((s.arrive (.lineEnergize c h resumed)).setWaiting
        (s.waiting ++ [.lineEnergize c h resumed])))
    ∧ ∀ (c : Channel) (s : State), s.energizeBlocked c = true ↔
      s.inHand c ≠ none ∨ ∃ t k, (s.pass t).claim = some k ∧ k.channel = c

/-- ENERGIZE for a channel in IDLE or SHED of a configured trunk, from its holder's port or from the Line Unit: a TRIPPED trunk gives
TRUNK_TRIPPED, a need above the rating NO_HEADROOM; while a VETO line withholds permission a withhold claim is sent, with a queue
that is not empty a queue entry claim, and otherwise an admission claim with the need and the staged flag; the ENERGIZE is then in
hand (R56, R57, R59, R60). The need is the larger of precharge allowance and declared current for a staged channel, and the
declared current otherwise (R61). Permission is withheld in SERVICE while some VETO line bound to the channel is low or undetermined
(R126); a port is permitted by its bit of the access mask. -/
def Obligations.EnergizeArrival : Prop :=
  (∀ (c : Channel) (found : Found) (t : Trunk) (p : TrunkProfile) (s : State),
      (s.chan c).trunk = some t → (s.trunk t).profile = some p → found ≠ .QUEUED → (s.chan c).state = foundState found →
      s.energizeBlocked c = false →
      let outcome (u : State) (src : EnergizeSource) (refuse : Status → State) : State :=
        if (s.trunk t).state = some .TRIPPED then refuse .TRUNK_TRIPPED
        else if p.rating < s.need c then refuse .NO_HEADROOM
        else if s.withheld c = true then (u.setInHand c (some ⟨src, found, .withhold⟩)).send (.withholdClaim c found)
        else if s.queue t ≠ [] then (u.setInHand c (some ⟨src, found, .entry⟩)).send (.queueEntryClaim c found)
        else (u.setInHand c (some ⟨src, found, .admission⟩)).send (.admissionClaim false t c (s.need c) (s.staged c))
      (∀ r : Req,
        let i := Instr.energize r (BitVec.ofNat 8 c.val)
        Passed s i r → s.config.phase = .SERVICE → s.holder c = some (.port r.port (s.viewOf r.port).epoch) →
        exec i s = .next (outcome (taken s i r) (.port r.port) fun st =>
          (taken s i r).respond r.port st [chanStateByte (s.chan c).state, 0xFF#8]))
      ∧ ∀ (h : Holder) (resumed : Bool), s.inReset = false → s.holder c = some h →
        exec (.lineEnergize c h resumed) s = .next (outcome (s.arrive (.lineEnergize c h resumed)) (.lineUnit resumed) fun st =>
          (s.arrive (.lineEnergize c h resumed)).send (.lineEnergizeResponse c resumed st (s.chan c).state)))
    ∧ ∀ (c : Channel) (s : State),
      (∀ x, (s.profile c).precharge = some x → s.need c = max x.allowance (s.declared c) ∧ s.staged c = true)
      ∧ ((s.profile c).precharge = none → s.need c = s.declared c ∧ s.staged c = false)
      ∧ (s.withheld c = true ↔ s.config.phase = .SERVICE
        ∧ ∃ l, (s.line l).binding = .VETO c ∧ (s.line l).level ≠ some true)
      ∧ ∀ p : Port, s.permits c p = true ↔ (s.profile c).mask.toNat / 2 ^ p.val % 2 = 1

/-- The answers that end or carry on an ENERGIZE in hand. A grant takes the next time stamp and sends the
admit claim; a refused admission sends the queue entry claim (R58, R62). A joined entry is answered ACCEPTED with the entries
ahead, is a service event at the head, and is flushed at once, with the trip heat, when it joined while the trunk was TRIPPED, whatever the trunk's
state is at the answer (R71, R105; log entry 39); a dropped one is answered STATE (R57). A
withhold is answered ACCEPTED, or STATE when dropped (R56). An admit claim taken is answered OK and confirmed to the Budget Unit, a
dropped one is answered STATE (R58, R67). An answer that ends the ENERGIZE is followed by what was held back: the Lease Manager's
claims and requests (R37, R50), and the held-back ENERGIZEs in order of arrival, each judged as when it is not held back (R59). That
the Lease Manager's come first, and the ENERGIZEs after them, is the model's choice (log entry 38). -/
def Obligations.EnergizeAnswers : Prop :=
  (∀ (t : Trunk) (c : Channel) (need : Nat) (src : EnergizeSource) (found : Found) (why : AdmissionRefusal) (s : State),
      s.inReset = false → s.inHand c = some ⟨src, found, .admission⟩ →
      exec (.arrivalAdmissionAnswer t c need none) s = .next (
        (((s.arrive (.arrivalAdmissionAnswer t c need none)).setInHand c (some ⟨src, found, .admitted⟩)).setAdmissions
          (s.admissions + 1)).send (.admitClaim t c found s.admissions need))
      ∧ exec (.arrivalAdmissionAnswer t c need (some why)) s = .next (
        ((s.arrive (.arrivalAdmissionAnswer t c need (some why))).setInHand c (some ⟨src, found, .entry⟩)).send
          (.queueEntryClaim c found)))
    ∧ (∀ (c : Channel) (t : Trunk) (left : ChanState) (n : Nat) (src : EnergizeSource) (found : Found) (s : State),
      s.inReset = false → (s.chan c).trunk = some t → s.inHand c = some ⟨src, found, .entry⟩ →
      exec (.queueEntryAnswer c left (some n)) s = .next (State.admissionSettled (
        let u := ((s.arrive (.queueEntryAnswer c left (some n))).setInHand c none).answerEnergize src c .ACCEPTED left (some n)
        let v := if n = 0 then u.send (.serviceEvent t) else u
        match ((s.queue t).find? fun e => decide (e.channel = c)).bind (·.tripHeat) with
        | some heat => v.send (.flushClaim c heat)
        | none => v))
      ∧ exec (.queueEntryAnswer c left none) s = .next (State.admissionSettled (
        ((s.arrive (.queueEntryAnswer c left none)).setInHand c none).answerEnergize src c .STATE left none)))
    ∧ (∀ (c : Channel) (left : ChanState) (done : Bool) (src : EnergizeSource) (found : Found) (s : State),
      s.inReset = false → s.inHand c = some ⟨src, found, .withhold⟩ →
      exec (.withholdAnswer c left done) s = .next (State.admissionSettled
        (((s.arrive (.withholdAnswer c left done)).setInHand c none).answerEnergize
          src c (if done then .ACCEPTED else .STATE) left none)))
    ∧ (∀ (t : Trunk) (c : Channel) (found : Found) (need : Nat) (left : ChanState) (src : EnergizeSource) (f : Found) (s : State),
      s.inReset = false → found ≠ .QUEUED → s.inHand c = some ⟨src, f, .admitted⟩ →
      exec (.admitClaimAnswer t c found need left true) s = .next (State.admissionSettled (
        (((s.arrive (.admitClaimAnswer t c found need left true)).setInHand c none).answerEnergize src c .OK left none).send
          (.admissionConfirmation t c)))
      ∧ exec (.admitClaimAnswer t c found need left false) s = .next (State.admissionSettled (
        ((s.arrive (.admitClaimAnswer t c found need left false)).setInHand c none).answerEnergize src c .STATE left none)))
    ∧ (∀ u : State, (u.admissionSettled =
        let released := u.releaseHeldBack
        released.waiting.foldl (fun v i => energizeTake i v) (released.setWaiting []))
      ∧ (NothingHeld u → u.admissionSettled = u) ∧ (u.waiting = [] → u.admissionSettled = u.releaseHeldBack)
      ∧ (u.heldBack = [] → u.admissionSettled = u.waiting.foldl (fun v i => energizeTake i v) (u.setWaiting [])))
    ∧ (∀ (r : Req) (ch : Byte) (s : State), Passed s (.energize r ch) r →
      exec (.energize r ch) s = .next (energizeTake (.energize r ch) (taken s (.energize r ch) r)))
    ∧ (∀ (c : Channel) (h : Holder) (resumed : Bool) (s : State), s.inReset = false →
      exec (.lineEnergize c h resumed) s = .next (energizeTake (.lineEnergize c h resumed) (s.arrive (.lineEnergize c h resumed))))
    ∧ ∀ (s : State) (p : Port) (resumed : Bool) (c : Channel) (st : Status) (x : ChanState) (n : Nat),
      s.answerEnergize (.port p) c st x none = s.respond p st [chanStateByte x, 0xFF#8]
        ∧ s.answerEnergize (.port p) c st x (some n) = s.respond p st [chanStateByte x, BitVec.ofNat 8 n]
        ∧ s.answerEnergize (.lineUnit resumed) c st x none = s.send (.lineEnergizeResponse c resumed st x)
        ∧ s.answerEnergize (.lineUnit resumed) c st x (some n) = s.send (.lineEnergizeResponse c resumed st x)

/-- A service pass (R63, R64, R65, R70). A service event starts a pass: the head of a queue that is not empty is offered with its need;
during a pass it marks one further pass. A head whose wait limit ran out before the offer is not offered, and neither is an entry behind
it while it stays: the pass waits, and an event that comes when it has left has the new head offered (R70; that this event marks no
further pass is the model's choice, log entry 43). A granted offer takes the next time stamp and sends the admit claim in QUEUED; a refused one ends
the pass, and a marked pass starts with the head as it then stands. After the admit claim's answer, taken with GRANTED, ENERGIZED
for a channel now ON, and the confirmation, the pass goes on with the new head, and ends with the queue empty. What was held back for the
admission is taken after a refusal or answer (R37, R59); that a marked further pass offers first is the model's choice (log entry 33), and
so is the moment whose declared current ENERGIZED carries (log entry 45). -/
def Obligations.ServicePass : Prop :=
  ∀ (t : Trunk) (s : State), s.inReset = false →
    let offer (u : State) (again : Bool) (e : Entry) : State :=
      if e.expired = true then u.updPass t fun _ => ⟨none, true⟩
      else (u.updPass t fun _ => ⟨some ⟨e.channel, u.need e.channel, .asked⟩, again⟩).send
        (.admissionClaim true t e.channel (u.need e.channel) (u.staged e.channel))
    (∀ waits, s.pass t = ⟨none, waits⟩ →
      (s.queue t = [] →
        exec (.serviceEvent t) s = .next ((s.arrive (.serviceEvent t)).updPass t fun _ => ⟨none, false⟩))
      ∧ ∀ e rest, s.queue t = e :: rest → exec (.serviceEvent t) s = .next (offer (s.arrive (.serviceEvent t)) false e))
    ∧ (∀ u : State, (u.queue t = [] → u.startPass t = u.updPass t fun _ => ⟨none, false⟩)
      ∧ ∀ e rest, u.queue t = e :: rest → u.startPass t = offer u false e)
    ∧ (∀ k again, s.pass t = ⟨some k, again⟩ →
      exec (.serviceEvent t) s = .next ((s.arrive (.serviceEvent t)).updPass t fun _ => ⟨some k, true⟩))
    ∧ (∀ c n need again, s.pass t = ⟨some ⟨c, n, .asked⟩, again⟩ →
      exec (.passAdmissionAnswer t c need none) s = .next (
        (((s.arrive (.passAdmissionAnswer t c need none)).updPass t fun _ => ⟨some ⟨c, n, .sent⟩, again⟩).setAdmissions
          (s.admissions + 1)).send (.admitClaim t c .QUEUED s.admissions need))
      ∧ ∀ why, exec (.passAdmissionAnswer t c need (some why)) s = .next (State.admissionSettled (
        match again, s.queue t with
        | true, e :: _ => offer (s.arrive (.passAdmissionAnswer t c need (some why))) false e
        | _, _ => (s.arrive (.passAdmissionAnswer t c need (some why))).updPass t fun _ => ⟨none, false⟩)))
    ∧ ∀ c n stage again need left done, s.pass t = ⟨some ⟨c, n, stage⟩, again⟩ → stage ≠ .asked →
      exec (.admitClaimAnswer t c .QUEUED need left done) s = .next (State.admissionSettled (
        let u := s.arrive (.admitClaimAnswer t c .QUEUED need left done)
        let granted := u.postHolder .admissionUnit c ⟨.GRANTED, .channel c, none, some (.current need)⟩
        let told := if left = .ON then
          granted.postHolder .admissionUnit c ⟨.ENERGIZED, .channel c, none, some (.current (s.declared c))⟩ else granted
        let v := if done then told.send (.admissionConfirmation t c) else u
        match s.queue t with
        | e :: _ => offer v again e
        | [] => v.updPass t fun _ => ⟨none, false⟩))

/-! ### Heat, overdraw, shedding and trip (Chapters 1 and 5) -/

/-- At a budget interval expiry a configured trunk whose current I, the sum of the latest samples of the channels whose profile names it,
exceeds the rating Ir is heated by max(1, D), D = floor((I² − Ir²) × 2^20 / (3 × Ir² × t_nom)), saturating at 2,097,151 hu; at or
below the rating it is cooled by max(1, floor(H / 2^k)), stopping at 0; an unconfigured trunk is cooled with k = 10 whatever I
is. The heat of every trunk stays within 0 to 2,097,151 hu, and no other trunk's heat changes (R8, R9). -/
def Obligations.HeatStep : Prop :=
  ∀ (t : Trunk) (s : State), s.inReset = false → ∃ u, exec (.budgetIntervalExpiry t) s = .next u
    ∧ (let i := ((List.finRange 12).map fun c => if (s.profile c).trunk = some t then s.sense.current[c] else 0).sum
      let h := (s.trunk t).heat
      (∀ p, (s.trunk t).profile = some p → p.rating < i → (u.trunk t).heat
          = min 2097151 (h + max 1 ((i ^ 2 - p.rating ^ 2) * 2 ^ 20 / (3 * p.rating ^ 2 * p.tNom))))
        ∧ (∀ p, (s.trunk t).profile = some p → i ≤ p.rating → (u.trunk t).heat = h - max 1 (h / 2 ^ p.k))
        ∧ ((s.trunk t).profile = none → (u.trunk t).heat = h - max 1 (h / 2 ^ 10)))
    ∧ (∀ v, v ≠ t → (u.trunk v).heat = (s.trunk v).heat)
    ∧ ∀ v, (s.trunk v).heat ≤ 2097151 → (u.trunk v).heat ≤ 2097151

/-- The transition of a configured trunk at its budget interval expiry, by the state held and the heat after the update (Table 1-5), with
the entry actions of the state reached: into NORMAL a service event; into SHEDDING the last-shed heat, the 20 ms timer and one shed,
which waits while a shed is in hand; into TRIPPED the latch, the trip heat, the trips awaited, a trip claim for each driven channel
and the flush, and with no driven channel the TRIPPED notices at once. Without a transition the record stays but for heat, interval
and reserved sum. No channel record, queue, port, line, run or configuration changes (R6, R10 to R12, R93, R95 to R97, R100, R102). That
the trip awaits its channels in index order is the model's choice (log entry 30). -/
def Obligations.TrunkTransition : Prop :=
  ∀ (t : Trunk) (p : TrunkProfile) (st : TrunkState) (s : State), s.inReset = false → (s.trunk t).profile = some p →
    (s.trunk t).state = some st → ∃ u, exec (.budgetIntervalExpiry t) s = .next u
      ∧ u = { s with trunks := u.trunks, accounts := u.accounts, inFlight := u.inFlight, drivers := u.drivers }
      ∧ (∀ v, v ≠ t → u.trunk v = { s.trunk v with reserved := (u.trunk v).reserved })
      ∧ (let h := (u.trunk t).heat
        let new : TrunkState :=
          if st = .TRIPPED then .TRIPPED
          else if 1310720 ≤ h then .TRIPPED
          else if st = .SHEDDING then (if 524288 ≤ h then .SHEDDING else .NORMAL)
          else if 1048576 ≤ h then .SHEDDING
          else if 524288 ≤ h then .WARM
          else .NORMAL
        let warmed : TrunkRec := { s.trunk t with heat := h, interval := 1000 }
        (u.trunk t).state = some new
          ∧ u.trunk t = { (if new = st then warmed else enteredTrunk s t warmed new) with reserved := (u.trunk t).reserved }
          ∧ (new ≠ st → (∀ m ∈ entryMessages s t warmed new, m ∈ u.inFlight) ∧ ∀ c, u.driver c = enteredDrivers s t new c)
          ∧ (new = st → ∀ c, u.driver c = s.driver c)
          ∧ (new ≠ st → new = .SHEDDING → (u.trunk t).lastShed = some h ∧ (u.trunk t).shedTimer = some 20000
            ∧ ∀ c, s.candidate t = some c → (s.trunk t).shedInHand = none → .shedClaim t c ∈ u.inFlight)
          ∧ (new ≠ st → new = .TRIPPED → (u.trunk t).latch = true ∧ (u.trunk t).tripHeat = h ∧ .queueFlush t h ∈ u.inFlight
            ∧ ∀ c, (s.chan c).trunk = some t → isDriven (s.chan c).state = true → .tripClaim t c h false ∈ u.inFlight))

/-- The overdraw check at a budget interval expiry, after the transition: for a channel of the trunk in ON that the transition has not
claimed (a trip claims every driven channel, an entry into SHEDDING the one it sheds), a sample above reservation × (100 + margin) /
100 counts; the sixteenth in a run raises the reservation to the sample rounded up to the next 100 mA, without a headroom test, sets
the mark and the count to 0 and posts OVERDRAW with the sample to the holder port; a sample at or below the limit sets the count to
0. No other channel's account changes (R6, R20, R21). A raised reservation stays on the trunk that it was charged against, which may be
another than the channel's: the model's choice (log entry 44). -/
def Obligations.OverdrawCheck : Prop :=
  ∀ (t : Trunk) (p : TrunkProfile) (st : TrunkState) (s : State), s.inReset = false → (s.trunk t).profile = some p →
    (s.trunk t).state = some st →
    let new := nextTrunkState st ((s.trunk t).nextHeat (s.trunkCurrent t))
    let claimed (c : Channel) : Prop := new ≠ st ∧ (new = .TRIPPED ∧ isDriven (s.chan c).state = true
      ∨ new = .SHEDDING ∧ (s.trunk t).shedInHand = none ∧ s.candidate t = some c)
    ∃ u, exec (.budgetIntervalExpiry t) s = .next u ∧ ∀ c : Channel,
      let a := s.acct c
      let sample := s.sense.current[c]
      ((s.chan c).trunk = some t ∧ (s.chan c).state = .ON ∧ ¬ claimed c →
        (a.reservation * (100 + p.margin) < sample * 100 → a.runCount + 1 < 16 →
          u.acct c = { a with runCount := a.runCount + 1 })
        ∧ (a.reservation * (100 + p.margin) < sample * 100 → 16 ≤ a.runCount + 1 →
          u.acct c = ⟨(sample + 99) / 100 * 100, some (a.charged.getD t), true, 0⟩
            ∧ ∀ q, s.holderPort c = some q →
              .noticeCopyTaken .budgetUnit q ⟨.OVERDRAW, .channel c, none, some (.current sample)⟩ ∈ u.inFlight)
        ∧ (sample * 100 ≤ a.reservation * (100 + p.margin) → u.acct c = { a with runCount := 0 }))
      ∧ (¬((s.chan c).trunk = some t ∧ (s.chan c).state = .ON ∧ ¬ claimed c) → u.acct c = a)

/-- A shed chooses, among the channels of the trunk in PROBE, FILL or ON with priority 0 to 6, one of the lowest priority, and of those the
one admitted last, that is of the smallest age, which is the admission counter less the time stamp, modulo 2^32 (R62); none when there
is no such channel (R94). A shed interval expiry in SHEDDING restarts the timer and sheds when
H has not fallen below the last-shed heat, which it then records; while a shed is in hand the new one is owed; in another state the
expiry is not taken (R96, R97). The answer to a shed claim: taken, SHED with the heat recorded for it goes to the holder port; ignored
in the same SHEDDING episode, a new choice is made for it, and then for each shed owed (R95, R96). An answer after the trunk has left
SHEDDING makes no new choice (R97). -/
def Obligations.Shedding : Prop :=
  (∀ (t : Trunk) (s : State),
      let may (c : Channel) : Prop :=
        (s.chan c).trunk = some t ∧ isDriven (s.chan c).state = true ∧ (s.chan c).priority ≤ 6
      (∀ c, s.candidate t = some c → may c ∧ ∀ d, may d → (s.chan c).priority < (s.chan d).priority
        ∨ ((s.chan c).priority = (s.chan d).priority ∧ s.age c ≤ s.age d))
      ∧ (s.candidate t = none → ∀ c, ¬ may c)
      ∧ ∀ c x, (s.chan c).stamp = some x → s.age c = (2 ^ 32 + s.admissions.toNat - x.toNat) % 2 ^ 32)
    ∧ (∀ (t : Trunk) (last us : Nat) (s : State), s.inReset = false → (s.trunk t).state = some .SHEDDING →
      (s.trunk t).shedTimer = some us → (s.trunk t).lastShed = some last → (s.trunk t).shedInHand = none →
      exec (.shedIntervalExpiry t) s = .next (
        let h := (s.trunk t).heat
        if h < last then s.updTrunk t fun r => { r with shedTimer := some 20000 }
        else match s.candidate t with
          | none => s.updTrunk t fun r => { r with shedTimer := some 20000, lastShed := some h }
          | some c => (s.updTrunk t fun r => { r with
              shedTimer := some 20000, lastShed := some h, shedInHand := some ⟨c, h, true⟩ }).send (.shedClaim t c)))
    ∧ (∀ (t : Trunk) (s : State), s.inReset = false → (s.trunk t).state ≠ some .SHEDDING →
      exec (.shedIntervalExpiry t) s = .next s)
    ∧ (∀ (t : Trunk) (last us : Nat) (x : ShedInHand) (s : State), s.inReset = false → (s.trunk t).state = some .SHEDDING →
      (s.trunk t).shedTimer = some us → (s.trunk t).lastShed = some last → (s.trunk t).shedInHand = some x →
      exec (.shedIntervalExpiry t) s = .next (
        let h := (s.trunk t).heat
        if h < last then s.updTrunk t fun r => { r with shedTimer := some 20000 }
        else s.updTrunk t fun r => { r with shedTimer := some 20000, lastShed := some h, owed := r.owed ++ [h] }))
    ∧ ∀ (t : Trunk) (c : Channel) (heat : Nat) (current done : Bool) (s : State), s.inReset = false →
      (s.trunk t).shedInHand = some ⟨c, heat, current⟩ →
      let ended := (s.arrive (.shedAnswer t c done)).updTrunk t fun r => { r with shedInHand := none }
      let told := if done then
          ended.postHolder .budgetUnit c ⟨.SHED, .channel c, some (.shed .SHED), some (.heat heat)⟩ else ended
      ((s.trunk t).state ≠ some .SHEDDING → exec (.shedAnswer t c done) s = .next told)
      ∧ ((s.trunk t).state = some .SHEDDING → exec (.shedAnswer t c done) s = .next (
        match s.candidate t, (if done = false ∧ current = true then [heat] else []) ++ (s.trunk t).owed with
        | some d, h :: rest => (told.updTrunk t fun r => { r with
            shedInHand := some ⟨d, h, true⟩, owed := rest }).send (.shedClaim t d)
        | _, _ => told.updTrunk t fun r => { r with owed := [] }))

/-- The answer to a trip claim: taken, SHED with cause TRIP and the trip heat goes to the holder port; the last answer that an entry into
TRIPPED awaits lets the TRIPPED notices be posted, one to each port that is LIVE in the port view and holds a lease on the trunk
under its current epoch (R101, R102). An admission confirmation on a TRIPPED trunk sends a trip claim with the trip heat, and on
any other nothing (R67); that the trunk is the one that granted the admission, also for a channel moved to another since, is the model's
choice (log entry 44). That an answer counts for the oldest entry into TRIPPED that awaits the channel, wherever that stands among
the entries, and for none when none awaits it, is the model's choice (log entry 22). -/
def Obligations.TripAnswersAndConfirmation : Prop :=
  (∀ (t : Trunk) (c : Channel) (heat : Nat) (done : Bool) (s : State), s.inReset = false →
      let told (u : State) : State := if done then
        u.postHolder .budgetUnit c ⟨.SHED, .channel c, some (.shed .TRIP), some (.heat heat)⟩ else u
      exec (.tripClaimAnswer t c heat true done) s = .next (told (s.arrive (.tripClaimAnswer t c heat true done)))
      ∧ ((∀ x ∈ (s.trunk t).trips, c ∉ x.awaited) →
        exec (.tripClaimAnswer t c heat false done) s = .next (told (s.arrive (.tripClaimAnswer t c heat false done))))
      ∧ ∀ older h aw later, (s.trunk t).trips = older ++ ⟨h, aw⟩ :: later → (∀ x ∈ older, c ∉ x.awaited) → c ∈ aw →
        (aw.erase c ≠ [] → exec (.tripClaimAnswer t c heat false done) s = .next (
          (told (s.arrive (.tripClaimAnswer t c heat false done))).updTrunk t
            fun r => { r with trips := older ++ ⟨h, aw.erase c⟩ :: later }))
        ∧ (aw.erase c = [] → exec (.tripClaimAnswer t c heat false done) s = .next (
          let v := (told (s.arrive (.tripClaimAnswer t c heat false done))).updTrunk t fun r => { r with trips := older ++ later }
          v.setInFlight (v.inFlight ++ ((List.finRange 4).filter fun q => decide ((s.viewOf q).standing = .LIVE
            ∧ ∃ d, (s.chan d).trunk = some t ∧ s.holder d = some (.port q (s.viewOf q).epoch))).map fun q =>
              .noticeCopyTaken .budgetUnit q ⟨.TRIPPED, .trunk t, none, some (.heat h)⟩))))
    ∧ ∀ (t : Trunk) (c : Channel) (s : State), s.inReset = false →
      exec (.admissionConfirmation t c) s = .next (
        if (s.trunk t).state = some .TRIPPED then
          (s.arrive (.admissionConfirmation t c)).send (.tripClaim t c (s.trunk t).tripHeat true)
        else s.arrive (.admissionConfirmation t c))

/-! ### Reservations and trunk profiles (Chapter 1) -/

/-- An admission claim, its conditions in the order of R14: the trunk NORMAL, the reserved sum with the need within the rating, and for
a staged channel the precharge slot empty; the first that fails is answered and nothing changes. Granted, the reservation becomes the
need, the reserved sum rises by it, and a staged channel is named in the slot. A return claim: the reserved sum falls by the
reservation, the account is cleared, a slot that names the channel is emptied, with a service event for each; a reservation of 0 changes
nothing (R15, R18, R19). A completion lowering: the reservation falls from need to the declared current, and a slot that names the channel
is emptied, with a service event for each (R16, R18, R19). That return and lowering are commands of their own beside the Lease Manager's
change, that a lowering by itself has nothing to lower on a reservation of 0, and that it clears a raise with its mark, is the model's
reading (log entry 2, DEDUCED). -/
def Obligations.ReservationClaims : Prop :=
  (∀ (pass : Bool) (t : Trunk) (c : Channel) (need : Nat) (staged : Bool) (s : State), s.inReset = false →
     (s.acct c).charged = none → 0 < need →
     exec (.admissionClaim pass t c need staged) s = .next (
       let u := s.arrive (.admissionClaim pass t c need staged)
       let answer (why : Option AdmissionRefusal) : Instr :=
         if pass then .passAdmissionAnswer t c need why else .arrivalAdmissionAnswer t c need why
       match (s.trunk t).profile with
       | none => u.send (answer (some .notNormal))
       | some p =>
         if (s.trunk t).state ≠ some .NORMAL then u.send (answer (some .notNormal))
         else if p.rating < (s.trunk t).reserved + need then u.send (answer (some .noHeadroom))
         else if staged = true ∧ (s.trunk t).slot ≠ none then u.send (answer (some .slotOccupied))
         else ((u.updTrunk t fun r => { r with
             reserved := r.reserved + need, slot := if staged then some c else r.slot }).updAcct c fun a =>
               { a with reservation := need, charged := some t }).send (answer none)))
  ∧ ((∀ (c : Channel) (s : State), s.inReset = false →
         ((s.acct c).charged = none → exec (.returnClaim c) s = .next (s.arrive (.returnClaim c)))
         ∧ ∀ t, (s.acct c).charged = some t → exec (.returnClaim c) s = .next (
           let u := s.arrive (.returnClaim c)
           let v := ((u.updTrunk t fun r => { r with
               reserved := r.reserved - (s.acct c).reservation, slot := if r.slot = some c then none else r.slot }).updAcct c
                 fun _ => ⟨0, none, false, 0⟩).send (.serviceEvent t)
           if (s.trunk t).slot = some c then v.send (.serviceEvent t) else v))
       ∧ ∀ (c : Channel) (s : State), s.inReset = false →
         (∀ (t : Trunk) (l : Lease), (s.acct c).charged = some t → (s.chan c).lease = some l → 0 < l.declared →
           exec (.completionLowering c) s = .next (
             let u := s.arrive (.completionLowering c)
             let v := (u.updTrunk t fun r => { r with
               reserved := r.reserved - (s.acct c).reservation + l.declared
               slot := if r.slot = some c then none else r.slot }).updAcct c
                 fun a => { a with reservation := l.declared, charged := some t, overdrawn := false }
             let w := if l.declared < (s.acct c).reservation then v.send (.serviceEvent t) else v
             if (s.trunk t).slot = some c then w.send (.serviceEvent t) else w))
         ∧ ((s.acct c).charged = none → exec (.completionLowering c) s = .next (s.arrive (.completionLowering c))))

/-- A trunk profile claim replaces the profile as a whole and never changes H. A write, and an apply to an unconfigured trunk, derive the
state: TRIPPED with the latch set or H at HARD, else SHEDDING, WARM or NORMAL by the levels, and another state than before is entered with
its actions; the same state is kept with its bookkeeping. An apply to a configured trunk keeps state, latch and shed bookkeeping. An
apply with a rating below the reserved sum is refused and changes nothing; a taken one is a service event (R4, R5, R93, R100). The index
order of the trip claims and of the notices in `entryMessages` is the model's choice (log entry 30). -/
def Obligations.TrunkProfileClaim : Prop :=
  ∀ (t : Trunk) (new : TrunkProfile) (o : Origin) (s : State), s.inReset = false → InTurn s (.trunkProfileClaim o t new) →
    let r := s.trunk t
    let derived : TrunkState :=
      if r.latch = true ∨ 1310720 ≤ r.heat then .TRIPPED
      else if 1048576 ≤ r.heat then .SHEDDING
      else if 524288 ≤ r.heat then .WARM
      else .NORMAL
    let replaced : TrunkRec := { r with profile := some new }
    let flight := s.inFlight.erase (.trunkProfileClaim o t new)
    let derives (u : State) (answers : List Instr) : Prop :=
      u = { s with trunks := u.trunks, inFlight := u.inFlight, drivers := u.drivers }
        ∧ (∀ v, v ≠ t → u.trunk v = s.trunk v)
        ∧ (r.state = some derived → u.trunk t = { replaced with latch := decide (derived = .TRIPPED) }
          ∧ u.drivers = s.drivers ∧ u.inFlight = flight ++ answers)
        ∧ (r.state ≠ some derived → u.trunk t = enteredTrunk s t replaced derived
          ∧ (∀ c, u.driver c = enteredDrivers s t derived c) ∧ u.inFlight = flight ++ entryMessages s t replaced derived ++ answers)
        ∧ (u.trunk t).profile = some new ∧ (u.trunk t).heat = r.heat ∧ (u.trunk t).state = some derived
        ∧ ((u.trunk t).latch = true ↔ derived = .TRIPPED)
    (∀ q, o = .write q → ∃ u, exec (.trunkProfileClaim o t new) s = .next u ∧ derives u [.responseReady q .OK []])
      ∧ (o = .apply → new.rating < r.reserved → exec (.trunkProfileClaim o t new) s = .next
        ((s.arrive (.trunkProfileClaim o t new)).send (.applyAnswer false)))
      ∧ (o = .apply → r.reserved ≤ new.rating → r.profile = none → ∃ u, exec (.trunkProfileClaim o t new) s = .next u
        ∧ derives u [.serviceEvent t, .applyAnswer true])
      ∧ (o = .apply → r.reserved ≤ new.rating → r.profile.isSome = true → exec (.trunkProfileClaim o t new) s = .next
        ((((s.arrive (.trunkProfileClaim o t new)).updTrunk t fun x => { x with profile := some new }).send
          (.serviceEvent t)).send (.applyAnswer true)))

/-- TRUNK CLEAR, its checks in the order of R104: a trunk index above 2 gives BAD_ARGUMENT; a sender in no access mask of a channel whose
profile names the trunk NOT_PERMITTED; a state other than TRIPPED STATE with the state; H at COOL or above NOT_COOL with H;
otherwise the latch is cleared, the state is NORMAL, the answer OK with H, a service event is sent and CLEARED goes to each LIVE port
holding a lease on the trunk (R105). -/
def Obligations.TrunkClear : Prop :=
  (∀ (r : Req) (b : Byte) (s : State), Passed s (.trunkClear r b) r → 3 ≤ b.toNat →
      exec (.trunkClear r b) s = .next ((taken s (.trunkClear r b) r).respond r.port .BAD_ARGUMENT []))
    ∧ ∀ (r : Req) (t : Trunk) (s : State),
      let i := Instr.trunkClear r (BitVec.ofNat 8 t.val)
      Passed s i r → exec i s = .next (
        let u := taken s i r
        let h := (s.trunk t).heat
        if ¬ ∃ c, (s.profile c).trunk = some t ∧ s.permits c r.port = true then u.respond r.port .NOT_PERMITTED []
        else if (s.trunk t).state ≠ some .TRIPPED then u.respond r.port .STATE [trunkStateByte (s.trunk t).state]
        else if 262144 ≤ h then u.respond r.port .NOT_COOL (nat24 h)
        else
          let v := ((u.updTrunk t fun x => { x with latch := false, state := some .NORMAL }).respond r.port .OK (nat24 h)).send
            (.serviceEvent t)
          v.setInFlight (v.inFlight ++ ((List.finRange 4).filter fun q => decide ((s.viewOf q).standing = .LIVE
            ∧ ∃ d, (s.chan d).trunk = some t ∧ s.holder d = some (.port q (s.viewOf q).epoch))).map fun q =>
              .noticeCopyTaken .budgetUnit q ⟨.CLEARED, .trunk t, none, some (.heat h)⟩))

/-! ### Staged energizing (Chapter 4) -/

/-- A start fills the run record of the channel's trunk: PROBE, one pulse issued, the period timer at the probe period, and a pulse
command (R78). At the expiry of its period a run in PROBE with no claim pending sends an advance claim when Vout × 16 ≥ n × Vfeed on
the latest samples, else a failure claim when the pulse limit is reached, else the next pulse; a claim sent stops the timer (R80). A
taken advance claim puts the run in FILL with the fill timer, the first fill pulse and the fill period (R81). Starts and answers are
taken in the order the Lease Manager sent them (R77). An advance answer changes nothing when no run of its channel has that claim pending:
the abort before it has emptied the record (R77, R87), or a later run stands, for which this is the model's choice (log entry 40). Also the
model's choice: the trunk and the precharge fields are those the channel has when the start, expiry or answer is taken; where it has none,
the start fills no record and the expiry and the answer change nothing (log entry 42). -/
def Obligations.ProbePhase : Prop :=
  (∀ (t : Trunk) (c : Channel) (p : Precharge) (s : State), s.inReset = false → (s.profile c).precharge = some p →
    ((s.chan c).trunk = some t → InTurn s (.start c) → exec (.start c) s = .next (
      ((s.arrive (.start c)).setRun t (some ⟨c, .PROBE 1, none, some p.probePeriod⟩)).send (.pulseCommand c p.probeOn)))
    ∧ (∀ n us, s.run t = some ⟨c, .PROBE n, none, some us⟩ → exec (.probePeriodExpiry t) s = .next (
      if p.target * s.sense.vfeed[t] ≤ s.sense.vout[c] * 16 then
        (s.setRun t (some ⟨c, .PROBE n, some .ADVANCE, none⟩)).send (.advanceClaim c)
      else if p.pulseLimit ≤ n then
        (s.setRun t (some ⟨c, .PROBE n, some .FAILURE, none⟩)).send (.prechargeFailureClaim c .PRECHARGE_SHORT)
      else (s.setRun t (some ⟨c, .PROBE (n + 1), none, some p.probePeriod⟩)).send (.pulseCommand c p.probeOn)))
    ∧ ((∀ d n us, s.run t ≠ some ⟨d, .PROBE n, none, some us⟩) → exec (.probePeriodExpiry t) s = .next s)
    ∧ (∀ phase us, RunOf s t c ⟨c, phase, some .ADVANCE, us⟩ → InTurn s (.advanceAnswer c true) → exec (.advanceAnswer c true) s = .next (
      ((s.arrive (.advanceAnswer c true)).setRun t (some ⟨c, .FILL (some p.fillTimeout), none, some p.fillPeriod⟩)).send
        (.pulseCommand c p.fillOn))))
    ∧ ∀ (c : Channel) (done : Bool) (s : State), s.inReset = false →
      (InTurn s (.advanceAnswer c done) →
        done = false ∨ (s.profile c).precharge = none ∨ (∀ u r, s.run u = some r → r.channel = c → r.pending ≠ some .ADVANCE) →
        exec (.advanceAnswer c done) s = .next (s.arrive (.advanceAnswer c done)))
      ∧ (InTurn s (.start c) → (s.chan c).trunk = none ∨ (s.profile c).precharge = none →
        exec (.start c) s = .next (s.arrive (.start c)))
      ∧ ∀ t n us, (s.profile c).precharge = none → s.run t = some ⟨c, .PROBE n, none, some us⟩ →
        exec (.probePeriodExpiry t) s = .next s

/-- At the expiry of its period a run in FILL with no claim pending issues the next fill pulse (R82). An output-voltage sample of its
channel with Vfeed − Vout below 100 mV sends the completion claim and stops both timers; any other sample is dropped (R83). At the
expiry of the fill timer, with no claim pending, a failure claim with PRECHARGE_TIMEOUT is sent and both timers stop (R84). The precharge
fields are those the channel has when the period's expiry is taken; where it has none the expiry changes nothing: the model's choice (log
entry 42). -/
def Obligations.FillPhase : Prop :=
  ∀ (t : Trunk) (c : Channel) (p : Precharge) (s : State), s.inReset = false →
    (∀ timer us, (s.profile c).precharge = some p → s.run t = some ⟨c, .FILL timer, none, some us⟩ →
      exec (.fillPeriodExpiry t) s = .next (
        (s.setRun t (some ⟨c, .FILL timer, none, some p.fillPeriod⟩)).send (.pulseCommand c p.fillOn)))
    ∧ (∀ timer us, (s.profile c).precharge = none → s.run t = some ⟨c, .FILL timer, none, some us⟩ →
      exec (.fillPeriodExpiry t) s = .next s)
    ∧ ((∀ d timer us, s.run t ≠ some ⟨d, .FILL timer, none, some us⟩) → exec (.fillPeriodExpiry t) s = .next s)
    ∧ (∀ timer us vout, RunOf s t c ⟨c, .FILL timer, none, us⟩ → exec (.outputVoltageSample c vout) s = .next (
      let u := s.arrive (.outputVoltageSample c vout)
      if s.sense.vfeed[t] < vout + 100 then
        (u.setRun t (some ⟨c, .FILL none, some .COMPLETION, none⟩)).send (.completionClaim c)
      else u))
    ∧ (∀ vout, (∀ u timer us, s.run u ≠ some ⟨c, .FILL timer, none, us⟩) →
      exec (.outputVoltageSample c vout) s = .next (s.arrive (.outputVoltageSample c vout)))
    ∧ (∀ us period, s.run t = some ⟨c, .FILL (some us), none, period⟩ → exec (.fillTimerExpiry t) s = .next (
      (s.setRun t (some ⟨c, .FILL none, some .FAILURE, none⟩)).send (.prechargeFailureClaim c .PRECHARGE_TIMEOUT)))
    ∧ ((∀ d us period, s.run t ≠ some ⟨d, .FILL (some us), none, period⟩) → exec (.fillTimerExpiry t) s = .next s)

/-- The end of a run: a taken completion answer empties the run record and posts ENERGIZED with the declared current to the holder port
(R85); the answer to a failure claim, taken or ignored, empties it (R86); an abort for its channel empties it in every phase (R87).
An ignored completion answer, and an abort for a channel with no run, change nothing; so does an answer when no run of its channel has
that claim pending: the abort before it has emptied the record (R77, R86, R87), or a later run stands, for which this is the model's choice
(log entry 40). Each is taken in its turn (R77). The settling of a completion: before the Lease Manager takes a claim or request that
nothing holds back, the taken completion answers in flight for the channels that it concerns are taken, and before these what is taken
before them, each in its turn, and then the claim or request is taken as they left the part; so ENERGIZED is posted before what follows
(R88, R169). That these answers are taken in the same step is the model's reading (log entry 5, DEDUCED). -/
def Obligations.RunEnds : Prop :=
  (∀ (t : Trunk) (c : Channel) (r : Run) (done : Bool) (s : State), s.inReset = false →
    (RunOf s t c r → r.pending = some .COMPLETION → InTurn s (.completionAnswer c true) → exec (.completionAnswer c true) s = .next (
      ((s.arrive (.completionAnswer c true)).setRun t none).postHolder .leaseManager c
        ⟨.ENERGIZED, .channel c, none, some (.current (s.declared c))⟩))
    ∧ (InTurn s (.completionAnswer c false) → exec (.completionAnswer c false) s = .next (s.arrive (.completionAnswer c false)))
    ∧ (RunOf s t c r → r.pending = some .FAILURE → InTurn s (.failureAnswer c done) →
      exec (.failureAnswer c done) s = .next ((s.arrive (.failureAnswer c done)).setRun t none))
    ∧ (RunOf s t c r → InTurn s (.abort c) → exec (.abort c) s = .next ((s.arrive (.abort c)).setRun t none))
    ∧ ((∀ u, (s.run u).map (·.channel) ≠ some c) → InTurn s (.abort c) → exec (.abort c) s = .next (s.arrive (.abort c)))
    ∧ ((∀ u x, s.run u = some x → x.channel = c → x.pending ≠ some .COMPLETION) → InTurn s (.completionAnswer c done) →
      exec (.completionAnswer c done) s = .next (s.arrive (.completionAnswer c done)))
    ∧ ((∀ u x, s.run u = some x → x.channel = c → x.pending ≠ some .FAILURE) → InTurn s (.failureAnswer c done) →
      exec (.failureAnswer c done) s = .next (s.arrive (.failureAnswer c done))))
    ∧ (∀ (i : Instr) (first : List Instr) (s : State), encodeRequest i = none → (leaseChannel i ≠ none ∨ sessionPort i ≠ none) →
      s.inReset = false → InTurn s i → s.leaseBlocked i = false → TakenFirst s i (s.arrive i).inFlight first →
      ∃ v, TakenInTurn first (s.arrive i) v ∧ exec i s = .next (match i with
        | .admitClaim .. => (leaseTake i v).releaseHeldBack
        | _ => leaseTake i v))
    ∧ ∀ (i : Instr) (r : Req) (first : List Instr) (s : State), (leaseRequestOf i ≠ none ∨ ∃ ch, i = .readChannel r ch) →
      Passed s i r → s.leaseBlocked i = false → TakenFirst s i s.inFlight first →
      ∃ v, TakenInTurn first (taken s i r) v ∧ exec i s = .next (leaseTake i v)

/-! ### Samples, pulses and shorts (Chapter 6) -/

/-- A current sample is the mean of the sensed current over the 1 ms period, here given in µA over equal parts of it (log entry 19), a
reverse current counted as 0, in whole mA rounded down, saturating at 65,535 (R109). An output-sampling instant samples every feed, and
every output without a pulse in progress, which goes to the Staged Energize Unit; the sample of an output with a pulse in progress is
deferred to the pulse's end (R110, R111). A negative voltage gives 0. The model's choices: the feeds of an instant stand before its output
samples (log entry 34); a sample still deferred for a pulse that was cut short or ran on into ON is taken as one with the sample of the
instant (log entry 32). -/
def Obligations.Samples : Prop :=
  ∀ (sensed : Vector (List Int) 12) (vo : Vector Int 12) (vf : Vector Int 3) (s : State), s.inReset = false →
    (∃ u, exec (.currentSample sensed) s = .next u
      ∧ u = { s with sense := { s.sense with
          current := sensed.map fun parts => min 65535 ((parts.map fun x => (max 0 x).toNat).sum / (1000 * parts.length))
          isPin := u.sense.isPin, currentTimer := 1000 } }
      ∧ ∀ c : Channel, u.sense.isPin[c] = (sensed[c].getLast?).getD s.sense.isPin[c])
    ∧ ∃ u, exec (.sampleInstant vo vf) s = .next u
      ∧ u = { s with sense := u.sense, inFlight := s.inFlight
          ++ (channelsWhere fun c => (s.driver c).pulse.isNone).map fun c =>
            .outputVoltageSample c (min 65535 (vo[c] / 1000).toNat) }
      ∧ u.sense.current = s.sense.current ∧ u.sense.voltageTimer = 250 ∧ u.sense.currentTimer = s.sense.currentTimer
      ∧ u.sense.voPin = vo ∧ u.sense.vfPin = vf ∧ u.sense.isPin = s.sense.isPin
      ∧ (∀ t : Trunk, u.sense.vfeed[t] = min 65535 (vf[t] / 1000).toNat)
      ∧ ∀ c : Channel,
        ((s.driver c).pulse = none →
          u.sense.vout[c] = min 65535 (vo[c] / 1000).toNat ∧ u.sense.deferred[c] = false)
        ∧ ((s.driver c).pulse ≠ none → u.sense.vout[c] = s.sense.vout[c] ∧ u.sense.deferred[c] = true)

/-- A pulse command is carried out while the channel is in PROBE or FILL, neither short hold nor trip hold is set and no pulse is in
progress, and dropped otherwise; its end opens the switch and takes a deferred sample (R110, R115). The switch is closed exactly in ON, or
during a pulse in progress in PROBE or FILL, while no hold is set (R114, R116). A sensed current above the
hard-short limit at an armed comparator (drive on or pulsing, no hold set) sets the short hold, ends a pulse and is passed to the
Lease Manager; at or below it, or unarmed, nothing happens (R112, R113). The model's choices: a sample deferred for a pulse that was cut
short or ran on into the steady drive is taken by the PULSE_END that follows, unless an instant takes it before (log entry 32); the comparator judges the level that
SHORT_DETECTION carries, also one that stood above the limit before the arming, which R112 leaves open (log entry 41); µV and mA of
the operands (log entry 19). -/
def Obligations.PulsesAndShorts : Prop :=
  ∀ (c : Channel) (s : State), s.inReset = false →
    let held : Prop := (s.driver c).shortHold = true ∨ ∃ t, (s.profile c).trunk = some t ∧ (s.trunk t).state = some .TRIPPED
    (∀ onTime, (isPulsing (s.chan c).state = true ∧ ¬ held ∧ (s.driver c).pulse = none →
        exec (.pulseCommand c onTime) s = .next ((s.arrive (.pulseCommand c onTime)).updDriver c
          fun d => { d with pulse := some onTime }))
      ∧ (isPulsing (s.chan c).state = false ∨ held ∨ (s.driver c).pulse ≠ none →
        exec (.pulseCommand c onTime) s = .next (s.arrive (.pulseCommand c onTime))))
    ∧ (∀ vo : Int,
      let ended := (s.updDriver c fun d => { d with pulse := none }).updSense fun b => { b with
        voPin := updAt b.voPin c fun _ => vo }
      (s.sense.deferred[c] = true → exec (.pulseEnd c vo) s = .next (
        (ended.updSense fun b => { b with
          vout := updAt b.vout c fun _ => min 65535 (vo / 1000).toNat
          deferred := updAt b.deferred c fun _ => false }).send (.outputVoltageSample c (min 65535 (vo / 1000).toNat))))
      ∧ (s.sense.deferred[c] = false → (s.driver c).pulse ≠ none → exec (.pulseEnd c vo) s = .next ended)
      ∧ (s.sense.deferred[c] = false → (s.driver c).pulse = none → exec (.pulseEnd c vo) s = .next s))
    ∧ ∀ current : Nat,
      (isDriven (s.chan c).state = true ∧ ¬ held ∧ (s.profile c).limit < current →
        exec (.shortDetection c current) s = .next ((s.updDriver c fun _ => ⟨none, true⟩).send (.shortDetectionTaken c)))
      ∧ (isDriven (s.chan c).state = false ∨ held ∨ current ≤ (s.profile c).limit →
        exec (.shortDetection c current) s = .next s)
      ∧ (s.switchClosed c = true ↔
        ¬ held ∧ ((s.chan c).state = .ON ∨ isPulsing (s.chan c).state = true ∧ (s.driver c).pulse ≠ none))

/-! ### Demand lines (Chapter 7) -/

/-- A raw level change restarts the 2 ms debounce timer, or discards it when the level is back at the debounced one; the timer stands while
reset is held (R119; that a level is then noted all the same, log entry 23). At its expiry the raw level becomes the debounced level. In SERVICE a rise of an ASSIST line with no lease and no
claim in hand sends a line claim (R121), a fall with the lease held and no claim in hand a line release, and otherwise clears the
overruled flag (R123); a rise of a VETO line sends a resume claim unless another line withholds the channel (R127), a fall an inhibit
claim (R126). In COMMISSION nothing more happens (R120). -/
def Obligations.LineLevels : Prop :=
  (∀ (l : Line) (high : Bool) (s : State), exec (.rawLevelChange l high) s = .next (s.updLine l fun r =>
      if r.raw = high then r
      else { r with
        raw := high
        debounce := if s.inReset = true then r.debounce else if r.level = some high then none else some 2000 }))
    ∧ ∀ (l : Line) (s : State), s.inReset = false →
      let r := s.line l
      let u := s.updLine l fun r => { r with level := some r.raw, debounce := none }
      (r.debounce = none → exec (.debounceExpiry l) s = .next s)
      ∧ (r.debounce ≠ none →
        (s.config.phase = .COMMISSION ∨ r.level = some r.raw ∨ (r.level = none ∧ r.raw = false) →
          exec (.debounceExpiry l) s = .next u)
        ∧ (s.config.phase = .SERVICE → r.raw = true → r.level ≠ some true →
          (r.binding = .NONE → exec (.debounceExpiry l) s = .next u)
          ∧ (∀ c cur prio, r.binding = .ASSIST c cur prio →
            (r.leaseHeld = true ∨ r.claim ≠ none → exec (.debounceExpiry l) s = .next u)
            ∧ (r.leaseHeld = false → r.claim = none → exec (.debounceExpiry l) s = .next (
              (u.updLine l fun r => { r with claim := some .CLAIM }).send (.lineClaim l c cur prio))))
          ∧ ∀ c, r.binding = .VETO c →
            (VetoedByAnother s l c → exec (.debounceExpiry l) s = .next u)
            ∧ (¬ VetoedByAnother s l c → exec (.debounceExpiry l) s = .next (u.send (.resumeClaim l c))))
        ∧ (s.config.phase = .SERVICE → r.raw = false → r.level = some true →
          (r.binding = .NONE → exec (.debounceExpiry l) s = .next u)
          ∧ (∀ c cur prio, r.binding = .ASSIST c cur prio →
            (r.leaseHeld = true ∧ r.claim = none → exec (.debounceExpiry l) s = .next (
              (u.updLine l fun r => { r with claim := some .RELEASE }).send (.lineRelease l c)))
            ∧ (r.leaseHeld = false ∨ r.claim ≠ none → exec (.debounceExpiry l) s = .next (
              u.updLine l fun r => { r with overruled := false })))
          ∧ ∀ c, r.binding = .VETO c → exec (.debounceExpiry l) s = .next (u.send (.inhibitClaim l c))))

/-- The answers the Line Unit takes. A taken line claim gives the line its lease, clears the overruled flag and sends ENERGIZE, with a line
release behind it when the line has fallen; a refused one overrules a high line (R121, R123). The answer to a line release ends the
lease, and a high line claims again (R123). The response to an ENERGIZE after a resume posts RESUMED to the holder port (R127). The
end of a line's lease overrules a high line (R124). -/
def Obligations.LineAnswers : Prop :=
  (∀ (l : Line) (c : Channel) (cur prio : Nat) (kind : LineClaimKind) (done : Bool) (s : State), s.inReset = false →
      (s.line l).binding = .ASSIST c cur prio →
      let u := s.arrive (.lineClaimAnswer l kind done)
      let high : Bool := decide ((s.line l).level = some true)
      ((s.line l).claim ≠ some kind → exec (.lineClaimAnswer l kind done) s = .next u)
      ∧ ((s.line l).claim = some kind → exec (.lineClaimAnswer l kind done) s = .next (
        match kind, done with
        | .CLAIM, true =>
          let v := (u.updLine l fun r => { r with leaseHeld := true, claim := none, overruled := false }).send
            (.lineEnergize c (.line l) false)
          if high then v else (v.updLine l fun r => { r with claim := some .RELEASE }).send (.lineRelease l c)
        | .CLAIM, false => u.updLine l fun r => { r with claim := none, overruled := r.overruled || high }
        | .RELEASE, _ =>
          let v := u.updLine l fun r => { r with leaseHeld := false, claim := none }
          if high then (v.updLine l fun r => { r with claim := some .CLAIM }).send (.lineClaim l c cur prio) else v)))
    ∧ (∀ (c : Channel) (resumed : Bool) (st : Status) (x : ChanState) (s : State), s.inReset = false →
      exec (.lineEnergizeResponse c resumed st x) s = .next (
        let u := s.arrive (.lineEnergizeResponse c resumed st x)
        if resumed then u.postHolder .lineUnit c ⟨.RESUMED, .channel c, some (.status st), some (.state x)⟩ else u))
    ∧ ∀ (l : Line) (s : State), s.inReset = false →
      ((∃ c cur prio, (s.line l).binding = .ASSIST c cur prio) →
        exec (.lineLeaseEnded l) s = .next ((s.arrive (.lineLeaseEnded l)).updLine l fun r => { r with
          leaseHeld := false, overruled := r.overruled || decide (r.level = some true) }))
      ∧ ((∀ c cur prio, (s.line l).binding ≠ .ASSIST c cur prio) →
        exec (.lineLeaseEnded l) s = .next (s.arrive (.lineLeaseEnded l)))

/-- At a free report every ASSIST line bound to the channel that is overruled and high, with no claim in hand, sends its line claim (R122);
at the report of the SERVICE phase every high ASSIST line does, with no lease held and no claim in hand (R120). A binding claim is refused while the line
holds a lease or has a claim in hand; taken, the binding is replaced and the overruled flag cleared, and in SERVICE first a low VETO line
lets its old channel resume unless another line withholds it, then a low new VETO line inhibits its channel and a high new ASSIST line
claims it (R129). That a refused binding claim of a direct write is answered HELD is the model's choice (log entry 14). Binding claims are
taken in the order sent (log entry 3). -/
def Obligations.ReportsAndBindingClaim : Prop :=
  (∀ s : State, s.inReset = false →
      let claims (may : LineRec → Channel → Bool) (i : Instr) (u : State) : Prop :=
        u = { s with lines := u.lines, inFlight := s.inFlight.erase i ++ (List.finRange 4).filterMap fun l =>
            match (s.line l).binding with
            | .ASSIST c cur prio =>
              if may (s.line l) c = true ∧ (s.line l).level = some true ∧ (s.line l).claim = none then
                some (.lineClaim l c cur prio) else none
            | _ => none }
          ∧ ∀ l, u.line l = match (s.line l).binding with
            | .ASSIST c _ _ =>
              if may (s.line l) c = true ∧ (s.line l).level = some true ∧ (s.line l).claim = none then
                { s.line l with claim := some .CLAIM } else s.line l
            | _ => s.line l
      (∀ c, ∃ u, exec (.freeReport c) s = .next u ∧ claims (fun r d => r.overruled && decide (d = c)) (.freeReport c) u)
        ∧ ∃ u, exec .servicePhaseReport s = .next u ∧ claims (fun r _ => !r.leaseHeld) .servicePhaseReport u)
    ∧ ∀ (o : Origin) (l : Line) (new : Binding) (s : State), s.inReset = false → InTurn s (.bindingClaim o l new) →
      let answer (u : State) (done : Bool) : State := match o with
        | .write p => u.respond p (if done then .OK else .HELD) []
        | .apply => u.send (.applyAnswer done)
      let arrived := s.arrive (.bindingClaim o l new)
      ((s.line l).leaseHeld = true ∨ (s.line l).claim ≠ none →
        exec (.bindingClaim o l new) s = .next (answer arrived false))
      ∧ ((s.line l).leaseHeld = false → (s.line l).claim = none →
        let bound := arrived.updLine l fun r => { r with binding := new, overruled := false }
        let high : Prop := (s.line l).level = some true
        (s.config.phase = .COMMISSION → exec (.bindingClaim o l new) s = .next (answer bound true))
        ∧ (s.config.phase = .SERVICE → ∃ v,
          ((∀ c, (s.line l).binding = .VETO c → ¬ high → ¬ VetoedByAnother s l c → v = bound.send (.resumeClaim l c))
            ∧ ((∀ c, (s.line l).binding = .VETO c → high ∨ VetoedByAnother s l c) → v = bound))
          ∧ exec (.bindingClaim o l new) s = .next (answer (match new with
            | .NONE => v
            | .VETO c => if (s.line l).level = some true then v else v.send (.inhibitClaim l c)
            | .ASSIST c cur prio => if (s.line l).level = some true then
                (v.updLine l fun r => { r with claim := some .CLAIM }).send (.lineClaim l c cur prio) else v) true)))

/-! ### Commissioning and concurrence (Chapter 8) -/

/-- The direct writes and CLOSE COMMISSIONING in SERVICE phase, and PROPOSE in COMMISSION, are answered WRONG_PHASE; in COMMISSION a write with a field out of range or
step is answered BAD_ARGUMENT, and any other replaces the Configuration Unit's copy and passes the claim to the owner (R131). CLOSE
COMMISSIONING with a channel whose profile names an unconfigured trunk is answered INCOMPLETE with the lowest such channel and its trunk;
otherwise the phase becomes SERVICE, the Line Unit is told and the answer is OK (R136). A write whose claim is still in flight is first
carried out by its owner, in the order sent, so it counts in the check (R130, R136; log entry 35). Behind session reports of its port in
flight each is judged once they are taken (R145, R154; log entry 12). -/
def Obligations.WritesAndClose : Prop :=
  (∀ (i : Instr) (r : Req) (s : State), Passed s i r → NoReports s r.port →
      (i = .closeCommissioning r ∨ (∃ b, i = .trunkProfileWrite r b) ∨ (∃ b, i = .channelProfileWrite r b)
        ∨ ∃ b, i = .lineBindingWrite r b) ∧ s.config.phase = .SERVICE
      ∨ (∃ b, i = .propose r b) ∧ s.config.phase = .COMMISSION →
      exec i s = .next ((taken s i r).respond r.port .WRONG_PHASE []))
    ∧ (∀ (r : Req) (b : TrunkBlock) (s : State), s.config.phase = .COMMISSION →
      let i := Instr.trunkProfileWrite r b
      Passed s i r → NoReports s r.port → exec i s = .next (match trunkProfileOf b with
        | none => (taken s i r).respond r.port .BAD_ARGUMENT []
        | some (t, p) => ((taken s i r).updConfig fun g => { g with
            trunkProfiles := updAt g.trunkProfiles t fun _ => some p }).send (.trunkProfileClaim (.write r.port) t p)))
    ∧ (∀ (r : Req) (b : ChannelBlock) (s : State), s.config.phase = .COMMISSION →
      let i := Instr.channelProfileWrite r b
      Passed s i r → NoReports s r.port → exec i s = .next (match channelProfileOf b with
        | none => (taken s i r).respond r.port .BAD_ARGUMENT []
        | some (c, p) => ((taken s i r).updConfig fun g => { g with
            channelProfiles := updAt g.channelProfiles c fun _ => p }).send (.channelProfileClaim (.write r.port) c p)))
    ∧ (∀ (r : Req) (b : LineBlock) (s : State), s.config.phase = .COMMISSION →
      let i := Instr.lineBindingWrite r b
      Passed s i r → NoReports s r.port → exec i s = .next (match lineBindingOf b with
        | none => (taken s i r).respond r.port .BAD_ARGUMENT []
        | some (l, x) => ((taken s i r).updConfig fun g => { g with
            bindings := updAt g.bindings l fun _ => x }).send (.bindingClaim (.write r.port) l x)))
    ∧ (∀ (i : Instr) (r : Req) (s : State), i = .closeCommissioning r ∨ (∃ b, i = .trunkProfileWrite r b)
        ∨ (∃ b, i = .channelProfileWrite r b) ∨ (∃ b, i = .lineBindingWrite r b) → Passed s i r → BehindReports s i r)
    ∧ ∀ (r : Req) (s : State), s.config.phase = .COMMISSION →
      let i := Instr.closeCommissioning r
      let fails (v : State) (c : Channel) (t : Trunk) : Prop := (v.profile c).trunk = some t ∧ (v.trunk t).profile = none
      Passed s i r → NoReports s r.port → ∀ v : State, TakenInTurn (s.inFlight.filter isWriteClaim) (taken s i r) v →
        (∀ c t, fails v c t → (∀ d u, fails v d u → c ≤ d) →
          exec i s = .next (v.respond r.port .INCOMPLETE [BitVec.ofNat 8 c.val, BitVec.ofNat 8 t.val]))
        ∧ ((∀ c t, ¬ fails v c t) → exec i s = .next (((v.updConfig fun g => { g with phase := .SERVICE }).send
            .servicePhaseReport).respond r.port .OK []))

/-- PROPOSE in SERVICE phase: a field out of range or step gives BAD_ARGUMENT, a full slot SLOT_BUSY; otherwise the slot holds the proposal,
OPEN for 250 ms, under the counter's number, the counter increases by 1, from 65,535 to 1, the answer is OK with the number, and
PROPOSAL goes to every other LIVE port (R138, R139). The blocks of the four kinds are in range by Tables 8-2, 8-3, 4-1 and 8-4 and R73, the
target of RELEASE LOCKOUT is a channel 0 to 11, and each field stands for the quantity of its step. Behind session reports of its port in
flight it is judged once they are taken (R145, R154; log entry 12). -/
def Obligations.ProposeRequest : Prop :=
  (∀ (r : Req) (b : ProposeBlock) (s : State),
      let i := Instr.propose r b
      Passed s i r → NoReports s r.port → s.config.phase = .SERVICE → exec i s = .next (
        match proposalOf b with
        | none => (taken s i r).respond r.port .BAD_ARGUMENT []
        | some body =>
          if s.config.slot ≠ none then (taken s i r).respond r.port .SLOT_BUSY []
          else
            let n := s.config.counter
            toOthers (((taken s i r).updConfig fun g => { g with
                slot := some ⟨.OPEN 250000, n, r.port, body⟩
                counter := if n = 65535#16 then 1#16 else n + 1#16 }).respond r.port .OK (be16 n)) r.port
              ⟨.PROPOSAL, .proposal n, some (.kind body.kindOf), some (.port r.port)⟩))
    ∧ (∀ (r : Req) (b : ProposeBlock) (s : State), Passed s (.propose r b) r → BehindReports s (.propose r b) r)
    ∧ (∀ (b : TrunkBlock) (t : Trunk) (p : TrunkProfile), trunkProfileOf b = some (t, p) ↔
      b.trunk.toNat = t.val ∧ p = ⟨100 * b.rating.toNat, b.tNom.toNat, b.k.toNat, 10 * b.margin.toNat⟩
        ∧ 1000 ≤ p.rating ∧ p.rating ≤ 250000 ∧ 10 ≤ p.tNom ∧ 4 ≤ p.k ∧ p.k ≤ 16 ∧ 10 ≤ p.margin ∧ p.margin ≤ 100)
    ∧ (∀ (b : ProposeBlock) (body : ProposalBody), proposalOf b = some body ↔
      match b, body with
      | .trunk x, .trunk t p => trunkProfileOf x = some (t, p)
      | .channel x, .channel c p => channelProfileOf x = some (c, p)
      | .line x, .line l y => lineBindingOf x = some (l, y)
      | .lockout ch, .lockout c => ch.toNat = c.val
      | _, _ => False)
    ∧ (∀ (b : ChannelBlock) (c : Channel) (p : ChannelProfile), channelProfileOf b = some (c, p) ↔
      b.channel.toNat = c.val ∧ (b.trunk.toNat = match p.trunk with | some t => t.val | none => 3)
        ∧ b.mask.toNat = p.mask.toNat ∧ p.limit = 100 * b.limit.toNat ∧ 1000 ≤ p.limit ∧ p.limit ≤ 65500
        ∧ match b.precharge, p.precharge with
          | none, none => True
          | some x, some y => prechargeOf x = some y
          | _, _ => False)
    ∧ (∀ (b : PrechargeBlock) (p : Precharge), prechargeOf b = some p ↔
      p = ⟨100 * b.allowance.toNat, 500 * b.probePeriod.toNat, b.probeOn.toNat, b.pulseLimit.toNat, b.target.toNat,
          50 * b.fillPeriod.toNat, b.fillOn.toNat, 10000 * b.fillTimeout.toNat⟩
        ∧ 100 ≤ p.allowance ∧ p.allowance ≤ 65500 ∧ 2000 ≤ p.probePeriod ∧ p.probePeriod ≤ 8000 ∧ 1 ≤ p.probeOn
        ∧ 4 ≤ p.pulseLimit ∧ p.pulseLimit ≤ 40 ∧ 1 ≤ p.target ∧ p.target ≤ 15 ∧ 50 ≤ p.fillPeriod ∧ p.fillPeriod ≤ 4000
        ∧ 1 ≤ p.fillOn ∧ p.fillOn < p.fillPeriod ∧ 10000 ≤ p.fillTimeout)
    ∧ ∀ (b : LineBlock) (l : Line) (x : Binding), lineBindingOf b = some (l, x) ↔ b.line.toNat = l.val ∧
      match b.body, x with
      | .NONE, .NONE => True
      | .VETO ch, .VETO c => ch.toNat = c.val
      | .ASSIST ch w pr, .ASSIST c cur prio =>
        ch.toNat = c.val ∧ cur = 100 * w.toNat ∧ 100 ≤ cur ∧ cur ≤ 65500 ∧ prio = pr.toNat ∧ prio ≤ 7
      | _, _ => False

/-- CONCUR and WITHDRAW, their checks in order: the phase SERVICE, else WRONG_PHASE; a number other than 0, else BAD_ARGUMENT; an OPEN
proposal of that number, else NO_PROPOSAL. A CONCUR of the proposer gives SELF_CONCUR; a channel profile that names an unconfigured
trunk is refused INCOMPLETE; otherwise the proposal is APPLYING and its claim goes to the owner of its target (R140 to R142). A WITHDRAW
of another port gives NOT_PERMITTED; of the proposer it empties the slot, and WITHDRAWN goes to the other LIVE ports (R143). Behind session
reports of its port in flight it is judged once they are taken (R145, R154; log entry 12). -/
def Obligations.ConcurAndWithdraw : Prop :=
  ∀ (i : Instr) (r : Req) (n : BitVec 16) (s : State), i = .concur r n ∨ i = .withdraw r n → Passed s i r → BehindReports s i r
    ∧ (NoReports s r.port →
    (s.config.phase = .COMMISSION → exec i s = .next ((taken s i r).respond r.port .WRONG_PHASE []))
    ∧ (s.config.phase = .SERVICE →
      (n = 0#16 → exec i s = .next ((taken s i r).respond r.port .BAD_ARGUMENT []))
      ∧ (n ≠ 0#16 → (∀ us q body, s.config.slot ≠ some ⟨.OPEN us, n, q, body⟩) →
        exec i s = .next ((taken s i r).respond r.port .NO_PROPOSAL []))
      ∧ ∀ us q body, n ≠ 0#16 → s.config.slot = some ⟨.OPEN us, n, q, body⟩ →
        let emptied := (taken s i r).updConfig fun g => { g with slot := none }
        (i = .concur r n → q = r.port → exec i s = .next ((taken s i r).respond r.port .SELF_CONCUR []))
        ∧ (i = .concur r n → q ≠ r.port → OwnConditionFails s body →
          exec i s = .next (toProposer (emptied.respond r.port .OK [1#8, statusCode .INCOMPLETE]) q
            ⟨.REFUSED, .proposal n, some (.status .INCOMPLETE), some (.port r.port)⟩))
        ∧ (i = .concur r n → q ≠ r.port → ¬ OwnConditionFails s body →
          exec i s = .next (((taken s i r).updConfig fun g => { g with
            slot := some ⟨.APPLYING r.port, n, q, body⟩ }).send (match body with
              | .trunk t new => .trunkProfileClaim .apply t new
              | .channel c new => .channelProfileClaim .apply c new
              | .line l new => .bindingClaim .apply l new
              | .lockout c => .lockoutReleaseClaim c)))
        ∧ (i = .withdraw r n → q ≠ r.port → exec i s = .next ((taken s i r).respond r.port .NOT_PERMITTED []))
        ∧ (i = .withdraw r n → q = r.port → exec i s = .next (toOthers (emptied.respond r.port .OK []) r.port
            ⟨.WITHDRAWN, .proposal n, some (.withdraw .WITHDRAW), some (.port r.port)⟩))))

/-- The other ends of a proposal. A session report, taken in the order its Port Unit sent it, sets the port's standing in the Configuration Unit's view; the lapse or CLOSE of the
proposer of an OPEN proposal empties the slot, with WITHDRAWN to the other LIVE ports (R145). The expiry of the window empties it,
with EXPIRED to the proposer (R144). The owner's answer to an apply empties it: taken, the copy is replaced, CONCUR is answered with
applied and APPLIED goes to the proposer; refused, CONCUR is answered with the refusal of the kind and REFUSED goes to it (R141). -/
def Obligations.ProposalEnds : Prop :=
  (∀ (p : Port) (change : SessionChange) (s : State), s.inReset = false → InTurn s (.sessionReport p change) →
      let seen := (s.arrive (.sessionReport p change)).updConfig fun g => { g with view := updAt g.view p fun _ =>
        match change with | .OPEN => .LIVE | .LAPSE => .LAPSED | .CLOSE => .DOWN }
      (∀ us n body cause, s.config.slot = some ⟨.OPEN us, n, p, body⟩ →
        (change = .LAPSE ∧ cause = .LAPSE) ∨ (change = .CLOSE ∧ cause = .CLOSE) →
        exec (.sessionReport p change) s = .next (toOthers (seen.updConfig fun g => { g with slot := none }) p
          ⟨.WITHDRAWN, .proposal n, some (.withdraw cause), some (.port p)⟩))
      ∧ (change = .OPEN ∨ (∀ us n body, s.config.slot ≠ some ⟨.OPEN us, n, p, body⟩) →
        exec (.sessionReport p change) s = .next seen))
    ∧ (∀ s : State, s.inReset = false →
      (∀ us n q body, s.config.slot = some ⟨.OPEN us, n, q, body⟩ → exec .windowTimerExpiry s = .next (
        toProposer (s.updConfig fun g => { g with slot := none }) q
          ⟨.EXPIRED, .proposal n, some (.kind body.kindOf), none⟩))
      ∧ ((∀ us n q body, s.config.slot ≠ some ⟨.OPEN us, n, q, body⟩) → exec .windowTimerExpiry s = .next s))
    ∧ ∀ (done : Bool) (k q : Port) (n : BitVec 16) (body : ProposalBody) (s : State), s.inReset = false →
      s.config.slot = some ⟨.APPLYING k, n, q, body⟩ →
      exec (.applyAnswer done) s = .next (
        let u := (s.arrive (.applyAnswer done)).updConfig fun g => { g with slot := none }
        if done then
          toProposer (((match body with
            | .trunk t new => u.updConfig fun g => { g with trunkProfiles := updAt g.trunkProfiles t fun _ => some new }
            | .line l new => u.updConfig fun g => { g with bindings := updAt g.bindings l fun _ => new }
            | _ => u)).respond k .OK [0#8, 0#8]) q
            ⟨.APPLIED, .proposal n, some (.kind body.kindOf), some (.port k)⟩
        else
          let why : Status := match body with
            | .trunk _ _ => .NO_HEADROOM
            | .channel _ _ | .line _ _ => .HELD
            | .lockout _ => .STATE
          toProposer (u.respond k .OK [1#8, statusCode why]) q ⟨.REFUSED, .proposal n, some (.status why), some (.port k)⟩)

/-! ### What every step keeps, over all commands -/

/-- Only these commands change these records: the phase leaves SERVICE only by a reset (R130); H is changed only by power-on reset and by
the trunk's own budget interval expiry (R2, R8, R9); a set trip latch is cleared only by power-on reset or in a select window whose
bytes carry TRUNK CLEAR of that trunk (R106); a locked-out mark is cleared only by a reset and by a lockout release claim, taken at once or after
it was held back (R45). -/
def Obligations.OnlyTheseChange : Prop :=
  ∀ (i : Instr) (s u : State), exec i s = .next u → i ≠ .powerOnReset →
    (i ≠ .nrstReset → s.config.phase = .SERVICE → u.config.phase = .SERVICE)
    ∧ (∀ t, i ≠ .budgetIntervalExpiry t → (u.trunk t).heat = (s.trunk t).heat)
    ∧ (∀ t, ¬ carriesTrunkClear i t → (s.trunk t).latch = true → (u.trunk t).latch = true)
    ∧ ∀ c, i ≠ .nrstReset → i ≠ .lockoutReleaseClaim c → .lockoutReleaseClaim c ∉ s.heldBack →
      (s.chan c).lockedOut = true → (u.chan c).lockedOut = true

/-- Every step, from every state that satisfies them, keeps the order of the trunk records, the reservation account (each reserved sum is the
sum of the reservations charged against its trunk), the order of the port records, and that a proposal's number is never 0. -/
def Obligations.StepKeepsTrunksAndPorts : Prop :=
  ∀ s u : State, step s = .next u →
    (TrunksOk s → TrunksOk u) ∧ (AccountsOk s → AccountsOk u) ∧ (PortsOk s → PortsOk u) ∧ (SlotOk s → SlotOk u)

/-- Every step, from every state that satisfies them, keeps the order of the channel records and of the line records, and keeps the admission
queues in order of priority with exactly the QUEUED channels of the trunk in each, each once. -/
def Obligations.StepKeepsChannelsAndQueues : Prop :=
  ∀ s u : State, step s = .next u →
    (ChannelsOk s → ChannelsOk u) ∧ (QueuesOk s → QueuesOk u) ∧ (LinesOk s → LinesOk u)

/-- Every invariant holds right after power-on reset. -/
def Obligations.ResetInvariants : Prop :=
  TrunksOk State.reset ∧ AccountsOk State.reset ∧ ChannelsOk State.reset ∧ QueuesOk State.reset ∧ PortsOk State.reset
    ∧ LinesOk State.reset ∧ SlotOk State.reset

end Obligations
end

