-- ==== Sys2Proof/Laws/Encoding.lean ====
section
/-! SUPPORT. The blocks of a request's payload (Table 11-5): each is read back as it was written, and the lengths of the
payloads. -/

namespace Sys2Proof

/-- A 16-bit field is read back from its two bytes. -/
@[simp] theorem word16_be16 (w : BitVec 16) : word16 (w.extractLsb' 8 8) (w.extractLsb' 0 8) = w := by
  unfold word16
  ext i hi
  simp only [BitVec.getElem_append, BitVec.getElem_extractLsb']
  split
  · simp [BitVec.getLsbD_eq_getElem hi]
  · have : 8 + (i - 8) = i := by omega
    simp [this, BitVec.getLsbD_eq_getElem hi]

/-- The trunk profile block is read back. -/
@[simp] theorem decodeTrunkBlock_encode (b : TrunkBlock) : decodeTrunkBlock (encodeTrunkBlock b) = some b := by
  simp [encodeTrunkBlock, be16, decodeTrunkBlock]

/-- The precharge part of the channel profile block is read back. -/
@[simp] theorem decodePrechargeBlock_encode (b : PrechargeBlock) :
    decodePrechargeBlock (encodePrechargeBlock b) = some b := by
  simp [encodePrechargeBlock, be16, decodePrechargeBlock]

/-- The channel profile block is read back. -/
@[simp] theorem decodeChannelBlock_encode (b : ChannelBlock) : decodeChannelBlock (encodeChannelBlock b) = some b := by
  obtain ⟨c, t, m, l, p⟩ := b
  cases p <;> simp [encodeChannelBlock, be16, decodeChannelBlock]

/-- The line binding block is read back. -/
@[simp] theorem decodeLineBlock_encode (b : LineBlock) : decodeLineBlock (encodeLineBlock b) = some b := by
  obtain ⟨l, x⟩ := b
  cases x <;> simp [encodeLineBlock, be16, decodeLineBlock]

/-- The payload of PROPOSE is read back. -/
@[simp] theorem decodeProposeBlock_encode (b : ProposeBlock) : decodeProposeBlock (encodeProposeBlock b) = some b := by
  cases b <;> simp [encodeProposeBlock, decodeProposeBlock]

/-- The trunk profile block has 7 bytes. -/
@[simp] theorem encodeTrunkBlock_length (b : TrunkBlock) : (encodeTrunkBlock b).length = 7 := rfl

/-- The channel profile block has at most 15 bytes. -/
theorem encodeChannelBlock_length (b : ChannelBlock) : (encodeChannelBlock b).length ≤ 15 := by
  obtain ⟨c, t, m, l, p⟩ := b
  cases p <;> simp [encodeChannelBlock, encodePrechargeBlock, be16]

/-- The line binding block has at most 6 bytes. -/
theorem encodeLineBlock_length (b : LineBlock) : (encodeLineBlock b).length ≤ 6 := by
  obtain ⟨l, x⟩ := b
  cases x <;> simp [encodeLineBlock, be16]

/-- The payload of PROPOSE has at most 16 bytes. -/
theorem encodeProposeBlock_length (b : ProposeBlock) : (encodeProposeBlock b).length ≤ 16 := by
  cases b with
  | trunk b => simp [encodeProposeBlock]
  | channel b => simp [encodeProposeBlock]; have := encodeChannelBlock_length b; omega
  | line b => simp [encodeProposeBlock]; have := encodeLineBlock_length b; omega
  | lockout c => simp [encodeProposeBlock]

/-- The bytes of a request frame, sync first, with what follows it. -/
theorem requestFrame_append (tag code : Byte) (payload trail : List Byte) :
    requestFrame tag code payload ++ trail = 0xA5#8 :: tag :: code :: BitVec.ofNat 8 payload.length ::
      (payload ++ (crc8 (covered tag code payload) :: trail)) := by
  simp [requestFrame, frame, covered]

/-- A request frame passes the check of R152, whatever follows it. -/
theorem checkFrame_request (tag code : Byte) (payload trail : List Byte) (h : payload.length ≤ 24) :
    checkFrame (requestFrame tag code payload ++ trail)
      = .request tag code payload (crc8 (covered tag code payload)) := by
  have e : (BitVec.ofNat 8 payload.length).toNat = payload.length := by simp; omega
  have h1 : ¬ 24 < payload.length := by omega
  have h2 : (payload ++ (crc8 (covered tag code payload) :: trail))[payload.length]?
      = some (crc8 (covered tag code payload)) := by
    rw [List.getElem?_append_right (by omega)]; simp
  have h3 : (payload ++ (crc8 (covered tag code payload) :: trail)).take payload.length = payload := by simp
  rw [requestFrame_append]
  simp only [checkFrame, e, h1, h2, h3, if_false, ne_eq, not_true_eq_false]
  exact if_pos rfl

/-- What follows a request frame in its window. -/
theorem requestFrame_drop (tag code : Byte) (payload trail : List Byte) :
    (requestFrame tag code payload ++ trail).drop (payload.length + 5) = trail := by
  have hl : (requestFrame tag code payload).length = payload.length + 5 := by simp [requestFrame, frame, covered]
  rw [← hl]; simp

end Sys2Proof
end

