-- ==== Sys2Proof/Laws/State.lean ====
section
/-! SUPPORT. What each update of the state does to each field and to each accessor: one lemma for each field and update, true
by rfl, and the two lemmas of a table entry (the entry updated, another entry). -/

namespace Sys2Proof.Machine

/-- The entry that `updAt` changes. -/
theorem updAt_self {α : Type} {n : Nat} (v : Vector α n) (i : Fin n) (f : α → α) : (updAt v i f)[i] = f v[i] := by
  simp [updAt]

/-- An entry that `updAt` leaves alone. -/
theorem updAt_ne {α : Type} {n : Nat} (v : Vector α n) (i j : Fin n) (f : α → α) (h : j ≠ i) : (updAt v i f)[j] = v[j] := by
  have : i.val ≠ j.val := fun e => h (Fin.ext e.symm)
  simp [updAt, this]

/-- Any entry after `updAt`. -/
theorem updAt_get {α : Type} {n : Nat} (v : Vector α n) (i j : Fin n) (f : α → α) :
    (updAt v i f)[j] = if j = i then f v[i] else v[j] := by
  by_cases h : j = i
  · subst h; rw [if_pos rfl, updAt_self]
  · rw [if_neg h, updAt_ne v i j f h]

/-! ### updTrunk -/

@[simp] theorem State.updTrunk_pending (s : State) (t : Trunk) (f : TrunkRec → TrunkRec) : (s.updTrunk t f).pending = s.pending := rfl
@[simp] theorem State.updTrunk_inFlight (s : State) (t : Trunk) (f : TrunkRec → TrunkRec) : (s.updTrunk t f).inFlight = s.inFlight := rfl
@[simp] theorem State.updTrunk_inReset (s : State) (t : Trunk) (f : TrunkRec → TrunkRec) : (s.updTrunk t f).inReset = s.inReset := rfl
@[simp] theorem State.updTrunk_trunks (s : State) (t : Trunk) (f : TrunkRec → TrunkRec) : (s.updTrunk t f).trunks = updAt s.trunks t f := rfl
@[simp] theorem State.updTrunk_accounts (s : State) (t : Trunk) (f : TrunkRec → TrunkRec) : (s.updTrunk t f).accounts = s.accounts := rfl
@[simp] theorem State.updTrunk_channels (s : State) (t : Trunk) (f : TrunkRec → TrunkRec) : (s.updTrunk t f).channels = s.channels := rfl
@[simp] theorem State.updTrunk_portView (s : State) (t : Trunk) (f : TrunkRec → TrunkRec) : (s.updTrunk t f).portView = s.portView := rfl
@[simp] theorem State.updTrunk_heldBack (s : State) (t : Trunk) (f : TrunkRec → TrunkRec) : (s.updTrunk t f).heldBack = s.heldBack := rfl
@[simp] theorem State.updTrunk_queues (s : State) (t : Trunk) (f : TrunkRec → TrunkRec) : (s.updTrunk t f).queues = s.queues := rfl
@[simp] theorem State.updTrunk_passes (s : State) (t : Trunk) (f : TrunkRec → TrunkRec) : (s.updTrunk t f).passes = s.passes := rfl
@[simp] theorem State.updTrunk_energizing (s : State) (t : Trunk) (f : TrunkRec → TrunkRec) : (s.updTrunk t f).energizing = s.energizing := rfl
@[simp] theorem State.updTrunk_waiting (s : State) (t : Trunk) (f : TrunkRec → TrunkRec) : (s.updTrunk t f).waiting = s.waiting := rfl
@[simp] theorem State.updTrunk_arrivals (s : State) (t : Trunk) (f : TrunkRec → TrunkRec) : (s.updTrunk t f).arrivals = s.arrivals := rfl
@[simp] theorem State.updTrunk_admissions (s : State) (t : Trunk) (f : TrunkRec → TrunkRec) : (s.updTrunk t f).admissions = s.admissions := rfl
@[simp] theorem State.updTrunk_runs (s : State) (t : Trunk) (f : TrunkRec → TrunkRec) : (s.updTrunk t f).runs = s.runs := rfl
@[simp] theorem State.updTrunk_drivers (s : State) (t : Trunk) (f : TrunkRec → TrunkRec) : (s.updTrunk t f).drivers = s.drivers := rfl
@[simp] theorem State.updTrunk_sense (s : State) (t : Trunk) (f : TrunkRec → TrunkRec) : (s.updTrunk t f).sense = s.sense := rfl
@[simp] theorem State.updTrunk_lines (s : State) (t : Trunk) (f : TrunkRec → TrunkRec) : (s.updTrunk t f).lines = s.lines := rfl
@[simp] theorem State.updTrunk_ports (s : State) (t : Trunk) (f : TrunkRec → TrunkRec) : (s.updTrunk t f).ports = s.ports := rfl
@[simp] theorem State.updTrunk_config (s : State) (t : Trunk) (f : TrunkRec → TrunkRec) : (s.updTrunk t f).config = s.config := rfl
@[simp] theorem State.updTrunk_acct (s : State) (t : Trunk) (f : TrunkRec → TrunkRec) (d : Channel) : (s.updTrunk t f).acct d = s.acct d := rfl
@[simp] theorem State.updTrunk_chan (s : State) (t : Trunk) (f : TrunkRec → TrunkRec) (d : Channel) : (s.updTrunk t f).chan d = s.chan d := rfl
@[simp] theorem State.updTrunk_viewOf (s : State) (t : Trunk) (f : TrunkRec → TrunkRec) (q : Port) : (s.updTrunk t f).viewOf q = s.viewOf q := rfl
@[simp] theorem State.updTrunk_queue (s : State) (t : Trunk) (f : TrunkRec → TrunkRec) (u : Trunk) : (s.updTrunk t f).queue u = s.queue u := rfl
@[simp] theorem State.updTrunk_pass (s : State) (t : Trunk) (f : TrunkRec → TrunkRec) (u : Trunk) : (s.updTrunk t f).pass u = s.pass u := rfl
@[simp] theorem State.updTrunk_inHand (s : State) (t : Trunk) (f : TrunkRec → TrunkRec) (d : Channel) : (s.updTrunk t f).inHand d = s.inHand d := rfl
@[simp] theorem State.updTrunk_run (s : State) (t : Trunk) (f : TrunkRec → TrunkRec) (u : Trunk) : (s.updTrunk t f).run u = s.run u := rfl
@[simp] theorem State.updTrunk_driver (s : State) (t : Trunk) (f : TrunkRec → TrunkRec) (d : Channel) : (s.updTrunk t f).driver d = s.driver d := rfl
@[simp] theorem State.updTrunk_line (s : State) (t : Trunk) (f : TrunkRec → TrunkRec) (k : Line) : (s.updTrunk t f).line k = s.line k := rfl
@[simp] theorem State.updTrunk_port (s : State) (t : Trunk) (f : TrunkRec → TrunkRec) (q : Port) : (s.updTrunk t f).port q = s.port q := rfl
@[simp] theorem State.updTrunk_self (s : State) (t : Trunk) (f : TrunkRec → TrunkRec) : (s.updTrunk t f).trunk t = f (s.trunk t) :=
  updAt_self s.trunks t _
theorem State.updTrunk_ne (s : State) (t : Trunk) (f : TrunkRec → TrunkRec) (u : Trunk) (h : u ≠ t) : (s.updTrunk t f).trunk u = s.trunk u :=
  updAt_ne s.trunks t u _ h
theorem State.updTrunk_get (s : State) (t : Trunk) (f : TrunkRec → TrunkRec) (u : Trunk) :
    (s.updTrunk t f).trunk u = if u = t then f (s.trunk t) else s.trunk u :=
  updAt_get s.trunks t u _

/-! ### updAcct -/

@[simp] theorem State.updAcct_pending (s : State) (c : Channel) (f : Account → Account) : (s.updAcct c f).pending = s.pending := rfl
@[simp] theorem State.updAcct_inFlight (s : State) (c : Channel) (f : Account → Account) : (s.updAcct c f).inFlight = s.inFlight := rfl
@[simp] theorem State.updAcct_inReset (s : State) (c : Channel) (f : Account → Account) : (s.updAcct c f).inReset = s.inReset := rfl
@[simp] theorem State.updAcct_trunks (s : State) (c : Channel) (f : Account → Account) : (s.updAcct c f).trunks = s.trunks := rfl
@[simp] theorem State.updAcct_accounts (s : State) (c : Channel) (f : Account → Account) : (s.updAcct c f).accounts = updAt s.accounts c f := rfl
@[simp] theorem State.updAcct_channels (s : State) (c : Channel) (f : Account → Account) : (s.updAcct c f).channels = s.channels := rfl
@[simp] theorem State.updAcct_portView (s : State) (c : Channel) (f : Account → Account) : (s.updAcct c f).portView = s.portView := rfl
@[simp] theorem State.updAcct_heldBack (s : State) (c : Channel) (f : Account → Account) : (s.updAcct c f).heldBack = s.heldBack := rfl
@[simp] theorem State.updAcct_queues (s : State) (c : Channel) (f : Account → Account) : (s.updAcct c f).queues = s.queues := rfl
@[simp] theorem State.updAcct_passes (s : State) (c : Channel) (f : Account → Account) : (s.updAcct c f).passes = s.passes := rfl
@[simp] theorem State.updAcct_energizing (s : State) (c : Channel) (f : Account → Account) : (s.updAcct c f).energizing = s.energizing := rfl
@[simp] theorem State.updAcct_waiting (s : State) (c : Channel) (f : Account → Account) : (s.updAcct c f).waiting = s.waiting := rfl
@[simp] theorem State.updAcct_arrivals (s : State) (c : Channel) (f : Account → Account) : (s.updAcct c f).arrivals = s.arrivals := rfl
@[simp] theorem State.updAcct_admissions (s : State) (c : Channel) (f : Account → Account) : (s.updAcct c f).admissions = s.admissions := rfl
@[simp] theorem State.updAcct_runs (s : State) (c : Channel) (f : Account → Account) : (s.updAcct c f).runs = s.runs := rfl
@[simp] theorem State.updAcct_drivers (s : State) (c : Channel) (f : Account → Account) : (s.updAcct c f).drivers = s.drivers := rfl
@[simp] theorem State.updAcct_sense (s : State) (c : Channel) (f : Account → Account) : (s.updAcct c f).sense = s.sense := rfl
@[simp] theorem State.updAcct_lines (s : State) (c : Channel) (f : Account → Account) : (s.updAcct c f).lines = s.lines := rfl
@[simp] theorem State.updAcct_ports (s : State) (c : Channel) (f : Account → Account) : (s.updAcct c f).ports = s.ports := rfl
@[simp] theorem State.updAcct_config (s : State) (c : Channel) (f : Account → Account) : (s.updAcct c f).config = s.config := rfl
@[simp] theorem State.updAcct_trunk (s : State) (c : Channel) (f : Account → Account) (u : Trunk) : (s.updAcct c f).trunk u = s.trunk u := rfl
@[simp] theorem State.updAcct_chan (s : State) (c : Channel) (f : Account → Account) (d : Channel) : (s.updAcct c f).chan d = s.chan d := rfl
@[simp] theorem State.updAcct_viewOf (s : State) (c : Channel) (f : Account → Account) (q : Port) : (s.updAcct c f).viewOf q = s.viewOf q := rfl
@[simp] theorem State.updAcct_queue (s : State) (c : Channel) (f : Account → Account) (u : Trunk) : (s.updAcct c f).queue u = s.queue u := rfl
@[simp] theorem State.updAcct_pass (s : State) (c : Channel) (f : Account → Account) (u : Trunk) : (s.updAcct c f).pass u = s.pass u := rfl
@[simp] theorem State.updAcct_inHand (s : State) (c : Channel) (f : Account → Account) (d : Channel) : (s.updAcct c f).inHand d = s.inHand d := rfl
@[simp] theorem State.updAcct_run (s : State) (c : Channel) (f : Account → Account) (u : Trunk) : (s.updAcct c f).run u = s.run u := rfl
@[simp] theorem State.updAcct_driver (s : State) (c : Channel) (f : Account → Account) (d : Channel) : (s.updAcct c f).driver d = s.driver d := rfl
@[simp] theorem State.updAcct_line (s : State) (c : Channel) (f : Account → Account) (k : Line) : (s.updAcct c f).line k = s.line k := rfl
@[simp] theorem State.updAcct_port (s : State) (c : Channel) (f : Account → Account) (q : Port) : (s.updAcct c f).port q = s.port q := rfl
@[simp] theorem State.updAcct_self (s : State) (c : Channel) (f : Account → Account) : (s.updAcct c f).acct c = f (s.acct c) :=
  updAt_self s.accounts c _
theorem State.updAcct_ne (s : State) (c : Channel) (f : Account → Account) (d : Channel) (h : d ≠ c) : (s.updAcct c f).acct d = s.acct d :=
  updAt_ne s.accounts c d _ h
theorem State.updAcct_get (s : State) (c : Channel) (f : Account → Account) (d : Channel) :
    (s.updAcct c f).acct d = if d = c then f (s.acct c) else s.acct d :=
  updAt_get s.accounts c d _

/-! ### updChan -/

@[simp] theorem State.updChan_pending (s : State) (c : Channel) (f : ChannelRec → ChannelRec) : (s.updChan c f).pending = s.pending := rfl
@[simp] theorem State.updChan_inFlight (s : State) (c : Channel) (f : ChannelRec → ChannelRec) : (s.updChan c f).inFlight = s.inFlight := rfl
@[simp] theorem State.updChan_inReset (s : State) (c : Channel) (f : ChannelRec → ChannelRec) : (s.updChan c f).inReset = s.inReset := rfl
@[simp] theorem State.updChan_trunks (s : State) (c : Channel) (f : ChannelRec → ChannelRec) : (s.updChan c f).trunks = s.trunks := rfl
@[simp] theorem State.updChan_accounts (s : State) (c : Channel) (f : ChannelRec → ChannelRec) : (s.updChan c f).accounts = s.accounts := rfl
@[simp] theorem State.updChan_channels (s : State) (c : Channel) (f : ChannelRec → ChannelRec) : (s.updChan c f).channels = updAt s.channels c f := rfl
@[simp] theorem State.updChan_portView (s : State) (c : Channel) (f : ChannelRec → ChannelRec) : (s.updChan c f).portView = s.portView := rfl
@[simp] theorem State.updChan_heldBack (s : State) (c : Channel) (f : ChannelRec → ChannelRec) : (s.updChan c f).heldBack = s.heldBack := rfl
@[simp] theorem State.updChan_queues (s : State) (c : Channel) (f : ChannelRec → ChannelRec) : (s.updChan c f).queues = s.queues := rfl
@[simp] theorem State.updChan_passes (s : State) (c : Channel) (f : ChannelRec → ChannelRec) : (s.updChan c f).passes = s.passes := rfl
@[simp] theorem State.updChan_energizing (s : State) (c : Channel) (f : ChannelRec → ChannelRec) : (s.updChan c f).energizing = s.energizing := rfl
@[simp] theorem State.updChan_waiting (s : State) (c : Channel) (f : ChannelRec → ChannelRec) : (s.updChan c f).waiting = s.waiting := rfl
@[simp] theorem State.updChan_arrivals (s : State) (c : Channel) (f : ChannelRec → ChannelRec) : (s.updChan c f).arrivals = s.arrivals := rfl
@[simp] theorem State.updChan_admissions (s : State) (c : Channel) (f : ChannelRec → ChannelRec) : (s.updChan c f).admissions = s.admissions := rfl
@[simp] theorem State.updChan_runs (s : State) (c : Channel) (f : ChannelRec → ChannelRec) : (s.updChan c f).runs = s.runs := rfl
@[simp] theorem State.updChan_drivers (s : State) (c : Channel) (f : ChannelRec → ChannelRec) : (s.updChan c f).drivers = s.drivers := rfl
@[simp] theorem State.updChan_sense (s : State) (c : Channel) (f : ChannelRec → ChannelRec) : (s.updChan c f).sense = s.sense := rfl
@[simp] theorem State.updChan_lines (s : State) (c : Channel) (f : ChannelRec → ChannelRec) : (s.updChan c f).lines = s.lines := rfl
@[simp] theorem State.updChan_ports (s : State) (c : Channel) (f : ChannelRec → ChannelRec) : (s.updChan c f).ports = s.ports := rfl
@[simp] theorem State.updChan_config (s : State) (c : Channel) (f : ChannelRec → ChannelRec) : (s.updChan c f).config = s.config := rfl
@[simp] theorem State.updChan_trunk (s : State) (c : Channel) (f : ChannelRec → ChannelRec) (u : Trunk) : (s.updChan c f).trunk u = s.trunk u := rfl
@[simp] theorem State.updChan_acct (s : State) (c : Channel) (f : ChannelRec → ChannelRec) (d : Channel) : (s.updChan c f).acct d = s.acct d := rfl
@[simp] theorem State.updChan_viewOf (s : State) (c : Channel) (f : ChannelRec → ChannelRec) (q : Port) : (s.updChan c f).viewOf q = s.viewOf q := rfl
@[simp] theorem State.updChan_queue (s : State) (c : Channel) (f : ChannelRec → ChannelRec) (u : Trunk) : (s.updChan c f).queue u = s.queue u := rfl
@[simp] theorem State.updChan_pass (s : State) (c : Channel) (f : ChannelRec → ChannelRec) (u : Trunk) : (s.updChan c f).pass u = s.pass u := rfl
@[simp] theorem State.updChan_inHand (s : State) (c : Channel) (f : ChannelRec → ChannelRec) (d : Channel) : (s.updChan c f).inHand d = s.inHand d := rfl
@[simp] theorem State.updChan_run (s : State) (c : Channel) (f : ChannelRec → ChannelRec) (u : Trunk) : (s.updChan c f).run u = s.run u := rfl
@[simp] theorem State.updChan_driver (s : State) (c : Channel) (f : ChannelRec → ChannelRec) (d : Channel) : (s.updChan c f).driver d = s.driver d := rfl
@[simp] theorem State.updChan_line (s : State) (c : Channel) (f : ChannelRec → ChannelRec) (k : Line) : (s.updChan c f).line k = s.line k := rfl
@[simp] theorem State.updChan_port (s : State) (c : Channel) (f : ChannelRec → ChannelRec) (q : Port) : (s.updChan c f).port q = s.port q := rfl
@[simp] theorem State.updChan_self (s : State) (c : Channel) (f : ChannelRec → ChannelRec) : (s.updChan c f).chan c = f (s.chan c) :=
  updAt_self s.channels c _
theorem State.updChan_ne (s : State) (c : Channel) (f : ChannelRec → ChannelRec) (d : Channel) (h : d ≠ c) : (s.updChan c f).chan d = s.chan d :=
  updAt_ne s.channels c d _ h
theorem State.updChan_get (s : State) (c : Channel) (f : ChannelRec → ChannelRec) (d : Channel) :
    (s.updChan c f).chan d = if d = c then f (s.chan c) else s.chan d :=
  updAt_get s.channels c d _

/-! ### updView -/

@[simp] theorem State.updView_pending (s : State) (p : Port) (f : PortView → PortView) : (s.updView p f).pending = s.pending := rfl
@[simp] theorem State.updView_inFlight (s : State) (p : Port) (f : PortView → PortView) : (s.updView p f).inFlight = s.inFlight := rfl
@[simp] theorem State.updView_inReset (s : State) (p : Port) (f : PortView → PortView) : (s.updView p f).inReset = s.inReset := rfl
@[simp] theorem State.updView_trunks (s : State) (p : Port) (f : PortView → PortView) : (s.updView p f).trunks = s.trunks := rfl
@[simp] theorem State.updView_accounts (s : State) (p : Port) (f : PortView → PortView) : (s.updView p f).accounts = s.accounts := rfl
@[simp] theorem State.updView_channels (s : State) (p : Port) (f : PortView → PortView) : (s.updView p f).channels = s.channels := rfl
@[simp] theorem State.updView_portView (s : State) (p : Port) (f : PortView → PortView) : (s.updView p f).portView = updAt s.portView p f := rfl
@[simp] theorem State.updView_heldBack (s : State) (p : Port) (f : PortView → PortView) : (s.updView p f).heldBack = s.heldBack := rfl
@[simp] theorem State.updView_queues (s : State) (p : Port) (f : PortView → PortView) : (s.updView p f).queues = s.queues := rfl
@[simp] theorem State.updView_passes (s : State) (p : Port) (f : PortView → PortView) : (s.updView p f).passes = s.passes := rfl
@[simp] theorem State.updView_energizing (s : State) (p : Port) (f : PortView → PortView) : (s.updView p f).energizing = s.energizing := rfl
@[simp] theorem State.updView_waiting (s : State) (p : Port) (f : PortView → PortView) : (s.updView p f).waiting = s.waiting := rfl
@[simp] theorem State.updView_arrivals (s : State) (p : Port) (f : PortView → PortView) : (s.updView p f).arrivals = s.arrivals := rfl
@[simp] theorem State.updView_admissions (s : State) (p : Port) (f : PortView → PortView) : (s.updView p f).admissions = s.admissions := rfl
@[simp] theorem State.updView_runs (s : State) (p : Port) (f : PortView → PortView) : (s.updView p f).runs = s.runs := rfl
@[simp] theorem State.updView_drivers (s : State) (p : Port) (f : PortView → PortView) : (s.updView p f).drivers = s.drivers := rfl
@[simp] theorem State.updView_sense (s : State) (p : Port) (f : PortView → PortView) : (s.updView p f).sense = s.sense := rfl
@[simp] theorem State.updView_lines (s : State) (p : Port) (f : PortView → PortView) : (s.updView p f).lines = s.lines := rfl
@[simp] theorem State.updView_ports (s : State) (p : Port) (f : PortView → PortView) : (s.updView p f).ports = s.ports := rfl
@[simp] theorem State.updView_config (s : State) (p : Port) (f : PortView → PortView) : (s.updView p f).config = s.config := rfl
@[simp] theorem State.updView_trunk (s : State) (p : Port) (f : PortView → PortView) (u : Trunk) : (s.updView p f).trunk u = s.trunk u := rfl
@[simp] theorem State.updView_acct (s : State) (p : Port) (f : PortView → PortView) (d : Channel) : (s.updView p f).acct d = s.acct d := rfl
@[simp] theorem State.updView_chan (s : State) (p : Port) (f : PortView → PortView) (d : Channel) : (s.updView p f).chan d = s.chan d := rfl
@[simp] theorem State.updView_queue (s : State) (p : Port) (f : PortView → PortView) (u : Trunk) : (s.updView p f).queue u = s.queue u := rfl
@[simp] theorem State.updView_pass (s : State) (p : Port) (f : PortView → PortView) (u : Trunk) : (s.updView p f).pass u = s.pass u := rfl
@[simp] theorem State.updView_inHand (s : State) (p : Port) (f : PortView → PortView) (d : Channel) : (s.updView p f).inHand d = s.inHand d := rfl
@[simp] theorem State.updView_run (s : State) (p : Port) (f : PortView → PortView) (u : Trunk) : (s.updView p f).run u = s.run u := rfl
@[simp] theorem State.updView_driver (s : State) (p : Port) (f : PortView → PortView) (d : Channel) : (s.updView p f).driver d = s.driver d := rfl
@[simp] theorem State.updView_line (s : State) (p : Port) (f : PortView → PortView) (k : Line) : (s.updView p f).line k = s.line k := rfl
@[simp] theorem State.updView_port (s : State) (p : Port) (f : PortView → PortView) (q : Port) : (s.updView p f).port q = s.port q := rfl
@[simp] theorem State.updView_self (s : State) (p : Port) (f : PortView → PortView) : (s.updView p f).viewOf p = f (s.viewOf p) :=
  updAt_self s.portView p _
theorem State.updView_ne (s : State) (p : Port) (f : PortView → PortView) (q : Port) (h : q ≠ p) : (s.updView p f).viewOf q = s.viewOf q :=
  updAt_ne s.portView p q _ h
theorem State.updView_get (s : State) (p : Port) (f : PortView → PortView) (q : Port) :
    (s.updView p f).viewOf q = if q = p then f (s.viewOf p) else s.viewOf q :=
  updAt_get s.portView p q _

/-! ### updQueue -/

@[simp] theorem State.updQueue_pending (s : State) (t : Trunk) (f : List Entry → List Entry) : (s.updQueue t f).pending = s.pending := rfl
@[simp] theorem State.updQueue_inFlight (s : State) (t : Trunk) (f : List Entry → List Entry) : (s.updQueue t f).inFlight = s.inFlight := rfl
@[simp] theorem State.updQueue_inReset (s : State) (t : Trunk) (f : List Entry → List Entry) : (s.updQueue t f).inReset = s.inReset := rfl
@[simp] theorem State.updQueue_trunks (s : State) (t : Trunk) (f : List Entry → List Entry) : (s.updQueue t f).trunks = s.trunks := rfl
@[simp] theorem State.updQueue_accounts (s : State) (t : Trunk) (f : List Entry → List Entry) : (s.updQueue t f).accounts = s.accounts := rfl
@[simp] theorem State.updQueue_channels (s : State) (t : Trunk) (f : List Entry → List Entry) : (s.updQueue t f).channels = s.channels := rfl
@[simp] theorem State.updQueue_portView (s : State) (t : Trunk) (f : List Entry → List Entry) : (s.updQueue t f).portView = s.portView := rfl
@[simp] theorem State.updQueue_heldBack (s : State) (t : Trunk) (f : List Entry → List Entry) : (s.updQueue t f).heldBack = s.heldBack := rfl
@[simp] theorem State.updQueue_queues (s : State) (t : Trunk) (f : List Entry → List Entry) : (s.updQueue t f).queues = updAt s.queues t f := rfl
@[simp] theorem State.updQueue_passes (s : State) (t : Trunk) (f : List Entry → List Entry) : (s.updQueue t f).passes = s.passes := rfl
@[simp] theorem State.updQueue_energizing (s : State) (t : Trunk) (f : List Entry → List Entry) : (s.updQueue t f).energizing = s.energizing := rfl
@[simp] theorem State.updQueue_waiting (s : State) (t : Trunk) (f : List Entry → List Entry) : (s.updQueue t f).waiting = s.waiting := rfl
@[simp] theorem State.updQueue_arrivals (s : State) (t : Trunk) (f : List Entry → List Entry) : (s.updQueue t f).arrivals = s.arrivals := rfl
@[simp] theorem State.updQueue_admissions (s : State) (t : Trunk) (f : List Entry → List Entry) : (s.updQueue t f).admissions = s.admissions := rfl
@[simp] theorem State.updQueue_runs (s : State) (t : Trunk) (f : List Entry → List Entry) : (s.updQueue t f).runs = s.runs := rfl
@[simp] theorem State.updQueue_drivers (s : State) (t : Trunk) (f : List Entry → List Entry) : (s.updQueue t f).drivers = s.drivers := rfl
@[simp] theorem State.updQueue_sense (s : State) (t : Trunk) (f : List Entry → List Entry) : (s.updQueue t f).sense = s.sense := rfl
@[simp] theorem State.updQueue_lines (s : State) (t : Trunk) (f : List Entry → List Entry) : (s.updQueue t f).lines = s.lines := rfl
@[simp] theorem State.updQueue_ports (s : State) (t : Trunk) (f : List Entry → List Entry) : (s.updQueue t f).ports = s.ports := rfl
@[simp] theorem State.updQueue_config (s : State) (t : Trunk) (f : List Entry → List Entry) : (s.updQueue t f).config = s.config := rfl
@[simp] theorem State.updQueue_trunk (s : State) (t : Trunk) (f : List Entry → List Entry) (u : Trunk) : (s.updQueue t f).trunk u = s.trunk u := rfl
@[simp] theorem State.updQueue_acct (s : State) (t : Trunk) (f : List Entry → List Entry) (d : Channel) : (s.updQueue t f).acct d = s.acct d := rfl
@[simp] theorem State.updQueue_chan (s : State) (t : Trunk) (f : List Entry → List Entry) (d : Channel) : (s.updQueue t f).chan d = s.chan d := rfl
@[simp] theorem State.updQueue_viewOf (s : State) (t : Trunk) (f : List Entry → List Entry) (q : Port) : (s.updQueue t f).viewOf q = s.viewOf q := rfl
@[simp] theorem State.updQueue_pass (s : State) (t : Trunk) (f : List Entry → List Entry) (u : Trunk) : (s.updQueue t f).pass u = s.pass u := rfl
@[simp] theorem State.updQueue_inHand (s : State) (t : Trunk) (f : List Entry → List Entry) (d : Channel) : (s.updQueue t f).inHand d = s.inHand d := rfl
@[simp] theorem State.updQueue_run (s : State) (t : Trunk) (f : List Entry → List Entry) (u : Trunk) : (s.updQueue t f).run u = s.run u := rfl
@[simp] theorem State.updQueue_driver (s : State) (t : Trunk) (f : List Entry → List Entry) (d : Channel) : (s.updQueue t f).driver d = s.driver d := rfl
@[simp] theorem State.updQueue_line (s : State) (t : Trunk) (f : List Entry → List Entry) (k : Line) : (s.updQueue t f).line k = s.line k := rfl
@[simp] theorem State.updQueue_port (s : State) (t : Trunk) (f : List Entry → List Entry) (q : Port) : (s.updQueue t f).port q = s.port q := rfl
@[simp] theorem State.updQueue_self (s : State) (t : Trunk) (f : List Entry → List Entry) : (s.updQueue t f).queue t = f (s.queue t) :=
  updAt_self s.queues t _
theorem State.updQueue_ne (s : State) (t : Trunk) (f : List Entry → List Entry) (u : Trunk) (h : u ≠ t) : (s.updQueue t f).queue u = s.queue u :=
  updAt_ne s.queues t u _ h
theorem State.updQueue_get (s : State) (t : Trunk) (f : List Entry → List Entry) (u : Trunk) :
    (s.updQueue t f).queue u = if u = t then f (s.queue t) else s.queue u :=
  updAt_get s.queues t u _

/-! ### updPass -/

@[simp] theorem State.updPass_pending (s : State) (t : Trunk) (f : Pass → Pass) : (s.updPass t f).pending = s.pending := rfl
@[simp] theorem State.updPass_inFlight (s : State) (t : Trunk) (f : Pass → Pass) : (s.updPass t f).inFlight = s.inFlight := rfl
@[simp] theorem State.updPass_inReset (s : State) (t : Trunk) (f : Pass → Pass) : (s.updPass t f).inReset = s.inReset := rfl
@[simp] theorem State.updPass_trunks (s : State) (t : Trunk) (f : Pass → Pass) : (s.updPass t f).trunks = s.trunks := rfl
@[simp] theorem State.updPass_accounts (s : State) (t : Trunk) (f : Pass → Pass) : (s.updPass t f).accounts = s.accounts := rfl
@[simp] theorem State.updPass_channels (s : State) (t : Trunk) (f : Pass → Pass) : (s.updPass t f).channels = s.channels := rfl
@[simp] theorem State.updPass_portView (s : State) (t : Trunk) (f : Pass → Pass) : (s.updPass t f).portView = s.portView := rfl
@[simp] theorem State.updPass_heldBack (s : State) (t : Trunk) (f : Pass → Pass) : (s.updPass t f).heldBack = s.heldBack := rfl
@[simp] theorem State.updPass_queues (s : State) (t : Trunk) (f : Pass → Pass) : (s.updPass t f).queues = s.queues := rfl
@[simp] theorem State.updPass_passes (s : State) (t : Trunk) (f : Pass → Pass) : (s.updPass t f).passes = updAt s.passes t f := rfl
@[simp] theorem State.updPass_energizing (s : State) (t : Trunk) (f : Pass → Pass) : (s.updPass t f).energizing = s.energizing := rfl
@[simp] theorem State.updPass_waiting (s : State) (t : Trunk) (f : Pass → Pass) : (s.updPass t f).waiting = s.waiting := rfl
@[simp] theorem State.updPass_arrivals (s : State) (t : Trunk) (f : Pass → Pass) : (s.updPass t f).arrivals = s.arrivals := rfl
@[simp] theorem State.updPass_admissions (s : State) (t : Trunk) (f : Pass → Pass) : (s.updPass t f).admissions = s.admissions := rfl
@[simp] theorem State.updPass_runs (s : State) (t : Trunk) (f : Pass → Pass) : (s.updPass t f).runs = s.runs := rfl
@[simp] theorem State.updPass_drivers (s : State) (t : Trunk) (f : Pass → Pass) : (s.updPass t f).drivers = s.drivers := rfl
@[simp] theorem State.updPass_sense (s : State) (t : Trunk) (f : Pass → Pass) : (s.updPass t f).sense = s.sense := rfl
@[simp] theorem State.updPass_lines (s : State) (t : Trunk) (f : Pass → Pass) : (s.updPass t f).lines = s.lines := rfl
@[simp] theorem State.updPass_ports (s : State) (t : Trunk) (f : Pass → Pass) : (s.updPass t f).ports = s.ports := rfl
@[simp] theorem State.updPass_config (s : State) (t : Trunk) (f : Pass → Pass) : (s.updPass t f).config = s.config := rfl
@[simp] theorem State.updPass_trunk (s : State) (t : Trunk) (f : Pass → Pass) (u : Trunk) : (s.updPass t f).trunk u = s.trunk u := rfl
@[simp] theorem State.updPass_acct (s : State) (t : Trunk) (f : Pass → Pass) (d : Channel) : (s.updPass t f).acct d = s.acct d := rfl
@[simp] theorem State.updPass_chan (s : State) (t : Trunk) (f : Pass → Pass) (d : Channel) : (s.updPass t f).chan d = s.chan d := rfl
@[simp] theorem State.updPass_viewOf (s : State) (t : Trunk) (f : Pass → Pass) (q : Port) : (s.updPass t f).viewOf q = s.viewOf q := rfl
@[simp] theorem State.updPass_queue (s : State) (t : Trunk) (f : Pass → Pass) (u : Trunk) : (s.updPass t f).queue u = s.queue u := rfl
@[simp] theorem State.updPass_inHand (s : State) (t : Trunk) (f : Pass → Pass) (d : Channel) : (s.updPass t f).inHand d = s.inHand d := rfl
@[simp] theorem State.updPass_run (s : State) (t : Trunk) (f : Pass → Pass) (u : Trunk) : (s.updPass t f).run u = s.run u := rfl
@[simp] theorem State.updPass_driver (s : State) (t : Trunk) (f : Pass → Pass) (d : Channel) : (s.updPass t f).driver d = s.driver d := rfl
@[simp] theorem State.updPass_line (s : State) (t : Trunk) (f : Pass → Pass) (k : Line) : (s.updPass t f).line k = s.line k := rfl
@[simp] theorem State.updPass_port (s : State) (t : Trunk) (f : Pass → Pass) (q : Port) : (s.updPass t f).port q = s.port q := rfl
@[simp] theorem State.updPass_self (s : State) (t : Trunk) (f : Pass → Pass) : (s.updPass t f).pass t = f (s.pass t) :=
  updAt_self s.passes t _
theorem State.updPass_ne (s : State) (t : Trunk) (f : Pass → Pass) (u : Trunk) (h : u ≠ t) : (s.updPass t f).pass u = s.pass u :=
  updAt_ne s.passes t u _ h
theorem State.updPass_get (s : State) (t : Trunk) (f : Pass → Pass) (u : Trunk) :
    (s.updPass t f).pass u = if u = t then f (s.pass t) else s.pass u :=
  updAt_get s.passes t u _

/-! ### setInHand -/

@[simp] theorem State.setInHand_pending (s : State) (c : Channel) (e : Option EnergizeInHand) : (s.setInHand c e).pending = s.pending := rfl
@[simp] theorem State.setInHand_inFlight (s : State) (c : Channel) (e : Option EnergizeInHand) : (s.setInHand c e).inFlight = s.inFlight := rfl
@[simp] theorem State.setInHand_inReset (s : State) (c : Channel) (e : Option EnergizeInHand) : (s.setInHand c e).inReset = s.inReset := rfl
@[simp] theorem State.setInHand_trunks (s : State) (c : Channel) (e : Option EnergizeInHand) : (s.setInHand c e).trunks = s.trunks := rfl
@[simp] theorem State.setInHand_accounts (s : State) (c : Channel) (e : Option EnergizeInHand) : (s.setInHand c e).accounts = s.accounts := rfl
@[simp] theorem State.setInHand_channels (s : State) (c : Channel) (e : Option EnergizeInHand) : (s.setInHand c e).channels = s.channels := rfl
@[simp] theorem State.setInHand_portView (s : State) (c : Channel) (e : Option EnergizeInHand) : (s.setInHand c e).portView = s.portView := rfl
@[simp] theorem State.setInHand_heldBack (s : State) (c : Channel) (e : Option EnergizeInHand) : (s.setInHand c e).heldBack = s.heldBack := rfl
@[simp] theorem State.setInHand_queues (s : State) (c : Channel) (e : Option EnergizeInHand) : (s.setInHand c e).queues = s.queues := rfl
@[simp] theorem State.setInHand_passes (s : State) (c : Channel) (e : Option EnergizeInHand) : (s.setInHand c e).passes = s.passes := rfl
@[simp] theorem State.setInHand_energizing (s : State) (c : Channel) (e : Option EnergizeInHand) : (s.setInHand c e).energizing = updAt s.energizing c fun _ => e := rfl
@[simp] theorem State.setInHand_waiting (s : State) (c : Channel) (e : Option EnergizeInHand) : (s.setInHand c e).waiting = s.waiting := rfl
@[simp] theorem State.setInHand_arrivals (s : State) (c : Channel) (e : Option EnergizeInHand) : (s.setInHand c e).arrivals = s.arrivals := rfl
@[simp] theorem State.setInHand_admissions (s : State) (c : Channel) (e : Option EnergizeInHand) : (s.setInHand c e).admissions = s.admissions := rfl
@[simp] theorem State.setInHand_runs (s : State) (c : Channel) (e : Option EnergizeInHand) : (s.setInHand c e).runs = s.runs := rfl
@[simp] theorem State.setInHand_drivers (s : State) (c : Channel) (e : Option EnergizeInHand) : (s.setInHand c e).drivers = s.drivers := rfl
@[simp] theorem State.setInHand_sense (s : State) (c : Channel) (e : Option EnergizeInHand) : (s.setInHand c e).sense = s.sense := rfl
@[simp] theorem State.setInHand_lines (s : State) (c : Channel) (e : Option EnergizeInHand) : (s.setInHand c e).lines = s.lines := rfl
@[simp] theorem State.setInHand_ports (s : State) (c : Channel) (e : Option EnergizeInHand) : (s.setInHand c e).ports = s.ports := rfl
@[simp] theorem State.setInHand_config (s : State) (c : Channel) (e : Option EnergizeInHand) : (s.setInHand c e).config = s.config := rfl
@[simp] theorem State.setInHand_trunk (s : State) (c : Channel) (e : Option EnergizeInHand) (u : Trunk) : (s.setInHand c e).trunk u = s.trunk u := rfl
@[simp] theorem State.setInHand_acct (s : State) (c : Channel) (e : Option EnergizeInHand) (d : Channel) : (s.setInHand c e).acct d = s.acct d := rfl
@[simp] theorem State.setInHand_chan (s : State) (c : Channel) (e : Option EnergizeInHand) (d : Channel) : (s.setInHand c e).chan d = s.chan d := rfl
@[simp] theorem State.setInHand_viewOf (s : State) (c : Channel) (e : Option EnergizeInHand) (q : Port) : (s.setInHand c e).viewOf q = s.viewOf q := rfl
@[simp] theorem State.setInHand_queue (s : State) (c : Channel) (e : Option EnergizeInHand) (u : Trunk) : (s.setInHand c e).queue u = s.queue u := rfl
@[simp] theorem State.setInHand_pass (s : State) (c : Channel) (e : Option EnergizeInHand) (u : Trunk) : (s.setInHand c e).pass u = s.pass u := rfl
@[simp] theorem State.setInHand_run (s : State) (c : Channel) (e : Option EnergizeInHand) (u : Trunk) : (s.setInHand c e).run u = s.run u := rfl
@[simp] theorem State.setInHand_driver (s : State) (c : Channel) (e : Option EnergizeInHand) (d : Channel) : (s.setInHand c e).driver d = s.driver d := rfl
@[simp] theorem State.setInHand_line (s : State) (c : Channel) (e : Option EnergizeInHand) (k : Line) : (s.setInHand c e).line k = s.line k := rfl
@[simp] theorem State.setInHand_port (s : State) (c : Channel) (e : Option EnergizeInHand) (q : Port) : (s.setInHand c e).port q = s.port q := rfl
@[simp] theorem State.setInHand_self (s : State) (c : Channel) (e : Option EnergizeInHand) : (s.setInHand c e).inHand c = e :=
  updAt_self s.energizing c _
theorem State.setInHand_ne (s : State) (c : Channel) (e : Option EnergizeInHand) (d : Channel) (h : d ≠ c) : (s.setInHand c e).inHand d = s.inHand d :=
  updAt_ne s.energizing c d _ h
theorem State.setInHand_get (s : State) (c : Channel) (e : Option EnergizeInHand) (d : Channel) :
    (s.setInHand c e).inHand d = if d = c then e else s.inHand d :=
  updAt_get s.energizing c d _

/-! ### setRun -/

@[simp] theorem State.setRun_pending (s : State) (t : Trunk) (r : Option Run) : (s.setRun t r).pending = s.pending := rfl
@[simp] theorem State.setRun_inFlight (s : State) (t : Trunk) (r : Option Run) : (s.setRun t r).inFlight = s.inFlight := rfl
@[simp] theorem State.setRun_inReset (s : State) (t : Trunk) (r : Option Run) : (s.setRun t r).inReset = s.inReset := rfl
@[simp] theorem State.setRun_trunks (s : State) (t : Trunk) (r : Option Run) : (s.setRun t r).trunks = s.trunks := rfl
@[simp] theorem State.setRun_accounts (s : State) (t : Trunk) (r : Option Run) : (s.setRun t r).accounts = s.accounts := rfl
@[simp] theorem State.setRun_channels (s : State) (t : Trunk) (r : Option Run) : (s.setRun t r).channels = s.channels := rfl
@[simp] theorem State.setRun_portView (s : State) (t : Trunk) (r : Option Run) : (s.setRun t r).portView = s.portView := rfl
@[simp] theorem State.setRun_heldBack (s : State) (t : Trunk) (r : Option Run) : (s.setRun t r).heldBack = s.heldBack := rfl
@[simp] theorem State.setRun_queues (s : State) (t : Trunk) (r : Option Run) : (s.setRun t r).queues = s.queues := rfl
@[simp] theorem State.setRun_passes (s : State) (t : Trunk) (r : Option Run) : (s.setRun t r).passes = s.passes := rfl
@[simp] theorem State.setRun_energizing (s : State) (t : Trunk) (r : Option Run) : (s.setRun t r).energizing = s.energizing := rfl
@[simp] theorem State.setRun_waiting (s : State) (t : Trunk) (r : Option Run) : (s.setRun t r).waiting = s.waiting := rfl
@[simp] theorem State.setRun_arrivals (s : State) (t : Trunk) (r : Option Run) : (s.setRun t r).arrivals = s.arrivals := rfl
@[simp] theorem State.setRun_admissions (s : State) (t : Trunk) (r : Option Run) : (s.setRun t r).admissions = s.admissions := rfl
@[simp] theorem State.setRun_runs (s : State) (t : Trunk) (r : Option Run) : (s.setRun t r).runs = updAt s.runs t fun _ => r := rfl
@[simp] theorem State.setRun_drivers (s : State) (t : Trunk) (r : Option Run) : (s.setRun t r).drivers = s.drivers := rfl
@[simp] theorem State.setRun_sense (s : State) (t : Trunk) (r : Option Run) : (s.setRun t r).sense = s.sense := rfl
@[simp] theorem State.setRun_lines (s : State) (t : Trunk) (r : Option Run) : (s.setRun t r).lines = s.lines := rfl
@[simp] theorem State.setRun_ports (s : State) (t : Trunk) (r : Option Run) : (s.setRun t r).ports = s.ports := rfl
@[simp] theorem State.setRun_config (s : State) (t : Trunk) (r : Option Run) : (s.setRun t r).config = s.config := rfl
@[simp] theorem State.setRun_trunk (s : State) (t : Trunk) (r : Option Run) (u : Trunk) : (s.setRun t r).trunk u = s.trunk u := rfl
@[simp] theorem State.setRun_acct (s : State) (t : Trunk) (r : Option Run) (d : Channel) : (s.setRun t r).acct d = s.acct d := rfl
@[simp] theorem State.setRun_chan (s : State) (t : Trunk) (r : Option Run) (d : Channel) : (s.setRun t r).chan d = s.chan d := rfl
@[simp] theorem State.setRun_viewOf (s : State) (t : Trunk) (r : Option Run) (q : Port) : (s.setRun t r).viewOf q = s.viewOf q := rfl
@[simp] theorem State.setRun_queue (s : State) (t : Trunk) (r : Option Run) (u : Trunk) : (s.setRun t r).queue u = s.queue u := rfl
@[simp] theorem State.setRun_pass (s : State) (t : Trunk) (r : Option Run) (u : Trunk) : (s.setRun t r).pass u = s.pass u := rfl
@[simp] theorem State.setRun_inHand (s : State) (t : Trunk) (r : Option Run) (d : Channel) : (s.setRun t r).inHand d = s.inHand d := rfl
@[simp] theorem State.setRun_driver (s : State) (t : Trunk) (r : Option Run) (d : Channel) : (s.setRun t r).driver d = s.driver d := rfl
@[simp] theorem State.setRun_line (s : State) (t : Trunk) (r : Option Run) (k : Line) : (s.setRun t r).line k = s.line k := rfl
@[simp] theorem State.setRun_port (s : State) (t : Trunk) (r : Option Run) (q : Port) : (s.setRun t r).port q = s.port q := rfl
@[simp] theorem State.setRun_self (s : State) (t : Trunk) (r : Option Run) : (s.setRun t r).run t = r :=
  updAt_self s.runs t _
theorem State.setRun_ne (s : State) (t : Trunk) (r : Option Run) (u : Trunk) (h : u ≠ t) : (s.setRun t r).run u = s.run u :=
  updAt_ne s.runs t u _ h
theorem State.setRun_get (s : State) (t : Trunk) (r : Option Run) (u : Trunk) :
    (s.setRun t r).run u = if u = t then r else s.run u :=
  updAt_get s.runs t u _

/-! ### updDriver -/

@[simp] theorem State.updDriver_pending (s : State) (c : Channel) (f : Driver → Driver) : (s.updDriver c f).pending = s.pending := rfl
@[simp] theorem State.updDriver_inFlight (s : State) (c : Channel) (f : Driver → Driver) : (s.updDriver c f).inFlight = s.inFlight := rfl
@[simp] theorem State.updDriver_inReset (s : State) (c : Channel) (f : Driver → Driver) : (s.updDriver c f).inReset = s.inReset := rfl
@[simp] theorem State.updDriver_trunks (s : State) (c : Channel) (f : Driver → Driver) : (s.updDriver c f).trunks = s.trunks := rfl
@[simp] theorem State.updDriver_accounts (s : State) (c : Channel) (f : Driver → Driver) : (s.updDriver c f).accounts = s.accounts := rfl
@[simp] theorem State.updDriver_channels (s : State) (c : Channel) (f : Driver → Driver) : (s.updDriver c f).channels = s.channels := rfl
@[simp] theorem State.updDriver_portView (s : State) (c : Channel) (f : Driver → Driver) : (s.updDriver c f).portView = s.portView := rfl
@[simp] theorem State.updDriver_heldBack (s : State) (c : Channel) (f : Driver → Driver) : (s.updDriver c f).heldBack = s.heldBack := rfl
@[simp] theorem State.updDriver_queues (s : State) (c : Channel) (f : Driver → Driver) : (s.updDriver c f).queues = s.queues := rfl
@[simp] theorem State.updDriver_passes (s : State) (c : Channel) (f : Driver → Driver) : (s.updDriver c f).passes = s.passes := rfl
@[simp] theorem State.updDriver_energizing (s : State) (c : Channel) (f : Driver → Driver) : (s.updDriver c f).energizing = s.energizing := rfl
@[simp] theorem State.updDriver_waiting (s : State) (c : Channel) (f : Driver → Driver) : (s.updDriver c f).waiting = s.waiting := rfl
@[simp] theorem State.updDriver_arrivals (s : State) (c : Channel) (f : Driver → Driver) : (s.updDriver c f).arrivals = s.arrivals := rfl
@[simp] theorem State.updDriver_admissions (s : State) (c : Channel) (f : Driver → Driver) : (s.updDriver c f).admissions = s.admissions := rfl
@[simp] theorem State.updDriver_runs (s : State) (c : Channel) (f : Driver → Driver) : (s.updDriver c f).runs = s.runs := rfl
@[simp] theorem State.updDriver_drivers (s : State) (c : Channel) (f : Driver → Driver) : (s.updDriver c f).drivers = updAt s.drivers c f := rfl
@[simp] theorem State.updDriver_sense (s : State) (c : Channel) (f : Driver → Driver) : (s.updDriver c f).sense = s.sense := rfl
@[simp] theorem State.updDriver_lines (s : State) (c : Channel) (f : Driver → Driver) : (s.updDriver c f).lines = s.lines := rfl
@[simp] theorem State.updDriver_ports (s : State) (c : Channel) (f : Driver → Driver) : (s.updDriver c f).ports = s.ports := rfl
@[simp] theorem State.updDriver_config (s : State) (c : Channel) (f : Driver → Driver) : (s.updDriver c f).config = s.config := rfl
@[simp] theorem State.updDriver_trunk (s : State) (c : Channel) (f : Driver → Driver) (u : Trunk) : (s.updDriver c f).trunk u = s.trunk u := rfl
@[simp] theorem State.updDriver_acct (s : State) (c : Channel) (f : Driver → Driver) (d : Channel) : (s.updDriver c f).acct d = s.acct d := rfl
@[simp] theorem State.updDriver_chan (s : State) (c : Channel) (f : Driver → Driver) (d : Channel) : (s.updDriver c f).chan d = s.chan d := rfl
@[simp] theorem State.updDriver_viewOf (s : State) (c : Channel) (f : Driver → Driver) (q : Port) : (s.updDriver c f).viewOf q = s.viewOf q := rfl
@[simp] theorem State.updDriver_queue (s : State) (c : Channel) (f : Driver → Driver) (u : Trunk) : (s.updDriver c f).queue u = s.queue u := rfl
@[simp] theorem State.updDriver_pass (s : State) (c : Channel) (f : Driver → Driver) (u : Trunk) : (s.updDriver c f).pass u = s.pass u := rfl
@[simp] theorem State.updDriver_inHand (s : State) (c : Channel) (f : Driver → Driver) (d : Channel) : (s.updDriver c f).inHand d = s.inHand d := rfl
@[simp] theorem State.updDriver_run (s : State) (c : Channel) (f : Driver → Driver) (u : Trunk) : (s.updDriver c f).run u = s.run u := rfl
@[simp] theorem State.updDriver_line (s : State) (c : Channel) (f : Driver → Driver) (k : Line) : (s.updDriver c f).line k = s.line k := rfl
@[simp] theorem State.updDriver_port (s : State) (c : Channel) (f : Driver → Driver) (q : Port) : (s.updDriver c f).port q = s.port q := rfl
@[simp] theorem State.updDriver_self (s : State) (c : Channel) (f : Driver → Driver) : (s.updDriver c f).driver c = f (s.driver c) :=
  updAt_self s.drivers c _
theorem State.updDriver_ne (s : State) (c : Channel) (f : Driver → Driver) (d : Channel) (h : d ≠ c) : (s.updDriver c f).driver d = s.driver d :=
  updAt_ne s.drivers c d _ h
theorem State.updDriver_get (s : State) (c : Channel) (f : Driver → Driver) (d : Channel) :
    (s.updDriver c f).driver d = if d = c then f (s.driver c) else s.driver d :=
  updAt_get s.drivers c d _

/-! ### updSense -/

@[simp] theorem State.updSense_pending (s : State) (f : Sense → Sense) : (s.updSense f).pending = s.pending := rfl
@[simp] theorem State.updSense_inFlight (s : State) (f : Sense → Sense) : (s.updSense f).inFlight = s.inFlight := rfl
@[simp] theorem State.updSense_inReset (s : State) (f : Sense → Sense) : (s.updSense f).inReset = s.inReset := rfl
@[simp] theorem State.updSense_trunks (s : State) (f : Sense → Sense) : (s.updSense f).trunks = s.trunks := rfl
@[simp] theorem State.updSense_accounts (s : State) (f : Sense → Sense) : (s.updSense f).accounts = s.accounts := rfl
@[simp] theorem State.updSense_channels (s : State) (f : Sense → Sense) : (s.updSense f).channels = s.channels := rfl
@[simp] theorem State.updSense_portView (s : State) (f : Sense → Sense) : (s.updSense f).portView = s.portView := rfl
@[simp] theorem State.updSense_heldBack (s : State) (f : Sense → Sense) : (s.updSense f).heldBack = s.heldBack := rfl
@[simp] theorem State.updSense_queues (s : State) (f : Sense → Sense) : (s.updSense f).queues = s.queues := rfl
@[simp] theorem State.updSense_passes (s : State) (f : Sense → Sense) : (s.updSense f).passes = s.passes := rfl
@[simp] theorem State.updSense_energizing (s : State) (f : Sense → Sense) : (s.updSense f).energizing = s.energizing := rfl
@[simp] theorem State.updSense_waiting (s : State) (f : Sense → Sense) : (s.updSense f).waiting = s.waiting := rfl
@[simp] theorem State.updSense_arrivals (s : State) (f : Sense → Sense) : (s.updSense f).arrivals = s.arrivals := rfl
@[simp] theorem State.updSense_admissions (s : State) (f : Sense → Sense) : (s.updSense f).admissions = s.admissions := rfl
@[simp] theorem State.updSense_runs (s : State) (f : Sense → Sense) : (s.updSense f).runs = s.runs := rfl
@[simp] theorem State.updSense_drivers (s : State) (f : Sense → Sense) : (s.updSense f).drivers = s.drivers := rfl
@[simp] theorem State.updSense_sense (s : State) (f : Sense → Sense) : (s.updSense f).sense = f s.sense := rfl
@[simp] theorem State.updSense_lines (s : State) (f : Sense → Sense) : (s.updSense f).lines = s.lines := rfl
@[simp] theorem State.updSense_ports (s : State) (f : Sense → Sense) : (s.updSense f).ports = s.ports := rfl
@[simp] theorem State.updSense_config (s : State) (f : Sense → Sense) : (s.updSense f).config = s.config := rfl
@[simp] theorem State.updSense_trunk (s : State) (f : Sense → Sense) (u : Trunk) : (s.updSense f).trunk u = s.trunk u := rfl
@[simp] theorem State.updSense_acct (s : State) (f : Sense → Sense) (d : Channel) : (s.updSense f).acct d = s.acct d := rfl
@[simp] theorem State.updSense_chan (s : State) (f : Sense → Sense) (d : Channel) : (s.updSense f).chan d = s.chan d := rfl
@[simp] theorem State.updSense_viewOf (s : State) (f : Sense → Sense) (q : Port) : (s.updSense f).viewOf q = s.viewOf q := rfl
@[simp] theorem State.updSense_queue (s : State) (f : Sense → Sense) (u : Trunk) : (s.updSense f).queue u = s.queue u := rfl
@[simp] theorem State.updSense_pass (s : State) (f : Sense → Sense) (u : Trunk) : (s.updSense f).pass u = s.pass u := rfl
@[simp] theorem State.updSense_inHand (s : State) (f : Sense → Sense) (d : Channel) : (s.updSense f).inHand d = s.inHand d := rfl
@[simp] theorem State.updSense_run (s : State) (f : Sense → Sense) (u : Trunk) : (s.updSense f).run u = s.run u := rfl
@[simp] theorem State.updSense_driver (s : State) (f : Sense → Sense) (d : Channel) : (s.updSense f).driver d = s.driver d := rfl
@[simp] theorem State.updSense_line (s : State) (f : Sense → Sense) (k : Line) : (s.updSense f).line k = s.line k := rfl
@[simp] theorem State.updSense_port (s : State) (f : Sense → Sense) (q : Port) : (s.updSense f).port q = s.port q := rfl

/-! ### updLine -/

@[simp] theorem State.updLine_pending (s : State) (l : Line) (f : LineRec → LineRec) : (s.updLine l f).pending = s.pending := rfl
@[simp] theorem State.updLine_inFlight (s : State) (l : Line) (f : LineRec → LineRec) : (s.updLine l f).inFlight = s.inFlight := rfl
@[simp] theorem State.updLine_inReset (s : State) (l : Line) (f : LineRec → LineRec) : (s.updLine l f).inReset = s.inReset := rfl
@[simp] theorem State.updLine_trunks (s : State) (l : Line) (f : LineRec → LineRec) : (s.updLine l f).trunks = s.trunks := rfl
@[simp] theorem State.updLine_accounts (s : State) (l : Line) (f : LineRec → LineRec) : (s.updLine l f).accounts = s.accounts := rfl
@[simp] theorem State.updLine_channels (s : State) (l : Line) (f : LineRec → LineRec) : (s.updLine l f).channels = s.channels := rfl
@[simp] theorem State.updLine_portView (s : State) (l : Line) (f : LineRec → LineRec) : (s.updLine l f).portView = s.portView := rfl
@[simp] theorem State.updLine_heldBack (s : State) (l : Line) (f : LineRec → LineRec) : (s.updLine l f).heldBack = s.heldBack := rfl
@[simp] theorem State.updLine_queues (s : State) (l : Line) (f : LineRec → LineRec) : (s.updLine l f).queues = s.queues := rfl
@[simp] theorem State.updLine_passes (s : State) (l : Line) (f : LineRec → LineRec) : (s.updLine l f).passes = s.passes := rfl
@[simp] theorem State.updLine_energizing (s : State) (l : Line) (f : LineRec → LineRec) : (s.updLine l f).energizing = s.energizing := rfl
@[simp] theorem State.updLine_waiting (s : State) (l : Line) (f : LineRec → LineRec) : (s.updLine l f).waiting = s.waiting := rfl
@[simp] theorem State.updLine_arrivals (s : State) (l : Line) (f : LineRec → LineRec) : (s.updLine l f).arrivals = s.arrivals := rfl
@[simp] theorem State.updLine_admissions (s : State) (l : Line) (f : LineRec → LineRec) : (s.updLine l f).admissions = s.admissions := rfl
@[simp] theorem State.updLine_runs (s : State) (l : Line) (f : LineRec → LineRec) : (s.updLine l f).runs = s.runs := rfl
@[simp] theorem State.updLine_drivers (s : State) (l : Line) (f : LineRec → LineRec) : (s.updLine l f).drivers = s.drivers := rfl
@[simp] theorem State.updLine_sense (s : State) (l : Line) (f : LineRec → LineRec) : (s.updLine l f).sense = s.sense := rfl
@[simp] theorem State.updLine_lines (s : State) (l : Line) (f : LineRec → LineRec) : (s.updLine l f).lines = updAt s.lines l f := rfl
@[simp] theorem State.updLine_ports (s : State) (l : Line) (f : LineRec → LineRec) : (s.updLine l f).ports = s.ports := rfl
@[simp] theorem State.updLine_config (s : State) (l : Line) (f : LineRec → LineRec) : (s.updLine l f).config = s.config := rfl
@[simp] theorem State.updLine_trunk (s : State) (l : Line) (f : LineRec → LineRec) (u : Trunk) : (s.updLine l f).trunk u = s.trunk u := rfl
@[simp] theorem State.updLine_acct (s : State) (l : Line) (f : LineRec → LineRec) (d : Channel) : (s.updLine l f).acct d = s.acct d := rfl
@[simp] theorem State.updLine_chan (s : State) (l : Line) (f : LineRec → LineRec) (d : Channel) : (s.updLine l f).chan d = s.chan d := rfl
@[simp] theorem State.updLine_viewOf (s : State) (l : Line) (f : LineRec → LineRec) (q : Port) : (s.updLine l f).viewOf q = s.viewOf q := rfl
@[simp] theorem State.updLine_queue (s : State) (l : Line) (f : LineRec → LineRec) (u : Trunk) : (s.updLine l f).queue u = s.queue u := rfl
@[simp] theorem State.updLine_pass (s : State) (l : Line) (f : LineRec → LineRec) (u : Trunk) : (s.updLine l f).pass u = s.pass u := rfl
@[simp] theorem State.updLine_inHand (s : State) (l : Line) (f : LineRec → LineRec) (d : Channel) : (s.updLine l f).inHand d = s.inHand d := rfl
@[simp] theorem State.updLine_run (s : State) (l : Line) (f : LineRec → LineRec) (u : Trunk) : (s.updLine l f).run u = s.run u := rfl
@[simp] theorem State.updLine_driver (s : State) (l : Line) (f : LineRec → LineRec) (d : Channel) : (s.updLine l f).driver d = s.driver d := rfl
@[simp] theorem State.updLine_port (s : State) (l : Line) (f : LineRec → LineRec) (q : Port) : (s.updLine l f).port q = s.port q := rfl
@[simp] theorem State.updLine_self (s : State) (l : Line) (f : LineRec → LineRec) : (s.updLine l f).line l = f (s.line l) :=
  updAt_self s.lines l _
theorem State.updLine_ne (s : State) (l : Line) (f : LineRec → LineRec) (k : Line) (h : k ≠ l) : (s.updLine l f).line k = s.line k :=
  updAt_ne s.lines l k _ h
theorem State.updLine_get (s : State) (l : Line) (f : LineRec → LineRec) (k : Line) :
    (s.updLine l f).line k = if k = l then f (s.line l) else s.line k :=
  updAt_get s.lines l k _

/-! ### updPort -/

@[simp] theorem State.updPort_pending (s : State) (p : Port) (f : PortRec → PortRec) : (s.updPort p f).pending = s.pending := rfl
@[simp] theorem State.updPort_inFlight (s : State) (p : Port) (f : PortRec → PortRec) : (s.updPort p f).inFlight = s.inFlight := rfl
@[simp] theorem State.updPort_inReset (s : State) (p : Port) (f : PortRec → PortRec) : (s.updPort p f).inReset = s.inReset := rfl
@[simp] theorem State.updPort_trunks (s : State) (p : Port) (f : PortRec → PortRec) : (s.updPort p f).trunks = s.trunks := rfl
@[simp] theorem State.updPort_accounts (s : State) (p : Port) (f : PortRec → PortRec) : (s.updPort p f).accounts = s.accounts := rfl
@[simp] theorem State.updPort_channels (s : State) (p : Port) (f : PortRec → PortRec) : (s.updPort p f).channels = s.channels := rfl
@[simp] theorem State.updPort_portView (s : State) (p : Port) (f : PortRec → PortRec) : (s.updPort p f).portView = s.portView := rfl
@[simp] theorem State.updPort_heldBack (s : State) (p : Port) (f : PortRec → PortRec) : (s.updPort p f).heldBack = s.heldBack := rfl
@[simp] theorem State.updPort_queues (s : State) (p : Port) (f : PortRec → PortRec) : (s.updPort p f).queues = s.queues := rfl
@[simp] theorem State.updPort_passes (s : State) (p : Port) (f : PortRec → PortRec) : (s.updPort p f).passes = s.passes := rfl
@[simp] theorem State.updPort_energizing (s : State) (p : Port) (f : PortRec → PortRec) : (s.updPort p f).energizing = s.energizing := rfl
@[simp] theorem State.updPort_waiting (s : State) (p : Port) (f : PortRec → PortRec) : (s.updPort p f).waiting = s.waiting := rfl
@[simp] theorem State.updPort_arrivals (s : State) (p : Port) (f : PortRec → PortRec) : (s.updPort p f).arrivals = s.arrivals := rfl
@[simp] theorem State.updPort_admissions (s : State) (p : Port) (f : PortRec → PortRec) : (s.updPort p f).admissions = s.admissions := rfl
@[simp] theorem State.updPort_runs (s : State) (p : Port) (f : PortRec → PortRec) : (s.updPort p f).runs = s.runs := rfl
@[simp] theorem State.updPort_drivers (s : State) (p : Port) (f : PortRec → PortRec) : (s.updPort p f).drivers = s.drivers := rfl
@[simp] theorem State.updPort_sense (s : State) (p : Port) (f : PortRec → PortRec) : (s.updPort p f).sense = s.sense := rfl
@[simp] theorem State.updPort_lines (s : State) (p : Port) (f : PortRec → PortRec) : (s.updPort p f).lines = s.lines := rfl
@[simp] theorem State.updPort_ports (s : State) (p : Port) (f : PortRec → PortRec) : (s.updPort p f).ports = updAt s.ports p f := rfl
@[simp] theorem State.updPort_config (s : State) (p : Port) (f : PortRec → PortRec) : (s.updPort p f).config = s.config := rfl
@[simp] theorem State.updPort_trunk (s : State) (p : Port) (f : PortRec → PortRec) (u : Trunk) : (s.updPort p f).trunk u = s.trunk u := rfl
@[simp] theorem State.updPort_acct (s : State) (p : Port) (f : PortRec → PortRec) (d : Channel) : (s.updPort p f).acct d = s.acct d := rfl
@[simp] theorem State.updPort_chan (s : State) (p : Port) (f : PortRec → PortRec) (d : Channel) : (s.updPort p f).chan d = s.chan d := rfl
@[simp] theorem State.updPort_viewOf (s : State) (p : Port) (f : PortRec → PortRec) (q : Port) : (s.updPort p f).viewOf q = s.viewOf q := rfl
@[simp] theorem State.updPort_queue (s : State) (p : Port) (f : PortRec → PortRec) (u : Trunk) : (s.updPort p f).queue u = s.queue u := rfl
@[simp] theorem State.updPort_pass (s : State) (p : Port) (f : PortRec → PortRec) (u : Trunk) : (s.updPort p f).pass u = s.pass u := rfl
@[simp] theorem State.updPort_inHand (s : State) (p : Port) (f : PortRec → PortRec) (d : Channel) : (s.updPort p f).inHand d = s.inHand d := rfl
@[simp] theorem State.updPort_run (s : State) (p : Port) (f : PortRec → PortRec) (u : Trunk) : (s.updPort p f).run u = s.run u := rfl
@[simp] theorem State.updPort_driver (s : State) (p : Port) (f : PortRec → PortRec) (d : Channel) : (s.updPort p f).driver d = s.driver d := rfl
@[simp] theorem State.updPort_line (s : State) (p : Port) (f : PortRec → PortRec) (k : Line) : (s.updPort p f).line k = s.line k := rfl
@[simp] theorem State.updPort_self (s : State) (p : Port) (f : PortRec → PortRec) : (s.updPort p f).port p = f (s.port p) :=
  updAt_self s.ports p _
theorem State.updPort_ne (s : State) (p : Port) (f : PortRec → PortRec) (q : Port) (h : q ≠ p) : (s.updPort p f).port q = s.port q :=
  updAt_ne s.ports p q _ h
theorem State.updPort_get (s : State) (p : Port) (f : PortRec → PortRec) (q : Port) :
    (s.updPort p f).port q = if q = p then f (s.port p) else s.port q :=
  updAt_get s.ports p q _

/-! ### updConfig -/

@[simp] theorem State.updConfig_pending (s : State) (f : ConfigRec → ConfigRec) : (s.updConfig f).pending = s.pending := rfl
@[simp] theorem State.updConfig_inFlight (s : State) (f : ConfigRec → ConfigRec) : (s.updConfig f).inFlight = s.inFlight := rfl
@[simp] theorem State.updConfig_inReset (s : State) (f : ConfigRec → ConfigRec) : (s.updConfig f).inReset = s.inReset := rfl
@[simp] theorem State.updConfig_trunks (s : State) (f : ConfigRec → ConfigRec) : (s.updConfig f).trunks = s.trunks := rfl
@[simp] theorem State.updConfig_accounts (s : State) (f : ConfigRec → ConfigRec) : (s.updConfig f).accounts = s.accounts := rfl
@[simp] theorem State.updConfig_channels (s : State) (f : ConfigRec → ConfigRec) : (s.updConfig f).channels = s.channels := rfl
@[simp] theorem State.updConfig_portView (s : State) (f : ConfigRec → ConfigRec) : (s.updConfig f).portView = s.portView := rfl
@[simp] theorem State.updConfig_heldBack (s : State) (f : ConfigRec → ConfigRec) : (s.updConfig f).heldBack = s.heldBack := rfl
@[simp] theorem State.updConfig_queues (s : State) (f : ConfigRec → ConfigRec) : (s.updConfig f).queues = s.queues := rfl
@[simp] theorem State.updConfig_passes (s : State) (f : ConfigRec → ConfigRec) : (s.updConfig f).passes = s.passes := rfl
@[simp] theorem State.updConfig_energizing (s : State) (f : ConfigRec → ConfigRec) : (s.updConfig f).energizing = s.energizing := rfl
@[simp] theorem State.updConfig_waiting (s : State) (f : ConfigRec → ConfigRec) : (s.updConfig f).waiting = s.waiting := rfl
@[simp] theorem State.updConfig_arrivals (s : State) (f : ConfigRec → ConfigRec) : (s.updConfig f).arrivals = s.arrivals := rfl
@[simp] theorem State.updConfig_admissions (s : State) (f : ConfigRec → ConfigRec) : (s.updConfig f).admissions = s.admissions := rfl
@[simp] theorem State.updConfig_runs (s : State) (f : ConfigRec → ConfigRec) : (s.updConfig f).runs = s.runs := rfl
@[simp] theorem State.updConfig_drivers (s : State) (f : ConfigRec → ConfigRec) : (s.updConfig f).drivers = s.drivers := rfl
@[simp] theorem State.updConfig_sense (s : State) (f : ConfigRec → ConfigRec) : (s.updConfig f).sense = s.sense := rfl
@[simp] theorem State.updConfig_lines (s : State) (f : ConfigRec → ConfigRec) : (s.updConfig f).lines = s.lines := rfl
@[simp] theorem State.updConfig_ports (s : State) (f : ConfigRec → ConfigRec) : (s.updConfig f).ports = s.ports := rfl
@[simp] theorem State.updConfig_config (s : State) (f : ConfigRec → ConfigRec) : (s.updConfig f).config = f s.config := rfl
@[simp] theorem State.updConfig_trunk (s : State) (f : ConfigRec → ConfigRec) (u : Trunk) : (s.updConfig f).trunk u = s.trunk u := rfl
@[simp] theorem State.updConfig_acct (s : State) (f : ConfigRec → ConfigRec) (d : Channel) : (s.updConfig f).acct d = s.acct d := rfl
@[simp] theorem State.updConfig_chan (s : State) (f : ConfigRec → ConfigRec) (d : Channel) : (s.updConfig f).chan d = s.chan d := rfl
@[simp] theorem State.updConfig_viewOf (s : State) (f : ConfigRec → ConfigRec) (q : Port) : (s.updConfig f).viewOf q = s.viewOf q := rfl
@[simp] theorem State.updConfig_queue (s : State) (f : ConfigRec → ConfigRec) (u : Trunk) : (s.updConfig f).queue u = s.queue u := rfl
@[simp] theorem State.updConfig_pass (s : State) (f : ConfigRec → ConfigRec) (u : Trunk) : (s.updConfig f).pass u = s.pass u := rfl
@[simp] theorem State.updConfig_inHand (s : State) (f : ConfigRec → ConfigRec) (d : Channel) : (s.updConfig f).inHand d = s.inHand d := rfl
@[simp] theorem State.updConfig_run (s : State) (f : ConfigRec → ConfigRec) (u : Trunk) : (s.updConfig f).run u = s.run u := rfl
@[simp] theorem State.updConfig_driver (s : State) (f : ConfigRec → ConfigRec) (d : Channel) : (s.updConfig f).driver d = s.driver d := rfl
@[simp] theorem State.updConfig_line (s : State) (f : ConfigRec → ConfigRec) (k : Line) : (s.updConfig f).line k = s.line k := rfl
@[simp] theorem State.updConfig_port (s : State) (f : ConfigRec → ConfigRec) (q : Port) : (s.updConfig f).port q = s.port q := rfl

/-! ### setHeldBack -/

@[simp] theorem State.setHeldBack_pending (s : State) (l : List Instr) : (s.setHeldBack l).pending = s.pending := rfl
@[simp] theorem State.setHeldBack_inFlight (s : State) (l : List Instr) : (s.setHeldBack l).inFlight = s.inFlight := rfl
@[simp] theorem State.setHeldBack_inReset (s : State) (l : List Instr) : (s.setHeldBack l).inReset = s.inReset := rfl
@[simp] theorem State.setHeldBack_trunks (s : State) (l : List Instr) : (s.setHeldBack l).trunks = s.trunks := rfl
@[simp] theorem State.setHeldBack_accounts (s : State) (l : List Instr) : (s.setHeldBack l).accounts = s.accounts := rfl
@[simp] theorem State.setHeldBack_channels (s : State) (l : List Instr) : (s.setHeldBack l).channels = s.channels := rfl
@[simp] theorem State.setHeldBack_portView (s : State) (l : List Instr) : (s.setHeldBack l).portView = s.portView := rfl
@[simp] theorem State.setHeldBack_heldBack (s : State) (l : List Instr) : (s.setHeldBack l).heldBack = l := rfl
@[simp] theorem State.setHeldBack_queues (s : State) (l : List Instr) : (s.setHeldBack l).queues = s.queues := rfl
@[simp] theorem State.setHeldBack_passes (s : State) (l : List Instr) : (s.setHeldBack l).passes = s.passes := rfl
@[simp] theorem State.setHeldBack_energizing (s : State) (l : List Instr) : (s.setHeldBack l).energizing = s.energizing := rfl
@[simp] theorem State.setHeldBack_waiting (s : State) (l : List Instr) : (s.setHeldBack l).waiting = s.waiting := rfl
@[simp] theorem State.setHeldBack_arrivals (s : State) (l : List Instr) : (s.setHeldBack l).arrivals = s.arrivals := rfl
@[simp] theorem State.setHeldBack_admissions (s : State) (l : List Instr) : (s.setHeldBack l).admissions = s.admissions := rfl
@[simp] theorem State.setHeldBack_runs (s : State) (l : List Instr) : (s.setHeldBack l).runs = s.runs := rfl
@[simp] theorem State.setHeldBack_drivers (s : State) (l : List Instr) : (s.setHeldBack l).drivers = s.drivers := rfl
@[simp] theorem State.setHeldBack_sense (s : State) (l : List Instr) : (s.setHeldBack l).sense = s.sense := rfl
@[simp] theorem State.setHeldBack_lines (s : State) (l : List Instr) : (s.setHeldBack l).lines = s.lines := rfl
@[simp] theorem State.setHeldBack_ports (s : State) (l : List Instr) : (s.setHeldBack l).ports = s.ports := rfl
@[simp] theorem State.setHeldBack_config (s : State) (l : List Instr) : (s.setHeldBack l).config = s.config := rfl
@[simp] theorem State.setHeldBack_trunk (s : State) (l : List Instr) (u : Trunk) : (s.setHeldBack l).trunk u = s.trunk u := rfl
@[simp] theorem State.setHeldBack_acct (s : State) (l : List Instr) (d : Channel) : (s.setHeldBack l).acct d = s.acct d := rfl
@[simp] theorem State.setHeldBack_chan (s : State) (l : List Instr) (d : Channel) : (s.setHeldBack l).chan d = s.chan d := rfl
@[simp] theorem State.setHeldBack_viewOf (s : State) (l : List Instr) (q : Port) : (s.setHeldBack l).viewOf q = s.viewOf q := rfl
@[simp] theorem State.setHeldBack_queue (s : State) (l : List Instr) (u : Trunk) : (s.setHeldBack l).queue u = s.queue u := rfl
@[simp] theorem State.setHeldBack_pass (s : State) (l : List Instr) (u : Trunk) : (s.setHeldBack l).pass u = s.pass u := rfl
@[simp] theorem State.setHeldBack_inHand (s : State) (l : List Instr) (d : Channel) : (s.setHeldBack l).inHand d = s.inHand d := rfl
@[simp] theorem State.setHeldBack_run (s : State) (l : List Instr) (u : Trunk) : (s.setHeldBack l).run u = s.run u := rfl
@[simp] theorem State.setHeldBack_driver (s : State) (l : List Instr) (d : Channel) : (s.setHeldBack l).driver d = s.driver d := rfl
@[simp] theorem State.setHeldBack_line (s : State) (l : List Instr) (k : Line) : (s.setHeldBack l).line k = s.line k := rfl
@[simp] theorem State.setHeldBack_port (s : State) (l : List Instr) (q : Port) : (s.setHeldBack l).port q = s.port q := rfl

/-! ### setWaiting -/

@[simp] theorem State.setWaiting_pending (s : State) (l : List Instr) : (s.setWaiting l).pending = s.pending := rfl
@[simp] theorem State.setWaiting_inFlight (s : State) (l : List Instr) : (s.setWaiting l).inFlight = s.inFlight := rfl
@[simp] theorem State.setWaiting_inReset (s : State) (l : List Instr) : (s.setWaiting l).inReset = s.inReset := rfl
@[simp] theorem State.setWaiting_trunks (s : State) (l : List Instr) : (s.setWaiting l).trunks = s.trunks := rfl
@[simp] theorem State.setWaiting_accounts (s : State) (l : List Instr) : (s.setWaiting l).accounts = s.accounts := rfl
@[simp] theorem State.setWaiting_channels (s : State) (l : List Instr) : (s.setWaiting l).channels = s.channels := rfl
@[simp] theorem State.setWaiting_portView (s : State) (l : List Instr) : (s.setWaiting l).portView = s.portView := rfl
@[simp] theorem State.setWaiting_heldBack (s : State) (l : List Instr) : (s.setWaiting l).heldBack = s.heldBack := rfl
@[simp] theorem State.setWaiting_queues (s : State) (l : List Instr) : (s.setWaiting l).queues = s.queues := rfl
@[simp] theorem State.setWaiting_passes (s : State) (l : List Instr) : (s.setWaiting l).passes = s.passes := rfl
@[simp] theorem State.setWaiting_energizing (s : State) (l : List Instr) : (s.setWaiting l).energizing = s.energizing := rfl
@[simp] theorem State.setWaiting_waiting (s : State) (l : List Instr) : (s.setWaiting l).waiting = l := rfl
@[simp] theorem State.setWaiting_arrivals (s : State) (l : List Instr) : (s.setWaiting l).arrivals = s.arrivals := rfl
@[simp] theorem State.setWaiting_admissions (s : State) (l : List Instr) : (s.setWaiting l).admissions = s.admissions := rfl
@[simp] theorem State.setWaiting_runs (s : State) (l : List Instr) : (s.setWaiting l).runs = s.runs := rfl
@[simp] theorem State.setWaiting_drivers (s : State) (l : List Instr) : (s.setWaiting l).drivers = s.drivers := rfl
@[simp] theorem State.setWaiting_sense (s : State) (l : List Instr) : (s.setWaiting l).sense = s.sense := rfl
@[simp] theorem State.setWaiting_lines (s : State) (l : List Instr) : (s.setWaiting l).lines = s.lines := rfl
@[simp] theorem State.setWaiting_ports (s : State) (l : List Instr) : (s.setWaiting l).ports = s.ports := rfl
@[simp] theorem State.setWaiting_config (s : State) (l : List Instr) : (s.setWaiting l).config = s.config := rfl
@[simp] theorem State.setWaiting_trunk (s : State) (l : List Instr) (u : Trunk) : (s.setWaiting l).trunk u = s.trunk u := rfl
@[simp] theorem State.setWaiting_acct (s : State) (l : List Instr) (d : Channel) : (s.setWaiting l).acct d = s.acct d := rfl
@[simp] theorem State.setWaiting_chan (s : State) (l : List Instr) (d : Channel) : (s.setWaiting l).chan d = s.chan d := rfl
@[simp] theorem State.setWaiting_viewOf (s : State) (l : List Instr) (q : Port) : (s.setWaiting l).viewOf q = s.viewOf q := rfl
@[simp] theorem State.setWaiting_queue (s : State) (l : List Instr) (u : Trunk) : (s.setWaiting l).queue u = s.queue u := rfl
@[simp] theorem State.setWaiting_pass (s : State) (l : List Instr) (u : Trunk) : (s.setWaiting l).pass u = s.pass u := rfl
@[simp] theorem State.setWaiting_inHand (s : State) (l : List Instr) (d : Channel) : (s.setWaiting l).inHand d = s.inHand d := rfl
@[simp] theorem State.setWaiting_run (s : State) (l : List Instr) (u : Trunk) : (s.setWaiting l).run u = s.run u := rfl
@[simp] theorem State.setWaiting_driver (s : State) (l : List Instr) (d : Channel) : (s.setWaiting l).driver d = s.driver d := rfl
@[simp] theorem State.setWaiting_line (s : State) (l : List Instr) (k : Line) : (s.setWaiting l).line k = s.line k := rfl
@[simp] theorem State.setWaiting_port (s : State) (l : List Instr) (q : Port) : (s.setWaiting l).port q = s.port q := rfl

/-! ### setInFlight -/

@[simp] theorem State.setInFlight_pending (s : State) (l : List Instr) : (s.setInFlight l).pending = s.pending := rfl
@[simp] theorem State.setInFlight_inFlight (s : State) (l : List Instr) : (s.setInFlight l).inFlight = l := rfl
@[simp] theorem State.setInFlight_inReset (s : State) (l : List Instr) : (s.setInFlight l).inReset = s.inReset := rfl
@[simp] theorem State.setInFlight_trunks (s : State) (l : List Instr) : (s.setInFlight l).trunks = s.trunks := rfl
@[simp] theorem State.setInFlight_accounts (s : State) (l : List Instr) : (s.setInFlight l).accounts = s.accounts := rfl
@[simp] theorem State.setInFlight_channels (s : State) (l : List Instr) : (s.setInFlight l).channels = s.channels := rfl
@[simp] theorem State.setInFlight_portView (s : State) (l : List Instr) : (s.setInFlight l).portView = s.portView := rfl
@[simp] theorem State.setInFlight_heldBack (s : State) (l : List Instr) : (s.setInFlight l).heldBack = s.heldBack := rfl
@[simp] theorem State.setInFlight_queues (s : State) (l : List Instr) : (s.setInFlight l).queues = s.queues := rfl
@[simp] theorem State.setInFlight_passes (s : State) (l : List Instr) : (s.setInFlight l).passes = s.passes := rfl
@[simp] theorem State.setInFlight_energizing (s : State) (l : List Instr) : (s.setInFlight l).energizing = s.energizing := rfl
@[simp] theorem State.setInFlight_waiting (s : State) (l : List Instr) : (s.setInFlight l).waiting = s.waiting := rfl
@[simp] theorem State.setInFlight_arrivals (s : State) (l : List Instr) : (s.setInFlight l).arrivals = s.arrivals := rfl
@[simp] theorem State.setInFlight_admissions (s : State) (l : List Instr) : (s.setInFlight l).admissions = s.admissions := rfl
@[simp] theorem State.setInFlight_runs (s : State) (l : List Instr) : (s.setInFlight l).runs = s.runs := rfl
@[simp] theorem State.setInFlight_drivers (s : State) (l : List Instr) : (s.setInFlight l).drivers = s.drivers := rfl
@[simp] theorem State.setInFlight_sense (s : State) (l : List Instr) : (s.setInFlight l).sense = s.sense := rfl
@[simp] theorem State.setInFlight_lines (s : State) (l : List Instr) : (s.setInFlight l).lines = s.lines := rfl
@[simp] theorem State.setInFlight_ports (s : State) (l : List Instr) : (s.setInFlight l).ports = s.ports := rfl
@[simp] theorem State.setInFlight_config (s : State) (l : List Instr) : (s.setInFlight l).config = s.config := rfl
@[simp] theorem State.setInFlight_trunk (s : State) (l : List Instr) (u : Trunk) : (s.setInFlight l).trunk u = s.trunk u := rfl
@[simp] theorem State.setInFlight_acct (s : State) (l : List Instr) (d : Channel) : (s.setInFlight l).acct d = s.acct d := rfl
@[simp] theorem State.setInFlight_chan (s : State) (l : List Instr) (d : Channel) : (s.setInFlight l).chan d = s.chan d := rfl
@[simp] theorem State.setInFlight_viewOf (s : State) (l : List Instr) (q : Port) : (s.setInFlight l).viewOf q = s.viewOf q := rfl
@[simp] theorem State.setInFlight_queue (s : State) (l : List Instr) (u : Trunk) : (s.setInFlight l).queue u = s.queue u := rfl
@[simp] theorem State.setInFlight_pass (s : State) (l : List Instr) (u : Trunk) : (s.setInFlight l).pass u = s.pass u := rfl
@[simp] theorem State.setInFlight_inHand (s : State) (l : List Instr) (d : Channel) : (s.setInFlight l).inHand d = s.inHand d := rfl
@[simp] theorem State.setInFlight_run (s : State) (l : List Instr) (u : Trunk) : (s.setInFlight l).run u = s.run u := rfl
@[simp] theorem State.setInFlight_driver (s : State) (l : List Instr) (d : Channel) : (s.setInFlight l).driver d = s.driver d := rfl
@[simp] theorem State.setInFlight_line (s : State) (l : List Instr) (k : Line) : (s.setInFlight l).line k = s.line k := rfl
@[simp] theorem State.setInFlight_port (s : State) (l : List Instr) (q : Port) : (s.setInFlight l).port q = s.port q := rfl

/-! ### setArrivals -/

@[simp] theorem State.setArrivals_pending (s : State) (n : BitVec 32) : (s.setArrivals n).pending = s.pending := rfl
@[simp] theorem State.setArrivals_inFlight (s : State) (n : BitVec 32) : (s.setArrivals n).inFlight = s.inFlight := rfl
@[simp] theorem State.setArrivals_inReset (s : State) (n : BitVec 32) : (s.setArrivals n).inReset = s.inReset := rfl
@[simp] theorem State.setArrivals_trunks (s : State) (n : BitVec 32) : (s.setArrivals n).trunks = s.trunks := rfl
@[simp] theorem State.setArrivals_accounts (s : State) (n : BitVec 32) : (s.setArrivals n).accounts = s.accounts := rfl
@[simp] theorem State.setArrivals_channels (s : State) (n : BitVec 32) : (s.setArrivals n).channels = s.channels := rfl
@[simp] theorem State.setArrivals_portView (s : State) (n : BitVec 32) : (s.setArrivals n).portView = s.portView := rfl
@[simp] theorem State.setArrivals_heldBack (s : State) (n : BitVec 32) : (s.setArrivals n).heldBack = s.heldBack := rfl
@[simp] theorem State.setArrivals_queues (s : State) (n : BitVec 32) : (s.setArrivals n).queues = s.queues := rfl
@[simp] theorem State.setArrivals_passes (s : State) (n : BitVec 32) : (s.setArrivals n).passes = s.passes := rfl
@[simp] theorem State.setArrivals_energizing (s : State) (n : BitVec 32) : (s.setArrivals n).energizing = s.energizing := rfl
@[simp] theorem State.setArrivals_waiting (s : State) (n : BitVec 32) : (s.setArrivals n).waiting = s.waiting := rfl
@[simp] theorem State.setArrivals_arrivals (s : State) (n : BitVec 32) : (s.setArrivals n).arrivals = n := rfl
@[simp] theorem State.setArrivals_admissions (s : State) (n : BitVec 32) : (s.setArrivals n).admissions = s.admissions := rfl
@[simp] theorem State.setArrivals_runs (s : State) (n : BitVec 32) : (s.setArrivals n).runs = s.runs := rfl
@[simp] theorem State.setArrivals_drivers (s : State) (n : BitVec 32) : (s.setArrivals n).drivers = s.drivers := rfl
@[simp] theorem State.setArrivals_sense (s : State) (n : BitVec 32) : (s.setArrivals n).sense = s.sense := rfl
@[simp] theorem State.setArrivals_lines (s : State) (n : BitVec 32) : (s.setArrivals n).lines = s.lines := rfl
@[simp] theorem State.setArrivals_ports (s : State) (n : BitVec 32) : (s.setArrivals n).ports = s.ports := rfl
@[simp] theorem State.setArrivals_config (s : State) (n : BitVec 32) : (s.setArrivals n).config = s.config := rfl
@[simp] theorem State.setArrivals_trunk (s : State) (n : BitVec 32) (u : Trunk) : (s.setArrivals n).trunk u = s.trunk u := rfl
@[simp] theorem State.setArrivals_acct (s : State) (n : BitVec 32) (d : Channel) : (s.setArrivals n).acct d = s.acct d := rfl
@[simp] theorem State.setArrivals_chan (s : State) (n : BitVec 32) (d : Channel) : (s.setArrivals n).chan d = s.chan d := rfl
@[simp] theorem State.setArrivals_viewOf (s : State) (n : BitVec 32) (q : Port) : (s.setArrivals n).viewOf q = s.viewOf q := rfl
@[simp] theorem State.setArrivals_queue (s : State) (n : BitVec 32) (u : Trunk) : (s.setArrivals n).queue u = s.queue u := rfl
@[simp] theorem State.setArrivals_pass (s : State) (n : BitVec 32) (u : Trunk) : (s.setArrivals n).pass u = s.pass u := rfl
@[simp] theorem State.setArrivals_inHand (s : State) (n : BitVec 32) (d : Channel) : (s.setArrivals n).inHand d = s.inHand d := rfl
@[simp] theorem State.setArrivals_run (s : State) (n : BitVec 32) (u : Trunk) : (s.setArrivals n).run u = s.run u := rfl
@[simp] theorem State.setArrivals_driver (s : State) (n : BitVec 32) (d : Channel) : (s.setArrivals n).driver d = s.driver d := rfl
@[simp] theorem State.setArrivals_line (s : State) (n : BitVec 32) (k : Line) : (s.setArrivals n).line k = s.line k := rfl
@[simp] theorem State.setArrivals_port (s : State) (n : BitVec 32) (q : Port) : (s.setArrivals n).port q = s.port q := rfl

/-! ### setAdmissions -/

@[simp] theorem State.setAdmissions_pending (s : State) (n : BitVec 32) : (s.setAdmissions n).pending = s.pending := rfl
@[simp] theorem State.setAdmissions_inFlight (s : State) (n : BitVec 32) : (s.setAdmissions n).inFlight = s.inFlight := rfl
@[simp] theorem State.setAdmissions_inReset (s : State) (n : BitVec 32) : (s.setAdmissions n).inReset = s.inReset := rfl
@[simp] theorem State.setAdmissions_trunks (s : State) (n : BitVec 32) : (s.setAdmissions n).trunks = s.trunks := rfl
@[simp] theorem State.setAdmissions_accounts (s : State) (n : BitVec 32) : (s.setAdmissions n).accounts = s.accounts := rfl
@[simp] theorem State.setAdmissions_channels (s : State) (n : BitVec 32) : (s.setAdmissions n).channels = s.channels := rfl
@[simp] theorem State.setAdmissions_portView (s : State) (n : BitVec 32) : (s.setAdmissions n).portView = s.portView := rfl
@[simp] theorem State.setAdmissions_heldBack (s : State) (n : BitVec 32) : (s.setAdmissions n).heldBack = s.heldBack := rfl
@[simp] theorem State.setAdmissions_queues (s : State) (n : BitVec 32) : (s.setAdmissions n).queues = s.queues := rfl
@[simp] theorem State.setAdmissions_passes (s : State) (n : BitVec 32) : (s.setAdmissions n).passes = s.passes := rfl
@[simp] theorem State.setAdmissions_energizing (s : State) (n : BitVec 32) : (s.setAdmissions n).energizing = s.energizing := rfl
@[simp] theorem State.setAdmissions_waiting (s : State) (n : BitVec 32) : (s.setAdmissions n).waiting = s.waiting := rfl
@[simp] theorem State.setAdmissions_arrivals (s : State) (n : BitVec 32) : (s.setAdmissions n).arrivals = s.arrivals := rfl
@[simp] theorem State.setAdmissions_admissions (s : State) (n : BitVec 32) : (s.setAdmissions n).admissions = n := rfl
@[simp] theorem State.setAdmissions_runs (s : State) (n : BitVec 32) : (s.setAdmissions n).runs = s.runs := rfl
@[simp] theorem State.setAdmissions_drivers (s : State) (n : BitVec 32) : (s.setAdmissions n).drivers = s.drivers := rfl
@[simp] theorem State.setAdmissions_sense (s : State) (n : BitVec 32) : (s.setAdmissions n).sense = s.sense := rfl
@[simp] theorem State.setAdmissions_lines (s : State) (n : BitVec 32) : (s.setAdmissions n).lines = s.lines := rfl
@[simp] theorem State.setAdmissions_ports (s : State) (n : BitVec 32) : (s.setAdmissions n).ports = s.ports := rfl
@[simp] theorem State.setAdmissions_config (s : State) (n : BitVec 32) : (s.setAdmissions n).config = s.config := rfl
@[simp] theorem State.setAdmissions_trunk (s : State) (n : BitVec 32) (u : Trunk) : (s.setAdmissions n).trunk u = s.trunk u := rfl
@[simp] theorem State.setAdmissions_acct (s : State) (n : BitVec 32) (d : Channel) : (s.setAdmissions n).acct d = s.acct d := rfl
@[simp] theorem State.setAdmissions_chan (s : State) (n : BitVec 32) (d : Channel) : (s.setAdmissions n).chan d = s.chan d := rfl
@[simp] theorem State.setAdmissions_viewOf (s : State) (n : BitVec 32) (q : Port) : (s.setAdmissions n).viewOf q = s.viewOf q := rfl
@[simp] theorem State.setAdmissions_queue (s : State) (n : BitVec 32) (u : Trunk) : (s.setAdmissions n).queue u = s.queue u := rfl
@[simp] theorem State.setAdmissions_pass (s : State) (n : BitVec 32) (u : Trunk) : (s.setAdmissions n).pass u = s.pass u := rfl
@[simp] theorem State.setAdmissions_inHand (s : State) (n : BitVec 32) (d : Channel) : (s.setAdmissions n).inHand d = s.inHand d := rfl
@[simp] theorem State.setAdmissions_run (s : State) (n : BitVec 32) (u : Trunk) : (s.setAdmissions n).run u = s.run u := rfl
@[simp] theorem State.setAdmissions_driver (s : State) (n : BitVec 32) (d : Channel) : (s.setAdmissions n).driver d = s.driver d := rfl
@[simp] theorem State.setAdmissions_line (s : State) (n : BitVec 32) (k : Line) : (s.setAdmissions n).line k = s.line k := rfl
@[simp] theorem State.setAdmissions_port (s : State) (n : BitVec 32) (q : Port) : (s.setAdmissions n).port q = s.port q := rfl

end Sys2Proof.Machine
end

