-- ==== Sys2Proof/Laws/FramesOps.lean ====
section
/-! SUPPORT. Frames: for each operation of the shared operations, the fields of the state that it leaves as they stand. -/

namespace Sys2Proof.Machine

/-- A projection that every step of a fold keeps is kept by the fold. -/
theorem foldl_frame {α β : Type} (g : State → β) {f : State → α → State} {s : State} {x : β} {l : List α}
    (h : ∀ s a, g (f s a) = g s) (hs : g s = x) : g (l.foldl f s) = x := by
  induction l generalizing s with
  | nil => exact hs
  | cons a l ih => exact ih ((h s a).trans hs)

@[simp] theorem State.send_frame (s : State) (m : Instr) :
    (s.send m).pending = s.pending ∧ (s.send m).inReset = s.inReset ∧ (s.send m).trunks = s.trunks ∧
      (s.send m).accounts = s.accounts ∧ (s.send m).channels = s.channels ∧ (s.send m).portView = s.portView ∧
      (s.send m).heldBack = s.heldBack ∧ (s.send m).queues = s.queues ∧ (s.send m).passes = s.passes ∧
      (s.send m).energizing = s.energizing ∧ (s.send m).waiting = s.waiting ∧ (s.send m).arrivals = s.arrivals ∧
      (s.send m).admissions = s.admissions ∧ (s.send m).runs = s.runs ∧ (s.send m).drivers = s.drivers ∧
      (s.send m).sense = s.sense ∧ (s.send m).lines = s.lines ∧ (s.send m).ports = s.ports ∧
      (s.send m).config = s.config := by
  simp [State.send]

@[simp] theorem State.await_frame (s : State) (m : Instr) :
    (s.await m).pending = s.pending ∧ (s.await m).inReset = s.inReset ∧ (s.await m).trunks = s.trunks ∧
      (s.await m).accounts = s.accounts ∧ (s.await m).channels = s.channels ∧ (s.await m).portView = s.portView ∧
      (s.await m).heldBack = s.heldBack ∧ (s.await m).queues = s.queues ∧ (s.await m).passes = s.passes ∧
      (s.await m).energizing = s.energizing ∧ (s.await m).waiting = s.waiting ∧
      (s.await m).arrivals = s.arrivals ∧ (s.await m).admissions = s.admissions ∧ (s.await m).runs = s.runs ∧
      (s.await m).drivers = s.drivers ∧ (s.await m).sense = s.sense ∧ (s.await m).lines = s.lines ∧
      (s.await m).ports = s.ports ∧ (s.await m).config = s.config := by
  simp only [State.await]
  (repeat' split) <;> simp

@[simp] theorem State.arrive_frame (s : State) (m : Instr) :
    (s.arrive m).pending = s.pending ∧ (s.arrive m).inReset = s.inReset ∧ (s.arrive m).trunks = s.trunks ∧
      (s.arrive m).accounts = s.accounts ∧ (s.arrive m).channels = s.channels ∧
      (s.arrive m).portView = s.portView ∧ (s.arrive m).heldBack = s.heldBack ∧ (s.arrive m).queues = s.queues ∧
      (s.arrive m).passes = s.passes ∧ (s.arrive m).energizing = s.energizing ∧ (s.arrive m).waiting = s.waiting ∧
      (s.arrive m).arrivals = s.arrivals ∧ (s.arrive m).admissions = s.admissions ∧ (s.arrive m).runs = s.runs ∧
      (s.arrive m).drivers = s.drivers ∧ (s.arrive m).sense = s.sense ∧ (s.arrive m).lines = s.lines ∧
      (s.arrive m).ports = s.ports ∧ (s.arrive m).config = s.config := by
  simp [State.arrive]

@[simp] theorem State.respond_frame (s : State) (p : Port) (status : Status) (payload : List Byte) :
    (s.respond p status payload).pending = s.pending ∧ (s.respond p status payload).inReset = s.inReset ∧
      (s.respond p status payload).trunks = s.trunks ∧ (s.respond p status payload).accounts = s.accounts ∧
      (s.respond p status payload).channels = s.channels ∧ (s.respond p status payload).portView = s.portView ∧
      (s.respond p status payload).heldBack = s.heldBack ∧ (s.respond p status payload).queues = s.queues ∧
      (s.respond p status payload).passes = s.passes ∧ (s.respond p status payload).energizing = s.energizing ∧
      (s.respond p status payload).waiting = s.waiting ∧ (s.respond p status payload).arrivals = s.arrivals ∧
      (s.respond p status payload).admissions = s.admissions ∧ (s.respond p status payload).runs = s.runs ∧
      (s.respond p status payload).drivers = s.drivers ∧ (s.respond p status payload).sense = s.sense ∧
      (s.respond p status payload).lines = s.lines ∧ (s.respond p status payload).ports = s.ports ∧
      (s.respond p status payload).config = s.config := by
  simp [State.respond]

@[simp] theorem State.serviceEvent_frame (s : State) (t : Trunk) :
    (s.serviceEvent t).pending = s.pending ∧ (s.serviceEvent t).inReset = s.inReset ∧
      (s.serviceEvent t).trunks = s.trunks ∧ (s.serviceEvent t).accounts = s.accounts ∧
      (s.serviceEvent t).channels = s.channels ∧ (s.serviceEvent t).portView = s.portView ∧
      (s.serviceEvent t).heldBack = s.heldBack ∧ (s.serviceEvent t).queues = s.queues ∧
      (s.serviceEvent t).passes = s.passes ∧ (s.serviceEvent t).energizing = s.energizing ∧
      (s.serviceEvent t).waiting = s.waiting ∧ (s.serviceEvent t).arrivals = s.arrivals ∧
      (s.serviceEvent t).admissions = s.admissions ∧ (s.serviceEvent t).runs = s.runs ∧
      (s.serviceEvent t).drivers = s.drivers ∧ (s.serviceEvent t).sense = s.sense ∧
      (s.serviceEvent t).lines = s.lines ∧ (s.serviceEvent t).ports = s.ports ∧
      (s.serviceEvent t).config = s.config := by
  simp [State.serviceEvent]

@[simp] theorem State.post_frame (s : State) (b : Block) (p : Port) (n : Notice) :
    (s.post b p n).pending = s.pending ∧ (s.post b p n).inReset = s.inReset ∧ (s.post b p n).trunks = s.trunks ∧
      (s.post b p n).accounts = s.accounts ∧ (s.post b p n).channels = s.channels ∧
      (s.post b p n).portView = s.portView ∧ (s.post b p n).heldBack = s.heldBack ∧
      (s.post b p n).queues = s.queues ∧ (s.post b p n).passes = s.passes ∧
      (s.post b p n).energizing = s.energizing ∧ (s.post b p n).waiting = s.waiting ∧
      (s.post b p n).arrivals = s.arrivals ∧ (s.post b p n).admissions = s.admissions ∧
      (s.post b p n).runs = s.runs ∧ (s.post b p n).drivers = s.drivers ∧ (s.post b p n).sense = s.sense ∧
      (s.post b p n).lines = s.lines ∧ (s.post b p n).ports = s.ports ∧ (s.post b p n).config = s.config := by
  simp [State.post]

@[simp] theorem State.postHolder_frame (s : State) (b : Block) (c : Channel) (n : Notice) :
    (s.postHolder b c n).pending = s.pending ∧ (s.postHolder b c n).inReset = s.inReset ∧
      (s.postHolder b c n).trunks = s.trunks ∧ (s.postHolder b c n).accounts = s.accounts ∧
      (s.postHolder b c n).channels = s.channels ∧ (s.postHolder b c n).portView = s.portView ∧
      (s.postHolder b c n).heldBack = s.heldBack ∧ (s.postHolder b c n).queues = s.queues ∧
      (s.postHolder b c n).passes = s.passes ∧ (s.postHolder b c n).energizing = s.energizing ∧
      (s.postHolder b c n).waiting = s.waiting ∧ (s.postHolder b c n).arrivals = s.arrivals ∧
      (s.postHolder b c n).admissions = s.admissions ∧ (s.postHolder b c n).runs = s.runs ∧
      (s.postHolder b c n).drivers = s.drivers ∧ (s.postHolder b c n).sense = s.sense ∧
      (s.postHolder b c n).lines = s.lines ∧ (s.postHolder b c n).ports = s.ports ∧
      (s.postHolder b c n).config = s.config := by
  simp only [State.postHolder]
  (repeat' split) <;> simp

@[simp] theorem State.postTrunk_frame (s : State) (t : Trunk) (n : Notice) :
    (s.postTrunk t n).pending = s.pending ∧ (s.postTrunk t n).inReset = s.inReset ∧
      (s.postTrunk t n).trunks = s.trunks ∧ (s.postTrunk t n).accounts = s.accounts ∧
      (s.postTrunk t n).channels = s.channels ∧ (s.postTrunk t n).portView = s.portView ∧
      (s.postTrunk t n).heldBack = s.heldBack ∧ (s.postTrunk t n).queues = s.queues ∧
      (s.postTrunk t n).passes = s.passes ∧ (s.postTrunk t n).energizing = s.energizing ∧
      (s.postTrunk t n).waiting = s.waiting ∧ (s.postTrunk t n).arrivals = s.arrivals ∧
      (s.postTrunk t n).admissions = s.admissions ∧ (s.postTrunk t n).runs = s.runs ∧
      (s.postTrunk t n).drivers = s.drivers ∧ (s.postTrunk t n).sense = s.sense ∧
      (s.postTrunk t n).lines = s.lines ∧ (s.postTrunk t n).ports = s.ports ∧
      (s.postTrunk t n).config = s.config := by
  simp only [State.postTrunk]
  and_intros
  · exact foldl_frame State.pending (by simp) (by simp)
  · exact foldl_frame State.inReset (by simp) (by simp)
  · exact foldl_frame State.trunks (by simp) (by simp)
  · exact foldl_frame State.accounts (by simp) (by simp)
  · exact foldl_frame State.channels (by simp) (by simp)
  · exact foldl_frame State.portView (by simp) (by simp)
  · exact foldl_frame State.heldBack (by simp) (by simp)
  · exact foldl_frame State.queues (by simp) (by simp)
  · exact foldl_frame State.passes (by simp) (by simp)
  · exact foldl_frame State.energizing (by simp) (by simp)
  · exact foldl_frame State.waiting (by simp) (by simp)
  · exact foldl_frame State.arrivals (by simp) (by simp)
  · exact foldl_frame State.admissions (by simp) (by simp)
  · exact foldl_frame State.runs (by simp) (by simp)
  · exact foldl_frame State.drivers (by simp) (by simp)
  · exact foldl_frame State.sense (by simp) (by simp)
  · exact foldl_frame State.lines (by simp) (by simp)
  · exact foldl_frame State.ports (by simp) (by simp)
  · exact foldl_frame State.config (by simp) (by simp)

@[simp] theorem State.charge_frame (s : State) (c : Channel) (t : Trunk) (mA : Nat) :
    (s.charge c t mA).pending = s.pending ∧ (s.charge c t mA).inReset = s.inReset ∧
      (s.charge c t mA).channels = s.channels ∧ (s.charge c t mA).portView = s.portView ∧
      (s.charge c t mA).heldBack = s.heldBack ∧ (s.charge c t mA).queues = s.queues ∧
      (s.charge c t mA).passes = s.passes ∧ (s.charge c t mA).energizing = s.energizing ∧
      (s.charge c t mA).waiting = s.waiting ∧ (s.charge c t mA).arrivals = s.arrivals ∧
      (s.charge c t mA).admissions = s.admissions ∧ (s.charge c t mA).runs = s.runs ∧
      (s.charge c t mA).drivers = s.drivers ∧ (s.charge c t mA).sense = s.sense ∧
      (s.charge c t mA).lines = s.lines ∧ (s.charge c t mA).ports = s.ports ∧
      (s.charge c t mA).config = s.config := by
  simp only [State.charge]
  (repeat' split) <;> simp

@[simp] theorem State.returnCharge_frame (s : State) (c : Channel) :
    (s.returnCharge c).pending = s.pending ∧ (s.returnCharge c).inReset = s.inReset ∧
      (s.returnCharge c).channels = s.channels ∧ (s.returnCharge c).portView = s.portView ∧
      (s.returnCharge c).heldBack = s.heldBack ∧ (s.returnCharge c).queues = s.queues ∧
      (s.returnCharge c).passes = s.passes ∧ (s.returnCharge c).energizing = s.energizing ∧
      (s.returnCharge c).waiting = s.waiting ∧ (s.returnCharge c).arrivals = s.arrivals ∧
      (s.returnCharge c).admissions = s.admissions ∧ (s.returnCharge c).runs = s.runs ∧
      (s.returnCharge c).drivers = s.drivers ∧ (s.returnCharge c).sense = s.sense ∧
      (s.returnCharge c).lines = s.lines ∧ (s.returnCharge c).ports = s.ports ∧
      (s.returnCharge c).config = s.config := by
  simp only [State.returnCharge]
  (repeat' split) <;> simp

@[simp] theorem State.lowerCharge_frame (s : State) (c : Channel) :
    (s.lowerCharge c).pending = s.pending ∧ (s.lowerCharge c).inReset = s.inReset ∧
      (s.lowerCharge c).channels = s.channels ∧ (s.lowerCharge c).portView = s.portView ∧
      (s.lowerCharge c).heldBack = s.heldBack ∧ (s.lowerCharge c).queues = s.queues ∧
      (s.lowerCharge c).passes = s.passes ∧ (s.lowerCharge c).energizing = s.energizing ∧
      (s.lowerCharge c).waiting = s.waiting ∧ (s.lowerCharge c).arrivals = s.arrivals ∧
      (s.lowerCharge c).admissions = s.admissions ∧ (s.lowerCharge c).runs = s.runs ∧
      (s.lowerCharge c).drivers = s.drivers ∧ (s.lowerCharge c).sense = s.sense ∧
      (s.lowerCharge c).lines = s.lines ∧ (s.lowerCharge c).ports = s.ports ∧
      (s.lowerCharge c).config = s.config := by
  simp only [State.lowerCharge]
  (repeat' split) <;> simp

@[simp] theorem State.sampleOutput_frame (s : State) (c : Channel) :
    (s.sampleOutput c).pending = s.pending ∧ (s.sampleOutput c).inReset = s.inReset ∧
      (s.sampleOutput c).trunks = s.trunks ∧ (s.sampleOutput c).accounts = s.accounts ∧
      (s.sampleOutput c).channels = s.channels ∧ (s.sampleOutput c).portView = s.portView ∧
      (s.sampleOutput c).heldBack = s.heldBack ∧ (s.sampleOutput c).queues = s.queues ∧
      (s.sampleOutput c).passes = s.passes ∧ (s.sampleOutput c).energizing = s.energizing ∧
      (s.sampleOutput c).waiting = s.waiting ∧ (s.sampleOutput c).arrivals = s.arrivals ∧
      (s.sampleOutput c).admissions = s.admissions ∧ (s.sampleOutput c).runs = s.runs ∧
      (s.sampleOutput c).drivers = s.drivers ∧ (s.sampleOutput c).lines = s.lines ∧
      (s.sampleOutput c).ports = s.ports ∧ (s.sampleOutput c).config = s.config := by
  simp [State.sampleOutput]

@[simp] theorem State.endPulse_frame (s : State) (c : Channel) :
    (s.endPulse c).pending = s.pending ∧ (s.endPulse c).inFlight = s.inFlight ∧
      (s.endPulse c).inReset = s.inReset ∧ (s.endPulse c).trunks = s.trunks ∧
      (s.endPulse c).accounts = s.accounts ∧ (s.endPulse c).channels = s.channels ∧
      (s.endPulse c).portView = s.portView ∧ (s.endPulse c).heldBack = s.heldBack ∧
      (s.endPulse c).queues = s.queues ∧ (s.endPulse c).passes = s.passes ∧
      (s.endPulse c).energizing = s.energizing ∧ (s.endPulse c).waiting = s.waiting ∧
      (s.endPulse c).arrivals = s.arrivals ∧ (s.endPulse c).admissions = s.admissions ∧
      (s.endPulse c).runs = s.runs ∧ (s.endPulse c).sense = s.sense ∧ (s.endPulse c).lines = s.lines ∧
      (s.endPulse c).ports = s.ports ∧ (s.endPulse c).config = s.config := by
  simp [State.endPulse]

@[simp] theorem State.leaveQueue_frame (s : State) (c : Channel) :
    (s.leaveQueue c).pending = s.pending ∧ (s.leaveQueue c).inFlight = s.inFlight ∧
      (s.leaveQueue c).inReset = s.inReset ∧ (s.leaveQueue c).trunks = s.trunks ∧
      (s.leaveQueue c).accounts = s.accounts ∧ (s.leaveQueue c).channels = s.channels ∧
      (s.leaveQueue c).portView = s.portView ∧ (s.leaveQueue c).heldBack = s.heldBack ∧
      (s.leaveQueue c).passes = s.passes ∧ (s.leaveQueue c).energizing = s.energizing ∧
      (s.leaveQueue c).waiting = s.waiting ∧ (s.leaveQueue c).arrivals = s.arrivals ∧
      (s.leaveQueue c).admissions = s.admissions ∧ (s.leaveQueue c).runs = s.runs ∧
      (s.leaveQueue c).drivers = s.drivers ∧ (s.leaveQueue c).sense = s.sense ∧ (s.leaveQueue c).lines = s.lines ∧
      (s.leaveQueue c).ports = s.ports ∧ (s.leaveQueue c).config = s.config := by
  simp only [State.leaveQueue]
  (repeat' split) <;> simp

@[simp] theorem State.removeEntry_frame (s : State) (c : Channel) :
    (s.removeEntry c).pending = s.pending ∧ (s.removeEntry c).inReset = s.inReset ∧
      (s.removeEntry c).trunks = s.trunks ∧ (s.removeEntry c).accounts = s.accounts ∧
      (s.removeEntry c).channels = s.channels ∧ (s.removeEntry c).portView = s.portView ∧
      (s.removeEntry c).heldBack = s.heldBack ∧ (s.removeEntry c).passes = s.passes ∧
      (s.removeEntry c).energizing = s.energizing ∧ (s.removeEntry c).waiting = s.waiting ∧
      (s.removeEntry c).arrivals = s.arrivals ∧ (s.removeEntry c).admissions = s.admissions ∧
      (s.removeEntry c).runs = s.runs ∧ (s.removeEntry c).drivers = s.drivers ∧
      (s.removeEntry c).sense = s.sense ∧ (s.removeEntry c).lines = s.lines ∧ (s.removeEntry c).ports = s.ports ∧
      (s.removeEntry c).config = s.config := by
  simp only [State.removeEntry]
  (repeat' split) <;> simp

@[simp] theorem State.quit_frame (s : State) (c : Channel) (left : ChanState) (abort : Bool) :
    (s.quit c left abort).pending = s.pending ∧ (s.quit c left abort).inReset = s.inReset ∧
      (s.quit c left abort).channels = s.channels ∧ (s.quit c left abort).portView = s.portView ∧
      (s.quit c left abort).heldBack = s.heldBack ∧ (s.quit c left abort).passes = s.passes ∧
      (s.quit c left abort).energizing = s.energizing ∧ (s.quit c left abort).waiting = s.waiting ∧
      (s.quit c left abort).arrivals = s.arrivals ∧ (s.quit c left abort).admissions = s.admissions ∧
      (s.quit c left abort).runs = s.runs ∧ (s.quit c left abort).drivers = s.drivers ∧
      (s.quit c left abort).sense = s.sense ∧ (s.quit c left abort).lines = s.lines ∧
      (s.quit c left abort).ports = s.ports ∧ (s.quit c left abort).config = s.config := by
  simp only [State.quit]
  (repeat' split) <;> simp

@[simp] theorem State.leaveFor_frame (s : State) (c : Channel) (st : ChanState) (abort : Bool) (f : ChannelRec → ChannelRec) :
    (s.leaveFor c st abort f).pending = s.pending ∧ (s.leaveFor c st abort f).inReset = s.inReset ∧
      (s.leaveFor c st abort f).portView = s.portView ∧ (s.leaveFor c st abort f).heldBack = s.heldBack ∧
      (s.leaveFor c st abort f).passes = s.passes ∧ (s.leaveFor c st abort f).energizing = s.energizing ∧
      (s.leaveFor c st abort f).waiting = s.waiting ∧ (s.leaveFor c st abort f).arrivals = s.arrivals ∧
      (s.leaveFor c st abort f).admissions = s.admissions ∧ (s.leaveFor c st abort f).runs = s.runs ∧
      (s.leaveFor c st abort f).sense = s.sense ∧ (s.leaveFor c st abort f).lines = s.lines ∧
      (s.leaveFor c st abort f).ports = s.ports ∧ (s.leaveFor c st abort f).config = s.config := by
  simp [State.leaveFor]

@[simp] theorem State.endLease_frame (s : State) (c : Channel) (ownRelease : Bool) (abort : Bool) :
    (s.endLease c ownRelease abort).pending = s.pending ∧ (s.endLease c ownRelease abort).inReset = s.inReset ∧
      (s.endLease c ownRelease abort).portView = s.portView ∧
      (s.endLease c ownRelease abort).heldBack = s.heldBack ∧ (s.endLease c ownRelease abort).passes = s.passes ∧
      (s.endLease c ownRelease abort).energizing = s.energizing ∧
      (s.endLease c ownRelease abort).waiting = s.waiting ∧
      (s.endLease c ownRelease abort).arrivals = s.arrivals ∧
      (s.endLease c ownRelease abort).admissions = s.admissions ∧ (s.endLease c ownRelease abort).runs = s.runs ∧
      (s.endLease c ownRelease abort).sense = s.sense ∧ (s.endLease c ownRelease abort).lines = s.lines ∧
      (s.endLease c ownRelease abort).ports = s.ports ∧ (s.endLease c ownRelease abort).config = s.config := by
  simp only [State.endLease]
  (repeat' split) <;> simp

@[simp] theorem State.takeFault_frame (s : State) (c : Channel) (cause : FaultCause) (abort : Bool) :
    (s.takeFault c cause abort).pending = s.pending ∧ (s.takeFault c cause abort).inReset = s.inReset ∧
      (s.takeFault c cause abort).portView = s.portView ∧ (s.takeFault c cause abort).heldBack = s.heldBack ∧
      (s.takeFault c cause abort).passes = s.passes ∧ (s.takeFault c cause abort).energizing = s.energizing ∧
      (s.takeFault c cause abort).waiting = s.waiting ∧ (s.takeFault c cause abort).arrivals = s.arrivals ∧
      (s.takeFault c cause abort).admissions = s.admissions ∧ (s.takeFault c cause abort).runs = s.runs ∧
      (s.takeFault c cause abort).sense = s.sense ∧ (s.takeFault c cause abort).lines = s.lines ∧
      (s.takeFault c cause abort).ports = s.ports ∧ (s.takeFault c cause abort).config = s.config := by
  simp only [State.takeFault]
  (repeat' split) <;> simp

end Sys2Proof.Machine
end

