-- ==== Sys2Proof/Laws/FramesPort.lean ====
section
/-! SUPPORT. Frames: for each operation of the Port Units, the fields of the state that it leaves as they stand. -/

namespace Sys2Proof.Machine

@[simp] theorem State.finish_frame (s : State) (p : Port) (st : Status) (payload : List Byte) :
    (s.finish p st payload).pending = s.pending ∧ (s.finish p st payload).inFlight = s.inFlight ∧
      (s.finish p st payload).inReset = s.inReset ∧ (s.finish p st payload).trunks = s.trunks ∧
      (s.finish p st payload).accounts = s.accounts ∧ (s.finish p st payload).channels = s.channels ∧
      (s.finish p st payload).portView = s.portView ∧ (s.finish p st payload).heldBack = s.heldBack ∧
      (s.finish p st payload).queues = s.queues ∧ (s.finish p st payload).passes = s.passes ∧
      (s.finish p st payload).energizing = s.energizing ∧ (s.finish p st payload).waiting = s.waiting ∧
      (s.finish p st payload).arrivals = s.arrivals ∧ (s.finish p st payload).admissions = s.admissions ∧
      (s.finish p st payload).runs = s.runs ∧ (s.finish p st payload).drivers = s.drivers ∧
      (s.finish p st payload).sense = s.sense ∧ (s.finish p st payload).lines = s.lines ∧
      (s.finish p st payload).config = s.config := by
  simp only [State.finish]
  (repeat' split) <;> simp

@[simp] theorem State.ownOpen_frame (s : State) (p : Port) (period : Byte) :
    (s.ownOpen p period).pending = s.pending ∧ (s.ownOpen p period).inReset = s.inReset ∧
      (s.ownOpen p period).trunks = s.trunks ∧ (s.ownOpen p period).accounts = s.accounts ∧
      (s.ownOpen p period).channels = s.channels ∧ (s.ownOpen p period).portView = s.portView ∧
      (s.ownOpen p period).heldBack = s.heldBack ∧ (s.ownOpen p period).queues = s.queues ∧
      (s.ownOpen p period).passes = s.passes ∧ (s.ownOpen p period).energizing = s.energizing ∧
      (s.ownOpen p period).waiting = s.waiting ∧ (s.ownOpen p period).arrivals = s.arrivals ∧
      (s.ownOpen p period).admissions = s.admissions ∧ (s.ownOpen p period).runs = s.runs ∧
      (s.ownOpen p period).drivers = s.drivers ∧ (s.ownOpen p period).sense = s.sense ∧
      (s.ownOpen p period).lines = s.lines ∧ (s.ownOpen p period).config = s.config := by
  simp only [State.ownOpen]
  (repeat' split) <;> simp

@[simp] theorem State.ownClose_frame (s : State) (p : Port) :
    (s.ownClose p).pending = s.pending ∧ (s.ownClose p).inReset = s.inReset ∧ (s.ownClose p).trunks = s.trunks ∧
      (s.ownClose p).accounts = s.accounts ∧ (s.ownClose p).channels = s.channels ∧
      (s.ownClose p).portView = s.portView ∧ (s.ownClose p).heldBack = s.heldBack ∧
      (s.ownClose p).queues = s.queues ∧ (s.ownClose p).passes = s.passes ∧
      (s.ownClose p).energizing = s.energizing ∧ (s.ownClose p).waiting = s.waiting ∧
      (s.ownClose p).arrivals = s.arrivals ∧ (s.ownClose p).admissions = s.admissions ∧
      (s.ownClose p).runs = s.runs ∧ (s.ownClose p).drivers = s.drivers ∧ (s.ownClose p).sense = s.sense ∧
      (s.ownClose p).lines = s.lines ∧ (s.ownClose p).config = s.config := by
  simp [State.ownClose]

@[simp] theorem State.ownPing_frame (s : State) (p : Port) :
    (s.ownPing p).pending = s.pending ∧ (s.ownPing p).inFlight = s.inFlight ∧ (s.ownPing p).inReset = s.inReset ∧
      (s.ownPing p).trunks = s.trunks ∧ (s.ownPing p).accounts = s.accounts ∧
      (s.ownPing p).channels = s.channels ∧ (s.ownPing p).portView = s.portView ∧
      (s.ownPing p).heldBack = s.heldBack ∧ (s.ownPing p).queues = s.queues ∧ (s.ownPing p).passes = s.passes ∧
      (s.ownPing p).energizing = s.energizing ∧ (s.ownPing p).waiting = s.waiting ∧
      (s.ownPing p).arrivals = s.arrivals ∧ (s.ownPing p).admissions = s.admissions ∧
      (s.ownPing p).runs = s.runs ∧ (s.ownPing p).drivers = s.drivers ∧ (s.ownPing p).sense = s.sense ∧
      (s.ownPing p).lines = s.lines ∧ (s.ownPing p).config = s.config := by
  simp [State.ownPing]

@[simp] theorem State.ownReadPort_frame (s : State) (p : Port) (port : Byte) :
    (s.ownReadPort p port).pending = s.pending ∧ (s.ownReadPort p port).inFlight = s.inFlight ∧
      (s.ownReadPort p port).inReset = s.inReset ∧ (s.ownReadPort p port).trunks = s.trunks ∧
      (s.ownReadPort p port).accounts = s.accounts ∧ (s.ownReadPort p port).channels = s.channels ∧
      (s.ownReadPort p port).portView = s.portView ∧ (s.ownReadPort p port).heldBack = s.heldBack ∧
      (s.ownReadPort p port).queues = s.queues ∧ (s.ownReadPort p port).passes = s.passes ∧
      (s.ownReadPort p port).energizing = s.energizing ∧ (s.ownReadPort p port).waiting = s.waiting ∧
      (s.ownReadPort p port).arrivals = s.arrivals ∧ (s.ownReadPort p port).admissions = s.admissions ∧
      (s.ownReadPort p port).runs = s.runs ∧ (s.ownReadPort p port).drivers = s.drivers ∧
      (s.ownReadPort p port).sense = s.sense ∧ (s.ownReadPort p port).lines = s.lines ∧
      (s.ownReadPort p port).config = s.config := by
  simp only [State.ownReadPort]
  (repeat' split) <;> simp

@[simp] theorem State.ownReadIdent_frame (s : State) (p : Port) :
    (s.ownReadIdent p).pending = s.pending ∧ (s.ownReadIdent p).inFlight = s.inFlight ∧
      (s.ownReadIdent p).inReset = s.inReset ∧ (s.ownReadIdent p).trunks = s.trunks ∧
      (s.ownReadIdent p).accounts = s.accounts ∧ (s.ownReadIdent p).channels = s.channels ∧
      (s.ownReadIdent p).portView = s.portView ∧ (s.ownReadIdent p).heldBack = s.heldBack ∧
      (s.ownReadIdent p).queues = s.queues ∧ (s.ownReadIdent p).passes = s.passes ∧
      (s.ownReadIdent p).energizing = s.energizing ∧ (s.ownReadIdent p).waiting = s.waiting ∧
      (s.ownReadIdent p).arrivals = s.arrivals ∧ (s.ownReadIdent p).admissions = s.admissions ∧
      (s.ownReadIdent p).runs = s.runs ∧ (s.ownReadIdent p).drivers = s.drivers ∧
      (s.ownReadIdent p).sense = s.sense ∧ (s.ownReadIdent p).lines = s.lines ∧
      (s.ownReadIdent p).config = s.config := by
  simp [State.ownReadIdent]

@[simp] theorem State.ownReadNotice_frame (s : State) (p : Port) :
    (s.ownReadNotice p).pending = s.pending ∧ (s.ownReadNotice p).inFlight = s.inFlight ∧
      (s.ownReadNotice p).inReset = s.inReset ∧ (s.ownReadNotice p).trunks = s.trunks ∧
      (s.ownReadNotice p).accounts = s.accounts ∧ (s.ownReadNotice p).channels = s.channels ∧
      (s.ownReadNotice p).portView = s.portView ∧ (s.ownReadNotice p).heldBack = s.heldBack ∧
      (s.ownReadNotice p).queues = s.queues ∧ (s.ownReadNotice p).passes = s.passes ∧
      (s.ownReadNotice p).energizing = s.energizing ∧ (s.ownReadNotice p).waiting = s.waiting ∧
      (s.ownReadNotice p).arrivals = s.arrivals ∧ (s.ownReadNotice p).admissions = s.admissions ∧
      (s.ownReadNotice p).runs = s.runs ∧ (s.ownReadNotice p).drivers = s.drivers ∧
      (s.ownReadNotice p).sense = s.sense ∧ (s.ownReadNotice p).lines = s.lines ∧
      (s.ownReadNotice p).config = s.config := by
  simp only [State.ownReadNotice]
  (repeat' split) <;> simp

end Sys2Proof.Machine
end

