-- ==== Sys2Proof/Laws/FramesService.lean ====
section
/-! SUPPORT. Frames: for each operation of a service pass, the fields of the state that it leaves as they stand. -/

namespace Sys2Proof.Machine

@[simp] theorem State.offerHead_frame (s : State) (t : Trunk) :
    (s.offerHead t).pending = s.pending ∧ (s.offerHead t).inReset = s.inReset ∧
      (s.offerHead t).trunks = s.trunks ∧ (s.offerHead t).accounts = s.accounts ∧
      (s.offerHead t).channels = s.channels ∧ (s.offerHead t).portView = s.portView ∧
      (s.offerHead t).heldBack = s.heldBack ∧ (s.offerHead t).queues = s.queues ∧
      (s.offerHead t).energizing = s.energizing ∧ (s.offerHead t).waiting = s.waiting ∧
      (s.offerHead t).arrivals = s.arrivals ∧ (s.offerHead t).admissions = s.admissions ∧
      (s.offerHead t).runs = s.runs ∧ (s.offerHead t).drivers = s.drivers ∧ (s.offerHead t).sense = s.sense ∧
      (s.offerHead t).lines = s.lines ∧ (s.offerHead t).ports = s.ports ∧ (s.offerHead t).config = s.config := by
  simp only [State.offerHead]
  (repeat' split) <;> simp

@[simp] theorem State.startPass_frame (s : State) (t : Trunk) :
    (s.startPass t).pending = s.pending ∧ (s.startPass t).inReset = s.inReset ∧
      (s.startPass t).trunks = s.trunks ∧ (s.startPass t).accounts = s.accounts ∧
      (s.startPass t).channels = s.channels ∧ (s.startPass t).portView = s.portView ∧
      (s.startPass t).heldBack = s.heldBack ∧ (s.startPass t).queues = s.queues ∧
      (s.startPass t).energizing = s.energizing ∧ (s.startPass t).waiting = s.waiting ∧
      (s.startPass t).arrivals = s.arrivals ∧ (s.startPass t).admissions = s.admissions ∧
      (s.startPass t).runs = s.runs ∧ (s.startPass t).drivers = s.drivers ∧ (s.startPass t).sense = s.sense ∧
      (s.startPass t).lines = s.lines ∧ (s.startPass t).ports = s.ports ∧ (s.startPass t).config = s.config := by
  simp [State.startPass]

@[simp] theorem State.endPass_frame (s : State) (t : Trunk) :
    (s.endPass t).pending = s.pending ∧ (s.endPass t).inReset = s.inReset ∧ (s.endPass t).trunks = s.trunks ∧
      (s.endPass t).accounts = s.accounts ∧ (s.endPass t).channels = s.channels ∧
      (s.endPass t).portView = s.portView ∧ (s.endPass t).heldBack = s.heldBack ∧
      (s.endPass t).queues = s.queues ∧ (s.endPass t).energizing = s.energizing ∧
      (s.endPass t).waiting = s.waiting ∧ (s.endPass t).arrivals = s.arrivals ∧
      (s.endPass t).admissions = s.admissions ∧ (s.endPass t).runs = s.runs ∧ (s.endPass t).drivers = s.drivers ∧
      (s.endPass t).sense = s.sense ∧ (s.endPass t).lines = s.lines ∧ (s.endPass t).ports = s.ports ∧
      (s.endPass t).config = s.config := by
  simp only [State.endPass]
  (repeat' split) <;> simp

@[simp] theorem State.continuePass_frame (s : State) (t : Trunk) :
    (s.continuePass t).pending = s.pending ∧ (s.continuePass t).inReset = s.inReset ∧
      (s.continuePass t).trunks = s.trunks ∧ (s.continuePass t).accounts = s.accounts ∧
      (s.continuePass t).channels = s.channels ∧ (s.continuePass t).portView = s.portView ∧
      (s.continuePass t).heldBack = s.heldBack ∧ (s.continuePass t).queues = s.queues ∧
      (s.continuePass t).energizing = s.energizing ∧ (s.continuePass t).waiting = s.waiting ∧
      (s.continuePass t).arrivals = s.arrivals ∧ (s.continuePass t).admissions = s.admissions ∧
      (s.continuePass t).runs = s.runs ∧ (s.continuePass t).drivers = s.drivers ∧
      (s.continuePass t).sense = s.sense ∧ (s.continuePass t).lines = s.lines ∧
      (s.continuePass t).ports = s.ports ∧ (s.continuePass t).config = s.config := by
  simp only [State.continuePass]
  (repeat' split) <;> simp

@[simp] theorem State.takeServiceEvent_frame (s : State) (t : Trunk) :
    (s.takeServiceEvent t).pending = s.pending ∧ (s.takeServiceEvent t).inReset = s.inReset ∧
      (s.takeServiceEvent t).trunks = s.trunks ∧ (s.takeServiceEvent t).accounts = s.accounts ∧
      (s.takeServiceEvent t).channels = s.channels ∧ (s.takeServiceEvent t).portView = s.portView ∧
      (s.takeServiceEvent t).heldBack = s.heldBack ∧ (s.takeServiceEvent t).queues = s.queues ∧
      (s.takeServiceEvent t).energizing = s.energizing ∧ (s.takeServiceEvent t).waiting = s.waiting ∧
      (s.takeServiceEvent t).arrivals = s.arrivals ∧ (s.takeServiceEvent t).admissions = s.admissions ∧
      (s.takeServiceEvent t).runs = s.runs ∧ (s.takeServiceEvent t).drivers = s.drivers ∧
      (s.takeServiceEvent t).sense = s.sense ∧ (s.takeServiceEvent t).lines = s.lines ∧
      (s.takeServiceEvent t).ports = s.ports ∧ (s.takeServiceEvent t).config = s.config := by
  simp only [State.takeServiceEvent]
  (repeat' split) <;> simp

@[simp] theorem State.resumePass_frame (s : State) (t : Trunk) :
    (s.resumePass t).pending = s.pending ∧ (s.resumePass t).inReset = s.inReset ∧
      (s.resumePass t).trunks = s.trunks ∧ (s.resumePass t).accounts = s.accounts ∧
      (s.resumePass t).channels = s.channels ∧ (s.resumePass t).portView = s.portView ∧
      (s.resumePass t).heldBack = s.heldBack ∧ (s.resumePass t).queues = s.queues ∧
      (s.resumePass t).energizing = s.energizing ∧ (s.resumePass t).waiting = s.waiting ∧
      (s.resumePass t).arrivals = s.arrivals ∧ (s.resumePass t).admissions = s.admissions ∧
      (s.resumePass t).runs = s.runs ∧ (s.resumePass t).drivers = s.drivers ∧ (s.resumePass t).sense = s.sense ∧
      (s.resumePass t).lines = s.lines ∧ (s.resumePass t).ports = s.ports ∧ (s.resumePass t).config = s.config := by
  simp only [State.resumePass]
  (repeat' split) <;> simp

end Sys2Proof.Machine
end

