-- ==== Sys2Proof/Laws/FramesStaged.lean ====
section
/-! SUPPORT. Frames: for each operation of the Staged Energize Unit, the fields of the state that it leaves as they stand. -/

namespace Sys2Proof.Machine

@[simp] theorem State.takeStart_frame (s : State) (c : Channel) :
    (s.takeStart c).pending = s.pending ∧ (s.takeStart c).inReset = s.inReset ∧
      (s.takeStart c).trunks = s.trunks ∧ (s.takeStart c).accounts = s.accounts ∧
      (s.takeStart c).channels = s.channels ∧ (s.takeStart c).portView = s.portView ∧
      (s.takeStart c).heldBack = s.heldBack ∧ (s.takeStart c).queues = s.queues ∧
      (s.takeStart c).passes = s.passes ∧ (s.takeStart c).energizing = s.energizing ∧
      (s.takeStart c).waiting = s.waiting ∧ (s.takeStart c).arrivals = s.arrivals ∧
      (s.takeStart c).admissions = s.admissions ∧ (s.takeStart c).drivers = s.drivers ∧
      (s.takeStart c).sense = s.sense ∧ (s.takeStart c).lines = s.lines ∧ (s.takeStart c).ports = s.ports ∧
      (s.takeStart c).config = s.config := by
  simp only [State.takeStart]
  (repeat' split) <;> simp

@[simp] theorem State.probeCheck_frame (s : State) (t : Trunk) (c : Channel) (pulses : Nat) (p : Precharge) :
    (s.probeCheck t c pulses p).pending = s.pending ∧ (s.probeCheck t c pulses p).inReset = s.inReset ∧
      (s.probeCheck t c pulses p).trunks = s.trunks ∧ (s.probeCheck t c pulses p).accounts = s.accounts ∧
      (s.probeCheck t c pulses p).channels = s.channels ∧ (s.probeCheck t c pulses p).portView = s.portView ∧
      (s.probeCheck t c pulses p).heldBack = s.heldBack ∧ (s.probeCheck t c pulses p).queues = s.queues ∧
      (s.probeCheck t c pulses p).passes = s.passes ∧ (s.probeCheck t c pulses p).energizing = s.energizing ∧
      (s.probeCheck t c pulses p).waiting = s.waiting ∧ (s.probeCheck t c pulses p).arrivals = s.arrivals ∧
      (s.probeCheck t c pulses p).admissions = s.admissions ∧ (s.probeCheck t c pulses p).drivers = s.drivers ∧
      (s.probeCheck t c pulses p).sense = s.sense ∧ (s.probeCheck t c pulses p).lines = s.lines ∧
      (s.probeCheck t c pulses p).ports = s.ports ∧ (s.probeCheck t c pulses p).config = s.config := by
  simp only [State.probeCheck]
  (repeat' split) <;> simp

@[simp] theorem State.probeExpiry_frame (s : State) (t : Trunk) :
    (s.probeExpiry t).pending = s.pending ∧ (s.probeExpiry t).inReset = s.inReset ∧
      (s.probeExpiry t).trunks = s.trunks ∧ (s.probeExpiry t).accounts = s.accounts ∧
      (s.probeExpiry t).channels = s.channels ∧ (s.probeExpiry t).portView = s.portView ∧
      (s.probeExpiry t).heldBack = s.heldBack ∧ (s.probeExpiry t).queues = s.queues ∧
      (s.probeExpiry t).passes = s.passes ∧ (s.probeExpiry t).energizing = s.energizing ∧
      (s.probeExpiry t).waiting = s.waiting ∧ (s.probeExpiry t).arrivals = s.arrivals ∧
      (s.probeExpiry t).admissions = s.admissions ∧ (s.probeExpiry t).drivers = s.drivers ∧
      (s.probeExpiry t).sense = s.sense ∧ (s.probeExpiry t).lines = s.lines ∧ (s.probeExpiry t).ports = s.ports ∧
      (s.probeExpiry t).config = s.config := by
  simp only [State.probeExpiry]
  (repeat' split) <;> simp

@[simp] theorem State.takeAdvanceAnswer_frame (s : State) (c : Channel) (taken : Bool) :
    (s.takeAdvanceAnswer c taken).pending = s.pending ∧ (s.takeAdvanceAnswer c taken).inReset = s.inReset ∧
      (s.takeAdvanceAnswer c taken).trunks = s.trunks ∧ (s.takeAdvanceAnswer c taken).accounts = s.accounts ∧
      (s.takeAdvanceAnswer c taken).channels = s.channels ∧ (s.takeAdvanceAnswer c taken).portView = s.portView ∧
      (s.takeAdvanceAnswer c taken).heldBack = s.heldBack ∧ (s.takeAdvanceAnswer c taken).queues = s.queues ∧
      (s.takeAdvanceAnswer c taken).passes = s.passes ∧ (s.takeAdvanceAnswer c taken).energizing = s.energizing ∧
      (s.takeAdvanceAnswer c taken).waiting = s.waiting ∧ (s.takeAdvanceAnswer c taken).arrivals = s.arrivals ∧
      (s.takeAdvanceAnswer c taken).admissions = s.admissions ∧
      (s.takeAdvanceAnswer c taken).drivers = s.drivers ∧ (s.takeAdvanceAnswer c taken).sense = s.sense ∧
      (s.takeAdvanceAnswer c taken).lines = s.lines ∧ (s.takeAdvanceAnswer c taken).ports = s.ports ∧
      (s.takeAdvanceAnswer c taken).config = s.config := by
  simp only [State.takeAdvanceAnswer]
  (repeat' split) <;> simp

@[simp] theorem State.fillExpiry_frame (s : State) (t : Trunk) :
    (s.fillExpiry t).pending = s.pending ∧ (s.fillExpiry t).inReset = s.inReset ∧
      (s.fillExpiry t).trunks = s.trunks ∧ (s.fillExpiry t).accounts = s.accounts ∧
      (s.fillExpiry t).channels = s.channels ∧ (s.fillExpiry t).portView = s.portView ∧
      (s.fillExpiry t).heldBack = s.heldBack ∧ (s.fillExpiry t).queues = s.queues ∧
      (s.fillExpiry t).passes = s.passes ∧ (s.fillExpiry t).energizing = s.energizing ∧
      (s.fillExpiry t).waiting = s.waiting ∧ (s.fillExpiry t).arrivals = s.arrivals ∧
      (s.fillExpiry t).admissions = s.admissions ∧ (s.fillExpiry t).drivers = s.drivers ∧
      (s.fillExpiry t).sense = s.sense ∧ (s.fillExpiry t).lines = s.lines ∧ (s.fillExpiry t).ports = s.ports ∧
      (s.fillExpiry t).config = s.config := by
  simp only [State.fillExpiry]
  (repeat' split) <;> simp

@[simp] theorem State.takeOutputSample_frame (s : State) (c : Channel) (vout : Nat) :
    (s.takeOutputSample c vout).pending = s.pending ∧ (s.takeOutputSample c vout).inReset = s.inReset ∧
      (s.takeOutputSample c vout).trunks = s.trunks ∧ (s.takeOutputSample c vout).accounts = s.accounts ∧
      (s.takeOutputSample c vout).channels = s.channels ∧ (s.takeOutputSample c vout).portView = s.portView ∧
      (s.takeOutputSample c vout).heldBack = s.heldBack ∧ (s.takeOutputSample c vout).queues = s.queues ∧
      (s.takeOutputSample c vout).passes = s.passes ∧ (s.takeOutputSample c vout).energizing = s.energizing ∧
      (s.takeOutputSample c vout).waiting = s.waiting ∧ (s.takeOutputSample c vout).arrivals = s.arrivals ∧
      (s.takeOutputSample c vout).admissions = s.admissions ∧ (s.takeOutputSample c vout).drivers = s.drivers ∧
      (s.takeOutputSample c vout).sense = s.sense ∧ (s.takeOutputSample c vout).lines = s.lines ∧
      (s.takeOutputSample c vout).ports = s.ports ∧ (s.takeOutputSample c vout).config = s.config := by
  simp only [State.takeOutputSample]
  (repeat' split) <;> simp

@[simp] theorem State.fillTimeout_frame (s : State) (t : Trunk) :
    (s.fillTimeout t).pending = s.pending ∧ (s.fillTimeout t).inReset = s.inReset ∧
      (s.fillTimeout t).trunks = s.trunks ∧ (s.fillTimeout t).accounts = s.accounts ∧
      (s.fillTimeout t).channels = s.channels ∧ (s.fillTimeout t).portView = s.portView ∧
      (s.fillTimeout t).heldBack = s.heldBack ∧ (s.fillTimeout t).queues = s.queues ∧
      (s.fillTimeout t).passes = s.passes ∧ (s.fillTimeout t).energizing = s.energizing ∧
      (s.fillTimeout t).waiting = s.waiting ∧ (s.fillTimeout t).arrivals = s.arrivals ∧
      (s.fillTimeout t).admissions = s.admissions ∧ (s.fillTimeout t).drivers = s.drivers ∧
      (s.fillTimeout t).sense = s.sense ∧ (s.fillTimeout t).lines = s.lines ∧ (s.fillTimeout t).ports = s.ports ∧
      (s.fillTimeout t).config = s.config := by
  simp only [State.fillTimeout]
  (repeat' split) <;> simp

@[simp] theorem State.takeFailureAnswer_frame (s : State) (c : Channel) :
    (s.takeFailureAnswer c).pending = s.pending ∧ (s.takeFailureAnswer c).inFlight = s.inFlight ∧
      (s.takeFailureAnswer c).inReset = s.inReset ∧ (s.takeFailureAnswer c).trunks = s.trunks ∧
      (s.takeFailureAnswer c).accounts = s.accounts ∧ (s.takeFailureAnswer c).channels = s.channels ∧
      (s.takeFailureAnswer c).portView = s.portView ∧ (s.takeFailureAnswer c).heldBack = s.heldBack ∧
      (s.takeFailureAnswer c).queues = s.queues ∧ (s.takeFailureAnswer c).passes = s.passes ∧
      (s.takeFailureAnswer c).energizing = s.energizing ∧ (s.takeFailureAnswer c).waiting = s.waiting ∧
      (s.takeFailureAnswer c).arrivals = s.arrivals ∧ (s.takeFailureAnswer c).admissions = s.admissions ∧
      (s.takeFailureAnswer c).drivers = s.drivers ∧ (s.takeFailureAnswer c).sense = s.sense ∧
      (s.takeFailureAnswer c).lines = s.lines ∧ (s.takeFailureAnswer c).ports = s.ports ∧
      (s.takeFailureAnswer c).config = s.config := by
  simp only [State.takeFailureAnswer]
  (repeat' split) <;> simp

@[simp] theorem State.takeAbort_frame (s : State) (c : Channel) :
    (s.takeAbort c).pending = s.pending ∧ (s.takeAbort c).inFlight = s.inFlight ∧
      (s.takeAbort c).inReset = s.inReset ∧ (s.takeAbort c).trunks = s.trunks ∧
      (s.takeAbort c).accounts = s.accounts ∧ (s.takeAbort c).channels = s.channels ∧
      (s.takeAbort c).portView = s.portView ∧ (s.takeAbort c).heldBack = s.heldBack ∧
      (s.takeAbort c).queues = s.queues ∧ (s.takeAbort c).passes = s.passes ∧
      (s.takeAbort c).energizing = s.energizing ∧ (s.takeAbort c).waiting = s.waiting ∧
      (s.takeAbort c).arrivals = s.arrivals ∧ (s.takeAbort c).admissions = s.admissions ∧
      (s.takeAbort c).drivers = s.drivers ∧ (s.takeAbort c).sense = s.sense ∧ (s.takeAbort c).lines = s.lines ∧
      (s.takeAbort c).ports = s.ports ∧ (s.takeAbort c).config = s.config := by
  simp only [State.takeAbort]
  (repeat' split) <;> simp

@[simp] theorem State.completionDone_frame (s : State) (c : Channel) :
    (s.completionDone c).pending = s.pending ∧ (s.completionDone c).inReset = s.inReset ∧
      (s.completionDone c).trunks = s.trunks ∧ (s.completionDone c).accounts = s.accounts ∧
      (s.completionDone c).channels = s.channels ∧ (s.completionDone c).portView = s.portView ∧
      (s.completionDone c).heldBack = s.heldBack ∧ (s.completionDone c).queues = s.queues ∧
      (s.completionDone c).passes = s.passes ∧ (s.completionDone c).energizing = s.energizing ∧
      (s.completionDone c).waiting = s.waiting ∧ (s.completionDone c).arrivals = s.arrivals ∧
      (s.completionDone c).admissions = s.admissions ∧ (s.completionDone c).drivers = s.drivers ∧
      (s.completionDone c).sense = s.sense ∧ (s.completionDone c).lines = s.lines ∧
      (s.completionDone c).ports = s.ports ∧ (s.completionDone c).config = s.config := by
  simp only [State.completionDone]
  (repeat' split) <;> simp

@[simp] theorem State.stagedTake_frame (i : Instr) (s : State) :
    (stagedTake i s).pending = s.pending ∧ (stagedTake i s).inReset = s.inReset ∧
      (stagedTake i s).trunks = s.trunks ∧ (stagedTake i s).accounts = s.accounts ∧
      (stagedTake i s).channels = s.channels ∧ (stagedTake i s).portView = s.portView ∧
      (stagedTake i s).heldBack = s.heldBack ∧ (stagedTake i s).queues = s.queues ∧
      (stagedTake i s).passes = s.passes ∧ (stagedTake i s).energizing = s.energizing ∧
      (stagedTake i s).waiting = s.waiting ∧ (stagedTake i s).arrivals = s.arrivals ∧
      (stagedTake i s).admissions = s.admissions ∧ (stagedTake i s).drivers = s.drivers ∧
      (stagedTake i s).sense = s.sense ∧ (stagedTake i s).lines = s.lines ∧ (stagedTake i s).ports = s.ports ∧
      (stagedTake i s).config = s.config := by
  cases i <;> simp only [stagedTake]
  all_goals (repeat' split) <;> simp

@[simp] theorem State.settleTake_frame (i : Instr) (s : State) :
    (settleTake i s).pending = s.pending ∧ (settleTake i s).inReset = s.inReset ∧
      (settleTake i s).trunks = s.trunks ∧ (settleTake i s).accounts = s.accounts ∧
      (settleTake i s).channels = s.channels ∧ (settleTake i s).portView = s.portView ∧
      (settleTake i s).heldBack = s.heldBack ∧ (settleTake i s).queues = s.queues ∧
      (settleTake i s).energizing = s.energizing ∧ (settleTake i s).waiting = s.waiting ∧
      (settleTake i s).arrivals = s.arrivals ∧ (settleTake i s).admissions = s.admissions ∧
      (settleTake i s).drivers = s.drivers ∧ (settleTake i s).sense = s.sense ∧ (settleTake i s).lines = s.lines ∧
      (settleTake i s).ports = s.ports ∧ (settleTake i s).config = s.config := by
  cases i <;> simp [settleTake]

@[simp] theorem State.settleCompletions_frame (s : State) (i : Instr) :
    (s.settleCompletions i).pending = s.pending ∧ (s.settleCompletions i).inReset = s.inReset ∧
      (s.settleCompletions i).trunks = s.trunks ∧ (s.settleCompletions i).accounts = s.accounts ∧
      (s.settleCompletions i).channels = s.channels ∧ (s.settleCompletions i).portView = s.portView ∧
      (s.settleCompletions i).heldBack = s.heldBack ∧ (s.settleCompletions i).queues = s.queues ∧
      (s.settleCompletions i).energizing = s.energizing ∧ (s.settleCompletions i).waiting = s.waiting ∧
      (s.settleCompletions i).arrivals = s.arrivals ∧ (s.settleCompletions i).admissions = s.admissions ∧
      (s.settleCompletions i).drivers = s.drivers ∧ (s.settleCompletions i).sense = s.sense ∧
      (s.settleCompletions i).lines = s.lines ∧ (s.settleCompletions i).ports = s.ports ∧
      (s.settleCompletions i).config = s.config := by
  simp only [State.settleCompletions]
  and_intros
  · exact foldl_frame State.pending (by simp) (by simp)
  · exact foldl_frame State.inReset (by simp) (by simp)
  · exact foldl_frame State.trunks (by simp) (by simp)
  · exact foldl_frame State.accounts (by simp) (by simp)
  · exact foldl_frame State.channels (by simp) (by simp)
  · exact foldl_frame State.portView (by simp) (by simp)
  · exact foldl_frame State.heldBack (by simp) (by simp)
  · exact foldl_frame State.queues (by simp) (by simp)
  · exact foldl_frame State.energizing (by simp) (by simp)
  · exact foldl_frame State.waiting (by simp) (by simp)
  · exact foldl_frame State.arrivals (by simp) (by simp)
  · exact foldl_frame State.admissions (by simp) (by simp)
  · exact foldl_frame State.drivers (by simp) (by simp)
  · exact foldl_frame State.sense (by simp) (by simp)
  · exact foldl_frame State.lines (by simp) (by simp)
  · exact foldl_frame State.ports (by simp) (by simp)
  · exact foldl_frame State.config (by simp) (by simp)

end Sys2Proof.Machine
end

