-- ==== Sys2Proof/Laws/FramesLease.lean ====
section
/-! SUPPORT. Frames: for each operation of the Lease Manager, the fields of the state that it leaves as they stand. -/

namespace Sys2Proof.Machine

@[simp] theorem State.takeClaim_frame (s : State) (p : Port) (ch : Byte) (cur : BitVec 16) (prio policy successor wait : Byte) :
    (s.takeClaim p ch cur prio policy successor wait).pending = s.pending ∧
      (s.takeClaim p ch cur prio policy successor wait).inReset = s.inReset ∧
      (s.takeClaim p ch cur prio policy successor wait).trunks = s.trunks ∧
      (s.takeClaim p ch cur prio policy successor wait).accounts = s.accounts ∧
      (s.takeClaim p ch cur prio policy successor wait).portView = s.portView ∧
      (s.takeClaim p ch cur prio policy successor wait).heldBack = s.heldBack ∧
      (s.takeClaim p ch cur prio policy successor wait).queues = s.queues ∧
      (s.takeClaim p ch cur prio policy successor wait).passes = s.passes ∧
      (s.takeClaim p ch cur prio policy successor wait).energizing = s.energizing ∧
      (s.takeClaim p ch cur prio policy successor wait).waiting = s.waiting ∧
      (s.takeClaim p ch cur prio policy successor wait).arrivals = s.arrivals ∧
      (s.takeClaim p ch cur prio policy successor wait).admissions = s.admissions ∧
      (s.takeClaim p ch cur prio policy successor wait).runs = s.runs ∧
      (s.takeClaim p ch cur prio policy successor wait).drivers = s.drivers ∧
      (s.takeClaim p ch cur prio policy successor wait).sense = s.sense ∧
      (s.takeClaim p ch cur prio policy successor wait).lines = s.lines ∧
      (s.takeClaim p ch cur prio policy successor wait).ports = s.ports ∧
      (s.takeClaim p ch cur prio policy successor wait).config = s.config := by
  simp only [State.takeClaim, State.leaseRequest]
  (repeat' split) <;> simp

@[simp] theorem State.takeRelease_frame (s : State) (p : Port) (ch : Byte) :
    (s.takeRelease p ch).pending = s.pending ∧ (s.takeRelease p ch).inReset = s.inReset ∧
      (s.takeRelease p ch).portView = s.portView ∧ (s.takeRelease p ch).heldBack = s.heldBack ∧
      (s.takeRelease p ch).passes = s.passes ∧ (s.takeRelease p ch).energizing = s.energizing ∧
      (s.takeRelease p ch).waiting = s.waiting ∧ (s.takeRelease p ch).arrivals = s.arrivals ∧
      (s.takeRelease p ch).admissions = s.admissions ∧ (s.takeRelease p ch).runs = s.runs ∧
      (s.takeRelease p ch).sense = s.sense ∧ (s.takeRelease p ch).lines = s.lines ∧
      (s.takeRelease p ch).ports = s.ports ∧ (s.takeRelease p ch).config = s.config := by
  simp only [State.takeRelease, State.holderRequest, State.leaseRequest]
  (repeat' split) <;> simp

@[simp] theorem State.takeAdopt_frame (s : State) (p : Port) (ch : Byte) :
    (s.takeAdopt p ch).pending = s.pending ∧ (s.takeAdopt p ch).inReset = s.inReset ∧
      (s.takeAdopt p ch).trunks = s.trunks ∧ (s.takeAdopt p ch).accounts = s.accounts ∧
      (s.takeAdopt p ch).portView = s.portView ∧ (s.takeAdopt p ch).heldBack = s.heldBack ∧
      (s.takeAdopt p ch).queues = s.queues ∧ (s.takeAdopt p ch).passes = s.passes ∧
      (s.takeAdopt p ch).energizing = s.energizing ∧ (s.takeAdopt p ch).waiting = s.waiting ∧
      (s.takeAdopt p ch).arrivals = s.arrivals ∧ (s.takeAdopt p ch).admissions = s.admissions ∧
      (s.takeAdopt p ch).runs = s.runs ∧ (s.takeAdopt p ch).drivers = s.drivers ∧
      (s.takeAdopt p ch).sense = s.sense ∧ (s.takeAdopt p ch).lines = s.lines ∧
      (s.takeAdopt p ch).ports = s.ports ∧ (s.takeAdopt p ch).config = s.config := by
  simp only [State.takeAdopt, State.leaseRequest]
  (repeat' split) <;> simp

@[simp] theorem State.takeDeEnergize_frame (s : State) (p : Port) (ch : Byte) :
    (s.takeDeEnergize p ch).pending = s.pending ∧ (s.takeDeEnergize p ch).inReset = s.inReset ∧
      (s.takeDeEnergize p ch).portView = s.portView ∧ (s.takeDeEnergize p ch).heldBack = s.heldBack ∧
      (s.takeDeEnergize p ch).passes = s.passes ∧ (s.takeDeEnergize p ch).energizing = s.energizing ∧
      (s.takeDeEnergize p ch).waiting = s.waiting ∧ (s.takeDeEnergize p ch).arrivals = s.arrivals ∧
      (s.takeDeEnergize p ch).admissions = s.admissions ∧ (s.takeDeEnergize p ch).runs = s.runs ∧
      (s.takeDeEnergize p ch).sense = s.sense ∧ (s.takeDeEnergize p ch).lines = s.lines ∧
      (s.takeDeEnergize p ch).ports = s.ports ∧ (s.takeDeEnergize p ch).config = s.config := by
  simp only [State.takeDeEnergize, State.holderRequest, State.leaseRequest]
  (repeat' split) <;> simp

@[simp] theorem State.takeClearFault_frame (s : State) (p : Port) (ch : Byte) :
    (s.takeClearFault p ch).pending = s.pending ∧ (s.takeClearFault p ch).inReset = s.inReset ∧
      (s.takeClearFault p ch).portView = s.portView ∧ (s.takeClearFault p ch).heldBack = s.heldBack ∧
      (s.takeClearFault p ch).passes = s.passes ∧ (s.takeClearFault p ch).energizing = s.energizing ∧
      (s.takeClearFault p ch).waiting = s.waiting ∧ (s.takeClearFault p ch).arrivals = s.arrivals ∧
      (s.takeClearFault p ch).admissions = s.admissions ∧ (s.takeClearFault p ch).runs = s.runs ∧
      (s.takeClearFault p ch).sense = s.sense ∧ (s.takeClearFault p ch).lines = s.lines ∧
      (s.takeClearFault p ch).ports = s.ports ∧ (s.takeClearFault p ch).config = s.config := by
  simp only [State.takeClearFault, State.holderRequest, State.leaseRequest]
  (repeat' split) <;> simp

@[simp] theorem State.setDeclared_frame (s : State) (c : Channel) (mA : Nat) :
    (s.setDeclared c mA).pending = s.pending ∧ (s.setDeclared c mA).inFlight = s.inFlight ∧
      (s.setDeclared c mA).inReset = s.inReset ∧ (s.setDeclared c mA).trunks = s.trunks ∧
      (s.setDeclared c mA).accounts = s.accounts ∧ (s.setDeclared c mA).portView = s.portView ∧
      (s.setDeclared c mA).heldBack = s.heldBack ∧ (s.setDeclared c mA).queues = s.queues ∧
      (s.setDeclared c mA).passes = s.passes ∧ (s.setDeclared c mA).energizing = s.energizing ∧
      (s.setDeclared c mA).waiting = s.waiting ∧ (s.setDeclared c mA).arrivals = s.arrivals ∧
      (s.setDeclared c mA).admissions = s.admissions ∧ (s.setDeclared c mA).runs = s.runs ∧
      (s.setDeclared c mA).drivers = s.drivers ∧ (s.setDeclared c mA).sense = s.sense ∧
      (s.setDeclared c mA).lines = s.lines ∧ (s.setDeclared c mA).ports = s.ports ∧
      (s.setDeclared c mA).config = s.config := by
  simp [State.setDeclared]

@[simp] theorem State.takeRestate_frame (s : State) (p : Port) (ch : Byte) (cur : BitVec 16) :
    (s.takeRestate p ch cur).pending = s.pending ∧ (s.takeRestate p ch cur).inReset = s.inReset ∧
      (s.takeRestate p ch cur).trunks = s.trunks ∧ (s.takeRestate p ch cur).accounts = s.accounts ∧
      (s.takeRestate p ch cur).portView = s.portView ∧ (s.takeRestate p ch cur).heldBack = s.heldBack ∧
      (s.takeRestate p ch cur).queues = s.queues ∧ (s.takeRestate p ch cur).passes = s.passes ∧
      (s.takeRestate p ch cur).energizing = s.energizing ∧ (s.takeRestate p ch cur).waiting = s.waiting ∧
      (s.takeRestate p ch cur).arrivals = s.arrivals ∧ (s.takeRestate p ch cur).admissions = s.admissions ∧
      (s.takeRestate p ch cur).runs = s.runs ∧ (s.takeRestate p ch cur).drivers = s.drivers ∧
      (s.takeRestate p ch cur).sense = s.sense ∧ (s.takeRestate p ch cur).lines = s.lines ∧
      (s.takeRestate p ch cur).ports = s.ports ∧ (s.takeRestate p ch cur).config = s.config := by
  simp only [State.takeRestate, State.leaseRequest, State.holderRequest]
  (repeat' split) <;> simp

@[simp] theorem State.takeReadChannel_frame (s : State) (p : Port) (ch : Byte) :
    (s.takeReadChannel p ch).pending = s.pending ∧ (s.takeReadChannel p ch).inReset = s.inReset ∧
      (s.takeReadChannel p ch).trunks = s.trunks ∧ (s.takeReadChannel p ch).accounts = s.accounts ∧
      (s.takeReadChannel p ch).channels = s.channels ∧ (s.takeReadChannel p ch).portView = s.portView ∧
      (s.takeReadChannel p ch).heldBack = s.heldBack ∧ (s.takeReadChannel p ch).queues = s.queues ∧
      (s.takeReadChannel p ch).passes = s.passes ∧ (s.takeReadChannel p ch).energizing = s.energizing ∧
      (s.takeReadChannel p ch).waiting = s.waiting ∧ (s.takeReadChannel p ch).arrivals = s.arrivals ∧
      (s.takeReadChannel p ch).admissions = s.admissions ∧ (s.takeReadChannel p ch).runs = s.runs ∧
      (s.takeReadChannel p ch).drivers = s.drivers ∧ (s.takeReadChannel p ch).sense = s.sense ∧
      (s.takeReadChannel p ch).lines = s.lines ∧ (s.takeReadChannel p ch).ports = s.ports ∧
      (s.takeReadChannel p ch).config = s.config := by
  simp only [State.takeReadChannel]
  (repeat' split) <;> simp

@[simp] theorem State.takeOpenClaim_frame (s : State) (p : Port) (epoch : BitVec 16) :
    (s.takeOpenClaim p epoch).pending = s.pending ∧ (s.takeOpenClaim p epoch).inReset = s.inReset ∧
      (s.takeOpenClaim p epoch).trunks = s.trunks ∧ (s.takeOpenClaim p epoch).accounts = s.accounts ∧
      (s.takeOpenClaim p epoch).heldBack = s.heldBack ∧ (s.takeOpenClaim p epoch).queues = s.queues ∧
      (s.takeOpenClaim p epoch).passes = s.passes ∧ (s.takeOpenClaim p epoch).energizing = s.energizing ∧
      (s.takeOpenClaim p epoch).waiting = s.waiting ∧ (s.takeOpenClaim p epoch).arrivals = s.arrivals ∧
      (s.takeOpenClaim p epoch).admissions = s.admissions ∧ (s.takeOpenClaim p epoch).runs = s.runs ∧
      (s.takeOpenClaim p epoch).drivers = s.drivers ∧ (s.takeOpenClaim p epoch).sense = s.sense ∧
      (s.takeOpenClaim p epoch).lines = s.lines ∧ (s.takeOpenClaim p epoch).ports = s.ports ∧
      (s.takeOpenClaim p epoch).config = s.config := by
  simp only [State.takeOpenClaim]
  (repeat' split) <;> and_intros
  all_goals first
    | exact foldl_frame State.pending (by simp) (by simp)
    | exact foldl_frame State.inReset (by simp) (by simp)
    | exact foldl_frame State.trunks (by simp) (by simp)
    | exact foldl_frame State.accounts (by simp) (by simp)
    | exact foldl_frame State.heldBack (by simp) (by simp)
    | exact foldl_frame State.queues (by simp) (by simp)
    | exact foldl_frame State.passes (by simp) (by simp)
    | exact foldl_frame State.energizing (by simp) (by simp)
    | exact foldl_frame State.waiting (by simp) (by simp)
    | exact foldl_frame State.arrivals (by simp) (by simp)
    | exact foldl_frame State.admissions (by simp) (by simp)
    | exact foldl_frame State.runs (by simp) (by simp)
    | exact foldl_frame State.drivers (by simp) (by simp)
    | exact foldl_frame State.sense (by simp) (by simp)
    | exact foldl_frame State.lines (by simp) (by simp)
    | exact foldl_frame State.ports (by simp) (by simp)
    | exact foldl_frame State.config (by simp) (by simp)

@[simp] theorem State.lapseLease_frame (s : State) (p : Port) (c : Channel) :
    (s.lapseLease p c).pending = s.pending ∧ (s.lapseLease p c).inReset = s.inReset ∧
      (s.lapseLease p c).portView = s.portView ∧ (s.lapseLease p c).heldBack = s.heldBack ∧
      (s.lapseLease p c).passes = s.passes ∧ (s.lapseLease p c).energizing = s.energizing ∧
      (s.lapseLease p c).waiting = s.waiting ∧ (s.lapseLease p c).arrivals = s.arrivals ∧
      (s.lapseLease p c).admissions = s.admissions ∧ (s.lapseLease p c).runs = s.runs ∧
      (s.lapseLease p c).sense = s.sense ∧ (s.lapseLease p c).lines = s.lines ∧
      (s.lapseLease p c).ports = s.ports ∧ (s.lapseLease p c).config = s.config := by
  simp only [State.lapseLease]
  (repeat' split) <;> simp

@[simp] theorem State.takeLapseClaim_frame (s : State) (p : Port) :
    (s.takeLapseClaim p).pending = s.pending ∧ (s.takeLapseClaim p).inReset = s.inReset ∧
      (s.takeLapseClaim p).heldBack = s.heldBack ∧ (s.takeLapseClaim p).passes = s.passes ∧
      (s.takeLapseClaim p).energizing = s.energizing ∧ (s.takeLapseClaim p).waiting = s.waiting ∧
      (s.takeLapseClaim p).arrivals = s.arrivals ∧ (s.takeLapseClaim p).admissions = s.admissions ∧
      (s.takeLapseClaim p).runs = s.runs ∧ (s.takeLapseClaim p).sense = s.sense ∧
      (s.takeLapseClaim p).lines = s.lines ∧ (s.takeLapseClaim p).ports = s.ports ∧
      (s.takeLapseClaim p).config = s.config := by
  simp only [State.takeLapseClaim]
  and_intros
  · exact foldl_frame State.pending (by simp) (by simp)
  · exact foldl_frame State.inReset (by simp) (by simp)
  · exact foldl_frame State.heldBack (by simp) (by simp)
  · exact foldl_frame State.passes (by simp) (by simp)
  · exact foldl_frame State.energizing (by simp) (by simp)
  · exact foldl_frame State.waiting (by simp) (by simp)
  · exact foldl_frame State.arrivals (by simp) (by simp)
  · exact foldl_frame State.admissions (by simp) (by simp)
  · exact foldl_frame State.runs (by simp) (by simp)
  · exact foldl_frame State.sense (by simp) (by simp)
  · exact foldl_frame State.lines (by simp) (by simp)
  · exact foldl_frame State.ports (by simp) (by simp)
  · exact foldl_frame State.config (by simp) (by simp)

@[simp] theorem State.takeCloseClaim_frame (s : State) (p : Port) :
    (s.takeCloseClaim p).pending = s.pending ∧ (s.takeCloseClaim p).inReset = s.inReset ∧
      (s.takeCloseClaim p).heldBack = s.heldBack ∧ (s.takeCloseClaim p).passes = s.passes ∧
      (s.takeCloseClaim p).energizing = s.energizing ∧ (s.takeCloseClaim p).waiting = s.waiting ∧
      (s.takeCloseClaim p).arrivals = s.arrivals ∧ (s.takeCloseClaim p).admissions = s.admissions ∧
      (s.takeCloseClaim p).runs = s.runs ∧ (s.takeCloseClaim p).sense = s.sense ∧
      (s.takeCloseClaim p).lines = s.lines ∧ (s.takeCloseClaim p).ports = s.ports ∧
      (s.takeCloseClaim p).config = s.config := by
  simp only [State.takeCloseClaim]
  and_intros
  · exact foldl_frame State.pending (by simp) (by simp)
  · exact foldl_frame State.inReset (by simp) (by simp)
  · exact foldl_frame State.heldBack (by simp) (by simp)
  · exact foldl_frame State.passes (by simp) (by simp)
  · exact foldl_frame State.energizing (by simp) (by simp)
  · exact foldl_frame State.waiting (by simp) (by simp)
  · exact foldl_frame State.arrivals (by simp) (by simp)
  · exact foldl_frame State.admissions (by simp) (by simp)
  · exact foldl_frame State.runs (by simp) (by simp)
  · exact foldl_frame State.sense (by simp) (by simp)
  · exact foldl_frame State.lines (by simp) (by simp)
  · exact foldl_frame State.ports (by simp) (by simp)
  · exact foldl_frame State.config (by simp) (by simp)

@[simp] theorem State.takeQueueEntry_frame (s : State) (c : Channel) (found : Found) :
    (s.takeQueueEntry c found).pending = s.pending ∧ (s.takeQueueEntry c found).inReset = s.inReset ∧
      (s.takeQueueEntry c found).trunks = s.trunks ∧ (s.takeQueueEntry c found).accounts = s.accounts ∧
      (s.takeQueueEntry c found).portView = s.portView ∧ (s.takeQueueEntry c found).heldBack = s.heldBack ∧
      (s.takeQueueEntry c found).passes = s.passes ∧ (s.takeQueueEntry c found).energizing = s.energizing ∧
      (s.takeQueueEntry c found).waiting = s.waiting ∧ (s.takeQueueEntry c found).admissions = s.admissions ∧
      (s.takeQueueEntry c found).runs = s.runs ∧ (s.takeQueueEntry c found).drivers = s.drivers ∧
      (s.takeQueueEntry c found).sense = s.sense ∧ (s.takeQueueEntry c found).lines = s.lines ∧
      (s.takeQueueEntry c found).ports = s.ports ∧ (s.takeQueueEntry c found).config = s.config := by
  simp only [State.takeQueueEntry]
  (repeat' split) <;> simp

@[simp] theorem State.takeWithhold_frame (s : State) (c : Channel) (found : Found) :
    (s.takeWithhold c found).pending = s.pending ∧ (s.takeWithhold c found).inReset = s.inReset ∧
      (s.takeWithhold c found).trunks = s.trunks ∧ (s.takeWithhold c found).accounts = s.accounts ∧
      (s.takeWithhold c found).portView = s.portView ∧ (s.takeWithhold c found).heldBack = s.heldBack ∧
      (s.takeWithhold c found).queues = s.queues ∧ (s.takeWithhold c found).passes = s.passes ∧
      (s.takeWithhold c found).energizing = s.energizing ∧ (s.takeWithhold c found).waiting = s.waiting ∧
      (s.takeWithhold c found).arrivals = s.arrivals ∧ (s.takeWithhold c found).admissions = s.admissions ∧
      (s.takeWithhold c found).runs = s.runs ∧ (s.takeWithhold c found).drivers = s.drivers ∧
      (s.takeWithhold c found).sense = s.sense ∧ (s.takeWithhold c found).lines = s.lines ∧
      (s.takeWithhold c found).ports = s.ports ∧ (s.takeWithhold c found).config = s.config := by
  simp only [State.takeWithhold]
  (repeat' split) <;> simp

@[simp] theorem State.takeAdmit_frame (s : State) (t : Trunk) (c : Channel) (found : Found) (stamp : BitVec 32) (need : Nat) :
    (s.takeAdmit t c found stamp need).pending = s.pending ∧
      (s.takeAdmit t c found stamp need).inReset = s.inReset ∧
      (s.takeAdmit t c found stamp need).portView = s.portView ∧
      (s.takeAdmit t c found stamp need).heldBack = s.heldBack ∧
      (s.takeAdmit t c found stamp need).energizing = s.energizing ∧
      (s.takeAdmit t c found stamp need).waiting = s.waiting ∧
      (s.takeAdmit t c found stamp need).arrivals = s.arrivals ∧
      (s.takeAdmit t c found stamp need).admissions = s.admissions ∧
      (s.takeAdmit t c found stamp need).runs = s.runs ∧ (s.takeAdmit t c found stamp need).drivers = s.drivers ∧
      (s.takeAdmit t c found stamp need).sense = s.sense ∧ (s.takeAdmit t c found stamp need).lines = s.lines ∧
      (s.takeAdmit t c found stamp need).ports = s.ports ∧ (s.takeAdmit t c found stamp need).config = s.config := by
  simp only [State.takeAdmit]
  (repeat' split) <;> simp

@[simp] theorem State.takeWaitExpiry_frame (s : State) (c : Channel) :
    (s.takeWaitExpiry c).pending = s.pending ∧ (s.takeWaitExpiry c).inReset = s.inReset ∧
      (s.takeWaitExpiry c).portView = s.portView ∧ (s.takeWaitExpiry c).heldBack = s.heldBack ∧
      (s.takeWaitExpiry c).passes = s.passes ∧ (s.takeWaitExpiry c).energizing = s.energizing ∧
      (s.takeWaitExpiry c).waiting = s.waiting ∧ (s.takeWaitExpiry c).arrivals = s.arrivals ∧
      (s.takeWaitExpiry c).admissions = s.admissions ∧ (s.takeWaitExpiry c).runs = s.runs ∧
      (s.takeWaitExpiry c).sense = s.sense ∧ (s.takeWaitExpiry c).lines = s.lines ∧
      (s.takeWaitExpiry c).ports = s.ports ∧ (s.takeWaitExpiry c).config = s.config := by
  simp only [State.takeWaitExpiry]
  (repeat' split) <;> simp

@[simp] theorem State.takeFlush_frame (s : State) (c : Channel) (heat : Nat) :
    (s.takeFlush c heat).pending = s.pending ∧ (s.takeFlush c heat).inReset = s.inReset ∧
      (s.takeFlush c heat).trunks = s.trunks ∧ (s.takeFlush c heat).accounts = s.accounts ∧
      (s.takeFlush c heat).portView = s.portView ∧ (s.takeFlush c heat).heldBack = s.heldBack ∧
      (s.takeFlush c heat).energizing = s.energizing ∧ (s.takeFlush c heat).waiting = s.waiting ∧
      (s.takeFlush c heat).arrivals = s.arrivals ∧ (s.takeFlush c heat).admissions = s.admissions ∧
      (s.takeFlush c heat).runs = s.runs ∧ (s.takeFlush c heat).drivers = s.drivers ∧
      (s.takeFlush c heat).sense = s.sense ∧ (s.takeFlush c heat).lines = s.lines ∧
      (s.takeFlush c heat).ports = s.ports ∧ (s.takeFlush c heat).config = s.config := by
  simp only [State.takeFlush]
  (repeat' split) <;> simp

@[simp] theorem State.takeAdvance_frame (s : State) (c : Channel) :
    (s.takeAdvance c).pending = s.pending ∧ (s.takeAdvance c).inReset = s.inReset ∧
      (s.takeAdvance c).trunks = s.trunks ∧ (s.takeAdvance c).accounts = s.accounts ∧
      (s.takeAdvance c).portView = s.portView ∧ (s.takeAdvance c).heldBack = s.heldBack ∧
      (s.takeAdvance c).queues = s.queues ∧ (s.takeAdvance c).passes = s.passes ∧
      (s.takeAdvance c).energizing = s.energizing ∧ (s.takeAdvance c).waiting = s.waiting ∧
      (s.takeAdvance c).arrivals = s.arrivals ∧ (s.takeAdvance c).admissions = s.admissions ∧
      (s.takeAdvance c).runs = s.runs ∧ (s.takeAdvance c).drivers = s.drivers ∧
      (s.takeAdvance c).sense = s.sense ∧ (s.takeAdvance c).lines = s.lines ∧ (s.takeAdvance c).ports = s.ports ∧
      (s.takeAdvance c).config = s.config := by
  simp only [State.takeAdvance]
  (repeat' split) <;> simp

@[simp] theorem State.takeCompletion_frame (s : State) (c : Channel) :
    (s.takeCompletion c).pending = s.pending ∧ (s.takeCompletion c).inReset = s.inReset ∧
      (s.takeCompletion c).portView = s.portView ∧ (s.takeCompletion c).heldBack = s.heldBack ∧
      (s.takeCompletion c).queues = s.queues ∧ (s.takeCompletion c).passes = s.passes ∧
      (s.takeCompletion c).energizing = s.energizing ∧ (s.takeCompletion c).waiting = s.waiting ∧
      (s.takeCompletion c).arrivals = s.arrivals ∧ (s.takeCompletion c).admissions = s.admissions ∧
      (s.takeCompletion c).runs = s.runs ∧ (s.takeCompletion c).sense = s.sense ∧
      (s.takeCompletion c).lines = s.lines ∧ (s.takeCompletion c).ports = s.ports ∧
      (s.takeCompletion c).config = s.config := by
  simp only [State.takeCompletion]
  (repeat' split) <;> simp

@[simp] theorem State.takeFailure_frame (s : State) (c : Channel) (cause : FaultCause) :
    (s.takeFailure c cause).pending = s.pending ∧ (s.takeFailure c cause).inReset = s.inReset ∧
      (s.takeFailure c cause).portView = s.portView ∧ (s.takeFailure c cause).heldBack = s.heldBack ∧
      (s.takeFailure c cause).passes = s.passes ∧ (s.takeFailure c cause).energizing = s.energizing ∧
      (s.takeFailure c cause).waiting = s.waiting ∧ (s.takeFailure c cause).arrivals = s.arrivals ∧
      (s.takeFailure c cause).admissions = s.admissions ∧ (s.takeFailure c cause).runs = s.runs ∧
      (s.takeFailure c cause).sense = s.sense ∧ (s.takeFailure c cause).lines = s.lines ∧
      (s.takeFailure c cause).ports = s.ports ∧ (s.takeFailure c cause).config = s.config := by
  simp only [State.takeFailure]
  (repeat' split) <;> simp

@[simp] theorem State.takeShed_frame (s : State) (t : Trunk) (c : Channel) :
    (s.takeShed t c).pending = s.pending ∧ (s.takeShed t c).inReset = s.inReset ∧
      (s.takeShed t c).portView = s.portView ∧ (s.takeShed t c).heldBack = s.heldBack ∧
      (s.takeShed t c).passes = s.passes ∧ (s.takeShed t c).energizing = s.energizing ∧
      (s.takeShed t c).waiting = s.waiting ∧ (s.takeShed t c).arrivals = s.arrivals ∧
      (s.takeShed t c).admissions = s.admissions ∧ (s.takeShed t c).runs = s.runs ∧
      (s.takeShed t c).sense = s.sense ∧ (s.takeShed t c).lines = s.lines ∧ (s.takeShed t c).ports = s.ports ∧
      (s.takeShed t c).config = s.config := by
  simp only [State.takeShed]
  (repeat' split) <;> simp

@[simp] theorem State.takeTrip_frame (s : State) (t : Trunk) (c : Channel) (heat : Nat) (confirmation : Bool) :
    (s.takeTrip t c heat confirmation).pending = s.pending ∧
      (s.takeTrip t c heat confirmation).inReset = s.inReset ∧
      (s.takeTrip t c heat confirmation).portView = s.portView ∧
      (s.takeTrip t c heat confirmation).heldBack = s.heldBack ∧
      (s.takeTrip t c heat confirmation).passes = s.passes ∧
      (s.takeTrip t c heat confirmation).energizing = s.energizing ∧
      (s.takeTrip t c heat confirmation).waiting = s.waiting ∧
      (s.takeTrip t c heat confirmation).arrivals = s.arrivals ∧
      (s.takeTrip t c heat confirmation).admissions = s.admissions ∧
      (s.takeTrip t c heat confirmation).runs = s.runs ∧ (s.takeTrip t c heat confirmation).sense = s.sense ∧
      (s.takeTrip t c heat confirmation).lines = s.lines ∧ (s.takeTrip t c heat confirmation).ports = s.ports ∧
      (s.takeTrip t c heat confirmation).config = s.config := by
  simp only [State.takeTrip]
  (repeat' split) <;> simp

@[simp] theorem State.takeShort_frame (s : State) (c : Channel) :
    (s.takeShort c).pending = s.pending ∧ (s.takeShort c).inReset = s.inReset ∧
      (s.takeShort c).portView = s.portView ∧ (s.takeShort c).heldBack = s.heldBack ∧
      (s.takeShort c).passes = s.passes ∧ (s.takeShort c).energizing = s.energizing ∧
      (s.takeShort c).waiting = s.waiting ∧ (s.takeShort c).arrivals = s.arrivals ∧
      (s.takeShort c).admissions = s.admissions ∧ (s.takeShort c).runs = s.runs ∧
      (s.takeShort c).sense = s.sense ∧ (s.takeShort c).lines = s.lines ∧ (s.takeShort c).ports = s.ports ∧
      (s.takeShort c).config = s.config := by
  simp only [State.takeShort]
  (repeat' split) <;> simp

@[simp] theorem State.takeLineClaim_frame (s : State) (l : Line) (c : Channel) (cur prio : Nat) :
    (s.takeLineClaim l c cur prio).pending = s.pending ∧ (s.takeLineClaim l c cur prio).inReset = s.inReset ∧
      (s.takeLineClaim l c cur prio).trunks = s.trunks ∧ (s.takeLineClaim l c cur prio).accounts = s.accounts ∧
      (s.takeLineClaim l c cur prio).portView = s.portView ∧
      (s.takeLineClaim l c cur prio).heldBack = s.heldBack ∧ (s.takeLineClaim l c cur prio).queues = s.queues ∧
      (s.takeLineClaim l c cur prio).passes = s.passes ∧
      (s.takeLineClaim l c cur prio).energizing = s.energizing ∧
      (s.takeLineClaim l c cur prio).waiting = s.waiting ∧ (s.takeLineClaim l c cur prio).arrivals = s.arrivals ∧
      (s.takeLineClaim l c cur prio).admissions = s.admissions ∧ (s.takeLineClaim l c cur prio).runs = s.runs ∧
      (s.takeLineClaim l c cur prio).drivers = s.drivers ∧ (s.takeLineClaim l c cur prio).sense = s.sense ∧
      (s.takeLineClaim l c cur prio).lines = s.lines ∧ (s.takeLineClaim l c cur prio).ports = s.ports ∧
      (s.takeLineClaim l c cur prio).config = s.config := by
  simp only [State.takeLineClaim]
  (repeat' split) <;> simp

@[simp] theorem State.takeLineRelease_frame (s : State) (l : Line) (c : Channel) :
    (s.takeLineRelease l c).pending = s.pending ∧ (s.takeLineRelease l c).inReset = s.inReset ∧
      (s.takeLineRelease l c).portView = s.portView ∧ (s.takeLineRelease l c).heldBack = s.heldBack ∧
      (s.takeLineRelease l c).passes = s.passes ∧ (s.takeLineRelease l c).energizing = s.energizing ∧
      (s.takeLineRelease l c).waiting = s.waiting ∧ (s.takeLineRelease l c).arrivals = s.arrivals ∧
      (s.takeLineRelease l c).admissions = s.admissions ∧ (s.takeLineRelease l c).runs = s.runs ∧
      (s.takeLineRelease l c).sense = s.sense ∧ (s.takeLineRelease l c).lines = s.lines ∧
      (s.takeLineRelease l c).ports = s.ports ∧ (s.takeLineRelease l c).config = s.config := by
  simp only [State.takeLineRelease]
  (repeat' split) <;> simp

@[simp] theorem State.takeInhibit_frame (s : State) (l : Line) (c : Channel) :
    (s.takeInhibit l c).pending = s.pending ∧ (s.takeInhibit l c).inReset = s.inReset ∧
      (s.takeInhibit l c).portView = s.portView ∧ (s.takeInhibit l c).heldBack = s.heldBack ∧
      (s.takeInhibit l c).passes = s.passes ∧ (s.takeInhibit l c).energizing = s.energizing ∧
      (s.takeInhibit l c).waiting = s.waiting ∧ (s.takeInhibit l c).arrivals = s.arrivals ∧
      (s.takeInhibit l c).admissions = s.admissions ∧ (s.takeInhibit l c).runs = s.runs ∧
      (s.takeInhibit l c).sense = s.sense ∧ (s.takeInhibit l c).lines = s.lines ∧
      (s.takeInhibit l c).ports = s.ports ∧ (s.takeInhibit l c).config = s.config := by
  simp only [State.takeInhibit]
  (repeat' split) <;> simp

@[simp] theorem State.takeResume_frame (s : State) (c : Channel) :
    (s.takeResume c).pending = s.pending ∧ (s.takeResume c).inReset = s.inReset ∧
      (s.takeResume c).portView = s.portView ∧ (s.takeResume c).heldBack = s.heldBack ∧
      (s.takeResume c).passes = s.passes ∧ (s.takeResume c).energizing = s.energizing ∧
      (s.takeResume c).waiting = s.waiting ∧ (s.takeResume c).arrivals = s.arrivals ∧
      (s.takeResume c).admissions = s.admissions ∧ (s.takeResume c).runs = s.runs ∧
      (s.takeResume c).sense = s.sense ∧ (s.takeResume c).lines = s.lines ∧ (s.takeResume c).ports = s.ports ∧
      (s.takeResume c).config = s.config := by
  simp only [State.takeResume]
  (repeat' split) <;> simp

@[simp] theorem State.takeChannelProfile_frame (s : State) (o : Origin) (c : Channel) (new : ChannelProfile) :
    (s.takeChannelProfile o c new).pending = s.pending ∧ (s.takeChannelProfile o c new).inReset = s.inReset ∧
      (s.takeChannelProfile o c new).trunks = s.trunks ∧ (s.takeChannelProfile o c new).accounts = s.accounts ∧
      (s.takeChannelProfile o c new).portView = s.portView ∧
      (s.takeChannelProfile o c new).heldBack = s.heldBack ∧ (s.takeChannelProfile o c new).queues = s.queues ∧
      (s.takeChannelProfile o c new).passes = s.passes ∧
      (s.takeChannelProfile o c new).energizing = s.energizing ∧
      (s.takeChannelProfile o c new).waiting = s.waiting ∧ (s.takeChannelProfile o c new).arrivals = s.arrivals ∧
      (s.takeChannelProfile o c new).admissions = s.admissions ∧ (s.takeChannelProfile o c new).runs = s.runs ∧
      (s.takeChannelProfile o c new).drivers = s.drivers ∧ (s.takeChannelProfile o c new).sense = s.sense ∧
      (s.takeChannelProfile o c new).lines = s.lines ∧ (s.takeChannelProfile o c new).ports = s.ports := by
  simp only [State.takeChannelProfile]
  (repeat' split) <;> simp

@[simp] theorem State.takeLockoutRelease_frame (s : State) (c : Channel) :
    (s.takeLockoutRelease c).pending = s.pending ∧ (s.takeLockoutRelease c).inReset = s.inReset ∧
      (s.takeLockoutRelease c).trunks = s.trunks ∧ (s.takeLockoutRelease c).accounts = s.accounts ∧
      (s.takeLockoutRelease c).portView = s.portView ∧ (s.takeLockoutRelease c).heldBack = s.heldBack ∧
      (s.takeLockoutRelease c).queues = s.queues ∧ (s.takeLockoutRelease c).passes = s.passes ∧
      (s.takeLockoutRelease c).energizing = s.energizing ∧ (s.takeLockoutRelease c).waiting = s.waiting ∧
      (s.takeLockoutRelease c).arrivals = s.arrivals ∧ (s.takeLockoutRelease c).admissions = s.admissions ∧
      (s.takeLockoutRelease c).runs = s.runs ∧ (s.takeLockoutRelease c).drivers = s.drivers ∧
      (s.takeLockoutRelease c).sense = s.sense ∧ (s.takeLockoutRelease c).lines = s.lines ∧
      (s.takeLockoutRelease c).ports = s.ports ∧ (s.takeLockoutRelease c).config = s.config := by
  simp only [State.takeLockoutRelease]
  (repeat' split) <;> simp

@[simp] theorem State.leaseTake_frame (i : Instr) (s : State) :
    (leaseTake i s).pending = s.pending ∧ (leaseTake i s).inReset = s.inReset ∧
      (leaseTake i s).heldBack = s.heldBack ∧ (leaseTake i s).energizing = s.energizing ∧
      (leaseTake i s).waiting = s.waiting ∧ (leaseTake i s).admissions = s.admissions ∧
      (leaseTake i s).runs = s.runs ∧ (leaseTake i s).sense = s.sense ∧ (leaseTake i s).lines = s.lines ∧
      (leaseTake i s).ports = s.ports := by
  cases i <;> simp [leaseTake]

@[simp] theorem State.releaseOne_frame (s : State) (i : Instr) :
    (s.releaseOne i).pending = s.pending ∧ (s.releaseOne i).inReset = s.inReset ∧
      (s.releaseOne i).energizing = s.energizing ∧ (s.releaseOne i).waiting = s.waiting ∧
      (s.releaseOne i).admissions = s.admissions ∧ (s.releaseOne i).sense = s.sense ∧
      (s.releaseOne i).lines = s.lines ∧ (s.releaseOne i).ports = s.ports := by
  simp only [State.releaseOne]
  (repeat' split) <;> simp

@[simp] theorem State.releaseHeldBack_frame (s : State) :
    (s.releaseHeldBack).pending = s.pending ∧ (s.releaseHeldBack).inReset = s.inReset ∧
      (s.releaseHeldBack).energizing = s.energizing ∧ (s.releaseHeldBack).waiting = s.waiting ∧
      (s.releaseHeldBack).admissions = s.admissions ∧ (s.releaseHeldBack).sense = s.sense ∧
      (s.releaseHeldBack).lines = s.lines ∧ (s.releaseHeldBack).ports = s.ports := by
  simp only [State.releaseHeldBack]
  and_intros
  · exact foldl_frame State.pending (by simp) (by simp)
  · exact foldl_frame State.inReset (by simp) (by simp)
  · exact foldl_frame State.energizing (by simp) (by simp)
  · exact foldl_frame State.waiting (by simp) (by simp)
  · exact foldl_frame State.admissions (by simp) (by simp)
  · exact foldl_frame State.sense (by simp) (by simp)
  · exact foldl_frame State.lines (by simp) (by simp)
  · exact foldl_frame State.ports (by simp) (by simp)

@[simp] theorem State.leaseCommand_frame (s : State) (i : Instr) :
    (s.leaseCommand i).pending = s.pending ∧ (s.leaseCommand i).inReset = s.inReset ∧
      (s.leaseCommand i).energizing = s.energizing ∧ (s.leaseCommand i).waiting = s.waiting ∧
      (s.leaseCommand i).admissions = s.admissions ∧ (s.leaseCommand i).sense = s.sense ∧
      (s.leaseCommand i).lines = s.lines := by
  simp only [State.leaseCommand, State.hostRequest, State.atLeaseManager, State.window, State.accept, State.takeRequest]
  (repeat' split) <;> simp

@[simp] theorem State.claimCommand_frame (s : State) (i : Instr) :
    (s.claimCommand i).pending = s.pending ∧ (s.claimCommand i).inReset = s.inReset ∧
      (s.claimCommand i).energizing = s.energizing ∧ (s.claimCommand i).waiting = s.waiting ∧
      (s.claimCommand i).admissions = s.admissions ∧ (s.claimCommand i).sense = s.sense ∧
      (s.claimCommand i).lines = s.lines ∧ (s.claimCommand i).ports = s.ports := by
  simp only [State.claimCommand, State.taking, State.atLeaseManager, State.running]
  (repeat' split) <;> simp

end Sys2Proof.Machine
end

