-- ==== Sys2Proof/Laws/FramesAdmission.lean ====
section
/-! SUPPORT. Frames: for each operation of the Admission Unit, the fields of the state that it leaves as they stand. -/

namespace Sys2Proof.Machine

@[simp] theorem State.answerEnergize_frame (s : State) (src : EnergizeSource) (c : Channel) (status : Status) (st : ChanState) (ahead : Option Nat) :
    (s.answerEnergize src c status st ahead).pending = s.pending ∧
      (s.answerEnergize src c status st ahead).inReset = s.inReset ∧
      (s.answerEnergize src c status st ahead).trunks = s.trunks ∧
      (s.answerEnergize src c status st ahead).accounts = s.accounts ∧
      (s.answerEnergize src c status st ahead).channels = s.channels ∧
      (s.answerEnergize src c status st ahead).portView = s.portView ∧
      (s.answerEnergize src c status st ahead).heldBack = s.heldBack ∧
      (s.answerEnergize src c status st ahead).queues = s.queues ∧
      (s.answerEnergize src c status st ahead).passes = s.passes ∧
      (s.answerEnergize src c status st ahead).energizing = s.energizing ∧
      (s.answerEnergize src c status st ahead).waiting = s.waiting ∧
      (s.answerEnergize src c status st ahead).arrivals = s.arrivals ∧
      (s.answerEnergize src c status st ahead).admissions = s.admissions ∧
      (s.answerEnergize src c status st ahead).runs = s.runs ∧
      (s.answerEnergize src c status st ahead).drivers = s.drivers ∧
      (s.answerEnergize src c status st ahead).sense = s.sense ∧
      (s.answerEnergize src c status st ahead).lines = s.lines ∧
      (s.answerEnergize src c status st ahead).ports = s.ports ∧
      (s.answerEnergize src c status st ahead).config = s.config := by
  simp only [State.answerEnergize]
  (repeat' split) <;> simp

@[simp] theorem State.arrival_frame (s : State) (src : EnergizeSource) (c : Channel) (found : Found) :
    (s.arrival src c found).pending = s.pending ∧ (s.arrival src c found).inReset = s.inReset ∧
      (s.arrival src c found).trunks = s.trunks ∧ (s.arrival src c found).accounts = s.accounts ∧
      (s.arrival src c found).channels = s.channels ∧ (s.arrival src c found).portView = s.portView ∧
      (s.arrival src c found).heldBack = s.heldBack ∧ (s.arrival src c found).queues = s.queues ∧
      (s.arrival src c found).passes = s.passes ∧ (s.arrival src c found).waiting = s.waiting ∧
      (s.arrival src c found).arrivals = s.arrivals ∧ (s.arrival src c found).admissions = s.admissions ∧
      (s.arrival src c found).runs = s.runs ∧ (s.arrival src c found).drivers = s.drivers ∧
      (s.arrival src c found).sense = s.sense ∧ (s.arrival src c found).lines = s.lines ∧
      (s.arrival src c found).ports = s.ports ∧ (s.arrival src c found).config = s.config := by
  simp only [State.arrival]
  (repeat' split) <;> simp

@[simp] theorem State.judgeEnergize_frame (s : State) (src : EnergizeSource) (c : Channel) :
    (s.judgeEnergize src c).pending = s.pending ∧ (s.judgeEnergize src c).inReset = s.inReset ∧
      (s.judgeEnergize src c).trunks = s.trunks ∧ (s.judgeEnergize src c).accounts = s.accounts ∧
      (s.judgeEnergize src c).channels = s.channels ∧ (s.judgeEnergize src c).portView = s.portView ∧
      (s.judgeEnergize src c).heldBack = s.heldBack ∧ (s.judgeEnergize src c).queues = s.queues ∧
      (s.judgeEnergize src c).passes = s.passes ∧ (s.judgeEnergize src c).waiting = s.waiting ∧
      (s.judgeEnergize src c).arrivals = s.arrivals ∧ (s.judgeEnergize src c).admissions = s.admissions ∧
      (s.judgeEnergize src c).runs = s.runs ∧ (s.judgeEnergize src c).drivers = s.drivers ∧
      (s.judgeEnergize src c).sense = s.sense ∧ (s.judgeEnergize src c).lines = s.lines ∧
      (s.judgeEnergize src c).ports = s.ports ∧ (s.judgeEnergize src c).config = s.config := by
  simp only [State.judgeEnergize]
  (repeat' split) <;> simp

@[simp] theorem State.takeEnergize_frame (s : State) (r : Req) (ch : Byte) :
    (s.takeEnergize r ch).pending = s.pending ∧ (s.takeEnergize r ch).inReset = s.inReset ∧
      (s.takeEnergize r ch).trunks = s.trunks ∧ (s.takeEnergize r ch).accounts = s.accounts ∧
      (s.takeEnergize r ch).channels = s.channels ∧ (s.takeEnergize r ch).portView = s.portView ∧
      (s.takeEnergize r ch).heldBack = s.heldBack ∧ (s.takeEnergize r ch).queues = s.queues ∧
      (s.takeEnergize r ch).passes = s.passes ∧ (s.takeEnergize r ch).arrivals = s.arrivals ∧
      (s.takeEnergize r ch).admissions = s.admissions ∧ (s.takeEnergize r ch).runs = s.runs ∧
      (s.takeEnergize r ch).drivers = s.drivers ∧ (s.takeEnergize r ch).sense = s.sense ∧
      (s.takeEnergize r ch).lines = s.lines ∧ (s.takeEnergize r ch).ports = s.ports ∧
      (s.takeEnergize r ch).config = s.config := by
  simp only [State.takeEnergize]
  (repeat' split) <;> simp

@[simp] theorem State.takeLineEnergize_frame (s : State) (c : Channel) (h : Holder) (resumed : Bool) :
    (s.takeLineEnergize c h resumed).pending = s.pending ∧ (s.takeLineEnergize c h resumed).inReset = s.inReset ∧
      (s.takeLineEnergize c h resumed).trunks = s.trunks ∧
      (s.takeLineEnergize c h resumed).accounts = s.accounts ∧
      (s.takeLineEnergize c h resumed).channels = s.channels ∧
      (s.takeLineEnergize c h resumed).portView = s.portView ∧
      (s.takeLineEnergize c h resumed).heldBack = s.heldBack ∧
      (s.takeLineEnergize c h resumed).queues = s.queues ∧ (s.takeLineEnergize c h resumed).passes = s.passes ∧
      (s.takeLineEnergize c h resumed).arrivals = s.arrivals ∧
      (s.takeLineEnergize c h resumed).admissions = s.admissions ∧
      (s.takeLineEnergize c h resumed).runs = s.runs ∧ (s.takeLineEnergize c h resumed).drivers = s.drivers ∧
      (s.takeLineEnergize c h resumed).sense = s.sense ∧ (s.takeLineEnergize c h resumed).lines = s.lines ∧
      (s.takeLineEnergize c h resumed).ports = s.ports ∧ (s.takeLineEnergize c h resumed).config = s.config := by
  simp only [State.takeLineEnergize]
  (repeat' split) <;> simp

@[simp] theorem State.energizeTake_frame (i : Instr) (s : State) :
    (energizeTake i s).pending = s.pending ∧ (energizeTake i s).inReset = s.inReset ∧
      (energizeTake i s).trunks = s.trunks ∧ (energizeTake i s).accounts = s.accounts ∧
      (energizeTake i s).channels = s.channels ∧ (energizeTake i s).portView = s.portView ∧
      (energizeTake i s).heldBack = s.heldBack ∧ (energizeTake i s).queues = s.queues ∧
      (energizeTake i s).passes = s.passes ∧ (energizeTake i s).arrivals = s.arrivals ∧
      (energizeTake i s).admissions = s.admissions ∧ (energizeTake i s).runs = s.runs ∧
      (energizeTake i s).drivers = s.drivers ∧ (energizeTake i s).sense = s.sense ∧
      (energizeTake i s).lines = s.lines ∧ (energizeTake i s).ports = s.ports ∧
      (energizeTake i s).config = s.config := by
  cases i <;> simp [energizeTake]

@[simp] theorem State.admissionSettled_frame (s : State) :
    (s.admissionSettled).pending = s.pending ∧ (s.admissionSettled).inReset = s.inReset ∧
      (s.admissionSettled).admissions = s.admissions ∧ (s.admissionSettled).sense = s.sense ∧
      (s.admissionSettled).lines = s.lines ∧ (s.admissionSettled).ports = s.ports := by
  simp only [State.admissionSettled]
  and_intros
  · exact foldl_frame State.pending (by simp) (by simp)
  · exact foldl_frame State.inReset (by simp) (by simp)
  · exact foldl_frame State.admissions (by simp) (by simp)
  · exact foldl_frame State.sense (by simp) (by simp)
  · exact foldl_frame State.lines (by simp) (by simp)
  · exact foldl_frame State.ports (by simp) (by simp)

@[simp] theorem State.endEnergize_frame (s : State) (src : EnergizeSource) (c : Channel) (status : Status) (st : ChanState) (ahead : Option Nat) :
    (s.endEnergize src c status st ahead).pending = s.pending ∧
      (s.endEnergize src c status st ahead).inReset = s.inReset ∧
      (s.endEnergize src c status st ahead).trunks = s.trunks ∧
      (s.endEnergize src c status st ahead).accounts = s.accounts ∧
      (s.endEnergize src c status st ahead).channels = s.channels ∧
      (s.endEnergize src c status st ahead).portView = s.portView ∧
      (s.endEnergize src c status st ahead).heldBack = s.heldBack ∧
      (s.endEnergize src c status st ahead).queues = s.queues ∧
      (s.endEnergize src c status st ahead).passes = s.passes ∧
      (s.endEnergize src c status st ahead).waiting = s.waiting ∧
      (s.endEnergize src c status st ahead).arrivals = s.arrivals ∧
      (s.endEnergize src c status st ahead).admissions = s.admissions ∧
      (s.endEnergize src c status st ahead).runs = s.runs ∧
      (s.endEnergize src c status st ahead).drivers = s.drivers ∧
      (s.endEnergize src c status st ahead).sense = s.sense ∧
      (s.endEnergize src c status st ahead).lines = s.lines ∧
      (s.endEnergize src c status st ahead).ports = s.ports ∧
      (s.endEnergize src c status st ahead).config = s.config := by
  simp [State.endEnergize]

@[simp] theorem State.sendAdmit_frame (s : State) (t : Trunk) (c : Channel) (found : Found) (need : Nat) :
    (s.sendAdmit t c found need).pending = s.pending ∧ (s.sendAdmit t c found need).inReset = s.inReset ∧
      (s.sendAdmit t c found need).trunks = s.trunks ∧ (s.sendAdmit t c found need).accounts = s.accounts ∧
      (s.sendAdmit t c found need).channels = s.channels ∧ (s.sendAdmit t c found need).portView = s.portView ∧
      (s.sendAdmit t c found need).heldBack = s.heldBack ∧ (s.sendAdmit t c found need).queues = s.queues ∧
      (s.sendAdmit t c found need).passes = s.passes ∧ (s.sendAdmit t c found need).energizing = s.energizing ∧
      (s.sendAdmit t c found need).waiting = s.waiting ∧ (s.sendAdmit t c found need).arrivals = s.arrivals ∧
      (s.sendAdmit t c found need).runs = s.runs ∧ (s.sendAdmit t c found need).drivers = s.drivers ∧
      (s.sendAdmit t c found need).sense = s.sense ∧ (s.sendAdmit t c found need).lines = s.lines ∧
      (s.sendAdmit t c found need).ports = s.ports ∧ (s.sendAdmit t c found need).config = s.config := by
  simp [State.sendAdmit]

@[simp] theorem State.takeArrivalAnswer_frame (s : State) (t : Trunk) (c : Channel) (need : Nat) (refusal : Option AdmissionRefusal) :
    (s.takeArrivalAnswer t c need refusal).pending = s.pending ∧
      (s.takeArrivalAnswer t c need refusal).inReset = s.inReset ∧
      (s.takeArrivalAnswer t c need refusal).trunks = s.trunks ∧
      (s.takeArrivalAnswer t c need refusal).accounts = s.accounts ∧
      (s.takeArrivalAnswer t c need refusal).channels = s.channels ∧
      (s.takeArrivalAnswer t c need refusal).portView = s.portView ∧
      (s.takeArrivalAnswer t c need refusal).heldBack = s.heldBack ∧
      (s.takeArrivalAnswer t c need refusal).queues = s.queues ∧
      (s.takeArrivalAnswer t c need refusal).passes = s.passes ∧
      (s.takeArrivalAnswer t c need refusal).waiting = s.waiting ∧
      (s.takeArrivalAnswer t c need refusal).arrivals = s.arrivals ∧
      (s.takeArrivalAnswer t c need refusal).runs = s.runs ∧
      (s.takeArrivalAnswer t c need refusal).drivers = s.drivers ∧
      (s.takeArrivalAnswer t c need refusal).sense = s.sense ∧
      (s.takeArrivalAnswer t c need refusal).lines = s.lines ∧
      (s.takeArrivalAnswer t c need refusal).ports = s.ports ∧
      (s.takeArrivalAnswer t c need refusal).config = s.config := by
  simp only [State.takeArrivalAnswer]
  (repeat' split) <;> simp

@[simp] theorem State.takePassAnswer_frame (s : State) (t : Trunk) (c : Channel) (need : Nat) (refusal : Option AdmissionRefusal) :
    (s.takePassAnswer t c need refusal).pending = s.pending ∧
      (s.takePassAnswer t c need refusal).inReset = s.inReset ∧
      (s.takePassAnswer t c need refusal).sense = s.sense ∧ (s.takePassAnswer t c need refusal).lines = s.lines ∧
      (s.takePassAnswer t c need refusal).ports = s.ports := by
  simp only [State.takePassAnswer]
  (repeat' split) <;> simp

@[simp] theorem State.entryJoined_frame (s : State) (c : Channel) (ahead : Nat) :
    (s.entryJoined c ahead).pending = s.pending ∧ (s.entryJoined c ahead).inReset = s.inReset ∧
      (s.entryJoined c ahead).trunks = s.trunks ∧ (s.entryJoined c ahead).accounts = s.accounts ∧
      (s.entryJoined c ahead).channels = s.channels ∧ (s.entryJoined c ahead).portView = s.portView ∧
      (s.entryJoined c ahead).heldBack = s.heldBack ∧ (s.entryJoined c ahead).queues = s.queues ∧
      (s.entryJoined c ahead).passes = s.passes ∧ (s.entryJoined c ahead).energizing = s.energizing ∧
      (s.entryJoined c ahead).waiting = s.waiting ∧ (s.entryJoined c ahead).arrivals = s.arrivals ∧
      (s.entryJoined c ahead).admissions = s.admissions ∧ (s.entryJoined c ahead).runs = s.runs ∧
      (s.entryJoined c ahead).drivers = s.drivers ∧ (s.entryJoined c ahead).sense = s.sense ∧
      (s.entryJoined c ahead).lines = s.lines ∧ (s.entryJoined c ahead).ports = s.ports ∧
      (s.entryJoined c ahead).config = s.config := by
  simp only [State.entryJoined]
  (repeat' split) <;> simp

@[simp] theorem State.takeEntryAnswer_frame (s : State) (c : Channel) (left : ChanState) (ahead : Option Nat) :
    (s.takeEntryAnswer c left ahead).pending = s.pending ∧ (s.takeEntryAnswer c left ahead).inReset = s.inReset ∧
      (s.takeEntryAnswer c left ahead).admissions = s.admissions ∧
      (s.takeEntryAnswer c left ahead).sense = s.sense ∧ (s.takeEntryAnswer c left ahead).lines = s.lines ∧
      (s.takeEntryAnswer c left ahead).ports = s.ports := by
  simp only [State.takeEntryAnswer]
  (repeat' split) <;> simp

@[simp] theorem State.takeWithholdAnswer_frame (s : State) (c : Channel) (left : ChanState) (taken : Bool) :
    (s.takeWithholdAnswer c left taken).pending = s.pending ∧
      (s.takeWithholdAnswer c left taken).inReset = s.inReset ∧
      (s.takeWithholdAnswer c left taken).admissions = s.admissions ∧
      (s.takeWithholdAnswer c left taken).sense = s.sense ∧ (s.takeWithholdAnswer c left taken).lines = s.lines ∧
      (s.takeWithholdAnswer c left taken).ports = s.ports := by
  simp only [State.takeWithholdAnswer]
  (repeat' split) <;> simp

@[simp] theorem State.postGranted_frame (s : State) (c : Channel) (need : Nat) (left : ChanState) :
    (s.postGranted c need left).pending = s.pending ∧ (s.postGranted c need left).inReset = s.inReset ∧
      (s.postGranted c need left).trunks = s.trunks ∧ (s.postGranted c need left).accounts = s.accounts ∧
      (s.postGranted c need left).channels = s.channels ∧ (s.postGranted c need left).portView = s.portView ∧
      (s.postGranted c need left).heldBack = s.heldBack ∧ (s.postGranted c need left).queues = s.queues ∧
      (s.postGranted c need left).passes = s.passes ∧ (s.postGranted c need left).energizing = s.energizing ∧
      (s.postGranted c need left).waiting = s.waiting ∧ (s.postGranted c need left).arrivals = s.arrivals ∧
      (s.postGranted c need left).admissions = s.admissions ∧ (s.postGranted c need left).runs = s.runs ∧
      (s.postGranted c need left).drivers = s.drivers ∧ (s.postGranted c need left).sense = s.sense ∧
      (s.postGranted c need left).lines = s.lines ∧ (s.postGranted c need left).ports = s.ports ∧
      (s.postGranted c need left).config = s.config := by
  simp only [State.postGranted]
  (repeat' split) <;> simp

@[simp] theorem State.takeAdmitAnswer_frame (s : State) (t : Trunk) (c : Channel) (found : Found) (need : Nat) (left : ChanState) (taken : Bool) :
    (s.takeAdmitAnswer t c found need left taken).pending = s.pending ∧
      (s.takeAdmitAnswer t c found need left taken).inReset = s.inReset ∧
      (s.takeAdmitAnswer t c found need left taken).admissions = s.admissions ∧
      (s.takeAdmitAnswer t c found need left taken).sense = s.sense ∧
      (s.takeAdmitAnswer t c found need left taken).lines = s.lines ∧
      (s.takeAdmitAnswer t c found need left taken).ports = s.ports := by
  simp only [State.takeAdmitAnswer]
  (repeat' split) <;> simp

@[simp] theorem State.takeRemoval_frame (s : State) (c : Channel) :
    (s.takeRemoval c).pending = s.pending ∧ (s.takeRemoval c).inReset = s.inReset ∧
      (s.takeRemoval c).trunks = s.trunks ∧ (s.takeRemoval c).accounts = s.accounts ∧
      (s.takeRemoval c).channels = s.channels ∧ (s.takeRemoval c).portView = s.portView ∧
      (s.takeRemoval c).heldBack = s.heldBack ∧ (s.takeRemoval c).passes = s.passes ∧
      (s.takeRemoval c).energizing = s.energizing ∧ (s.takeRemoval c).waiting = s.waiting ∧
      (s.takeRemoval c).arrivals = s.arrivals ∧ (s.takeRemoval c).admissions = s.admissions ∧
      (s.takeRemoval c).runs = s.runs ∧ (s.takeRemoval c).drivers = s.drivers ∧
      (s.takeRemoval c).sense = s.sense ∧ (s.takeRemoval c).lines = s.lines ∧ (s.takeRemoval c).ports = s.ports ∧
      (s.takeRemoval c).config = s.config := by
  simp only [State.takeRemoval]
  (repeat' split) <;> simp

end Sys2Proof.Machine
end

