-- ==== Sys2Proof/Laws/FramesBudget.lean ====
section
/-! SUPPORT. Frames: for each operation of the Budget Unit, the fields of the state that it leaves as they stand. -/

namespace Sys2Proof.Machine

@[simp] theorem State.makeShed_frame (s : State) (t : Trunk) (heat : Nat) :
    (s.makeShed t heat).pending = s.pending ∧ (s.makeShed t heat).inReset = s.inReset ∧
      (s.makeShed t heat).accounts = s.accounts ∧ (s.makeShed t heat).channels = s.channels ∧
      (s.makeShed t heat).portView = s.portView ∧ (s.makeShed t heat).heldBack = s.heldBack ∧
      (s.makeShed t heat).queues = s.queues ∧ (s.makeShed t heat).passes = s.passes ∧
      (s.makeShed t heat).energizing = s.energizing ∧ (s.makeShed t heat).waiting = s.waiting ∧
      (s.makeShed t heat).arrivals = s.arrivals ∧ (s.makeShed t heat).admissions = s.admissions ∧
      (s.makeShed t heat).runs = s.runs ∧ (s.makeShed t heat).drivers = s.drivers ∧
      (s.makeShed t heat).sense = s.sense ∧ (s.makeShed t heat).lines = s.lines ∧
      (s.makeShed t heat).ports = s.ports ∧ (s.makeShed t heat).config = s.config := by
  simp only [State.makeShed]
  (repeat' split) <;> simp

@[simp] theorem State.makeOwed_frame (s : State) (t : Trunk) :
    (s.makeOwed t).pending = s.pending ∧ (s.makeOwed t).inReset = s.inReset ∧
      (s.makeOwed t).accounts = s.accounts ∧ (s.makeOwed t).channels = s.channels ∧
      (s.makeOwed t).portView = s.portView ∧ (s.makeOwed t).heldBack = s.heldBack ∧
      (s.makeOwed t).queues = s.queues ∧ (s.makeOwed t).passes = s.passes ∧
      (s.makeOwed t).energizing = s.energizing ∧ (s.makeOwed t).waiting = s.waiting ∧
      (s.makeOwed t).arrivals = s.arrivals ∧ (s.makeOwed t).admissions = s.admissions ∧
      (s.makeOwed t).runs = s.runs ∧ (s.makeOwed t).drivers = s.drivers ∧ (s.makeOwed t).sense = s.sense ∧
      (s.makeOwed t).lines = s.lines ∧ (s.makeOwed t).ports = s.ports ∧ (s.makeOwed t).config = s.config := by
  simp only [State.makeOwed]
  and_intros
  · exact foldl_frame State.pending (by simp) (by simp)
  · exact foldl_frame State.inReset (by simp) (by simp)
  · exact foldl_frame State.accounts (by simp) (by simp)
  · exact foldl_frame State.channels (by simp) (by simp)
  · exact foldl_frame State.portView (by simp) (by simp)
  · exact foldl_frame State.heldBack (by simp) (by simp)
  · exact foldl_frame State.queues (by simp) (by simp)
  · exact foldl_frame State.passes (by simp) (by simp)
  · exact foldl_frame State.energizing (by simp) (by simp)
  · exact foldl_frame State.waiting (by simp) (by simp)
  · exact foldl_frame State.arrivals (by simp) (by simp)
  · exact foldl_frame State.admissions (by simp) (by simp)
  · exact foldl_frame State.runs (by simp) (by simp)
  · exact foldl_frame State.drivers (by simp) (by simp)
  · exact foldl_frame State.sense (by simp) (by simp)
  · exact foldl_frame State.lines (by simp) (by simp)
  · exact foldl_frame State.ports (by simp) (by simp)
  · exact foldl_frame State.config (by simp) (by simp)

@[simp] theorem State.openSwitches_frame (s : State) (t : Trunk) :
    (s.openSwitches t).pending = s.pending ∧ (s.openSwitches t).inFlight = s.inFlight ∧
      (s.openSwitches t).inReset = s.inReset ∧ (s.openSwitches t).trunks = s.trunks ∧
      (s.openSwitches t).accounts = s.accounts ∧ (s.openSwitches t).channels = s.channels ∧
      (s.openSwitches t).portView = s.portView ∧ (s.openSwitches t).heldBack = s.heldBack ∧
      (s.openSwitches t).queues = s.queues ∧ (s.openSwitches t).passes = s.passes ∧
      (s.openSwitches t).energizing = s.energizing ∧ (s.openSwitches t).waiting = s.waiting ∧
      (s.openSwitches t).arrivals = s.arrivals ∧ (s.openSwitches t).admissions = s.admissions ∧
      (s.openSwitches t).runs = s.runs ∧ (s.openSwitches t).sense = s.sense ∧ (s.openSwitches t).lines = s.lines ∧
      (s.openSwitches t).ports = s.ports ∧ (s.openSwitches t).config = s.config := by
  simp only [State.openSwitches]
  and_intros
  · exact foldl_frame State.pending (by simp) (by simp)
  · exact foldl_frame State.inFlight (by simp) (by simp)
  · exact foldl_frame State.inReset (by simp) (by simp)
  · exact foldl_frame State.trunks (by simp) (by simp)
  · exact foldl_frame State.accounts (by simp) (by simp)
  · exact foldl_frame State.channels (by simp) (by simp)
  · exact foldl_frame State.portView (by simp) (by simp)
  · exact foldl_frame State.heldBack (by simp) (by simp)
  · exact foldl_frame State.queues (by simp) (by simp)
  · exact foldl_frame State.passes (by simp) (by simp)
  · exact foldl_frame State.energizing (by simp) (by simp)
  · exact foldl_frame State.waiting (by simp) (by simp)
  · exact foldl_frame State.arrivals (by simp) (by simp)
  · exact foldl_frame State.admissions (by simp) (by simp)
  · exact foldl_frame State.runs (by simp) (by simp)
  · exact foldl_frame State.sense (by simp) (by simp)
  · exact foldl_frame State.lines (by simp) (by simp)
  · exact foldl_frame State.ports (by simp) (by simp)
  · exact foldl_frame State.config (by simp) (by simp)

@[simp] theorem State.postTripped_frame (s : State) (t : Trunk) (heat : Nat) :
    (s.postTripped t heat).pending = s.pending ∧ (s.postTripped t heat).inReset = s.inReset ∧
      (s.postTripped t heat).trunks = s.trunks ∧ (s.postTripped t heat).accounts = s.accounts ∧
      (s.postTripped t heat).channels = s.channels ∧ (s.postTripped t heat).portView = s.portView ∧
      (s.postTripped t heat).heldBack = s.heldBack ∧ (s.postTripped t heat).queues = s.queues ∧
      (s.postTripped t heat).passes = s.passes ∧ (s.postTripped t heat).energizing = s.energizing ∧
      (s.postTripped t heat).waiting = s.waiting ∧ (s.postTripped t heat).arrivals = s.arrivals ∧
      (s.postTripped t heat).admissions = s.admissions ∧ (s.postTripped t heat).runs = s.runs ∧
      (s.postTripped t heat).drivers = s.drivers ∧ (s.postTripped t heat).sense = s.sense ∧
      (s.postTripped t heat).lines = s.lines ∧ (s.postTripped t heat).ports = s.ports ∧
      (s.postTripped t heat).config = s.config := by
  simp [State.postTripped]

@[simp] theorem State.trip_frame (s : State) (t : Trunk) :
    (s.trip t).pending = s.pending ∧ (s.trip t).inReset = s.inReset ∧ (s.trip t).accounts = s.accounts ∧
      (s.trip t).channels = s.channels ∧ (s.trip t).portView = s.portView ∧ (s.trip t).heldBack = s.heldBack ∧
      (s.trip t).queues = s.queues ∧ (s.trip t).passes = s.passes ∧ (s.trip t).energizing = s.energizing ∧
      (s.trip t).waiting = s.waiting ∧ (s.trip t).arrivals = s.arrivals ∧ (s.trip t).admissions = s.admissions ∧
      (s.trip t).runs = s.runs ∧ (s.trip t).sense = s.sense ∧ (s.trip t).lines = s.lines ∧
      (s.trip t).ports = s.ports ∧ (s.trip t).config = s.config := by
  simp only [State.trip]
  (repeat' split) <;> simp <;> and_intros
  all_goals first
    | exact foldl_frame State.pending (by simp) (by simp)
    | exact foldl_frame State.inReset (by simp) (by simp)
    | exact foldl_frame State.accounts (by simp) (by simp)
    | exact foldl_frame State.channels (by simp) (by simp)
    | exact foldl_frame State.portView (by simp) (by simp)
    | exact foldl_frame State.heldBack (by simp) (by simp)
    | exact foldl_frame State.queues (by simp) (by simp)
    | exact foldl_frame State.passes (by simp) (by simp)
    | exact foldl_frame State.energizing (by simp) (by simp)
    | exact foldl_frame State.waiting (by simp) (by simp)
    | exact foldl_frame State.arrivals (by simp) (by simp)
    | exact foldl_frame State.admissions (by simp) (by simp)
    | exact foldl_frame State.runs (by simp) (by simp)
    | exact foldl_frame State.sense (by simp) (by simp)
    | exact foldl_frame State.lines (by simp) (by simp)
    | exact foldl_frame State.ports (by simp) (by simp)
    | exact foldl_frame State.config (by simp) (by simp)

@[simp] theorem State.enterState_frame (s : State) (t : Trunk) (st : TrunkState) :
    (s.enterState t st).pending = s.pending ∧ (s.enterState t st).inReset = s.inReset ∧
      (s.enterState t st).accounts = s.accounts ∧ (s.enterState t st).channels = s.channels ∧
      (s.enterState t st).portView = s.portView ∧ (s.enterState t st).heldBack = s.heldBack ∧
      (s.enterState t st).queues = s.queues ∧ (s.enterState t st).passes = s.passes ∧
      (s.enterState t st).energizing = s.energizing ∧ (s.enterState t st).waiting = s.waiting ∧
      (s.enterState t st).arrivals = s.arrivals ∧ (s.enterState t st).admissions = s.admissions ∧
      (s.enterState t st).runs = s.runs ∧ (s.enterState t st).sense = s.sense ∧
      (s.enterState t st).lines = s.lines ∧ (s.enterState t st).ports = s.ports ∧
      (s.enterState t st).config = s.config := by
  simp only [State.enterState]
  (repeat' split) <;> simp

@[simp] theorem State.overdrawRaise_frame (s : State) (t : Trunk) (c : Channel) (sample : Nat) :
    (s.overdrawRaise t c sample).pending = s.pending ∧ (s.overdrawRaise t c sample).inReset = s.inReset ∧
      (s.overdrawRaise t c sample).channels = s.channels ∧ (s.overdrawRaise t c sample).portView = s.portView ∧
      (s.overdrawRaise t c sample).heldBack = s.heldBack ∧ (s.overdrawRaise t c sample).queues = s.queues ∧
      (s.overdrawRaise t c sample).passes = s.passes ∧ (s.overdrawRaise t c sample).energizing = s.energizing ∧
      (s.overdrawRaise t c sample).waiting = s.waiting ∧ (s.overdrawRaise t c sample).arrivals = s.arrivals ∧
      (s.overdrawRaise t c sample).admissions = s.admissions ∧ (s.overdrawRaise t c sample).runs = s.runs ∧
      (s.overdrawRaise t c sample).drivers = s.drivers ∧ (s.overdrawRaise t c sample).sense = s.sense ∧
      (s.overdrawRaise t c sample).lines = s.lines ∧ (s.overdrawRaise t c sample).ports = s.ports ∧
      (s.overdrawRaise t c sample).config = s.config := by
  simp [State.overdrawRaise]

@[simp] theorem State.overdrawCheck_frame (s : State) (t : Trunk) (margin : Nat) (c : Channel) :
    (s.overdrawCheck t margin c).pending = s.pending ∧ (s.overdrawCheck t margin c).inReset = s.inReset ∧
      (s.overdrawCheck t margin c).channels = s.channels ∧ (s.overdrawCheck t margin c).portView = s.portView ∧
      (s.overdrawCheck t margin c).heldBack = s.heldBack ∧ (s.overdrawCheck t margin c).queues = s.queues ∧
      (s.overdrawCheck t margin c).passes = s.passes ∧ (s.overdrawCheck t margin c).energizing = s.energizing ∧
      (s.overdrawCheck t margin c).waiting = s.waiting ∧ (s.overdrawCheck t margin c).arrivals = s.arrivals ∧
      (s.overdrawCheck t margin c).admissions = s.admissions ∧ (s.overdrawCheck t margin c).runs = s.runs ∧
      (s.overdrawCheck t margin c).drivers = s.drivers ∧ (s.overdrawCheck t margin c).sense = s.sense ∧
      (s.overdrawCheck t margin c).lines = s.lines ∧ (s.overdrawCheck t margin c).ports = s.ports ∧
      (s.overdrawCheck t margin c).config = s.config := by
  simp only [State.overdrawCheck]
  (repeat' split) <;> simp

@[simp] theorem State.heatStep_frame (s : State) (t : Trunk) :
    (s.heatStep t).pending = s.pending ∧ (s.heatStep t).inFlight = s.inFlight ∧
      (s.heatStep t).inReset = s.inReset ∧ (s.heatStep t).accounts = s.accounts ∧
      (s.heatStep t).channels = s.channels ∧ (s.heatStep t).portView = s.portView ∧
      (s.heatStep t).heldBack = s.heldBack ∧ (s.heatStep t).queues = s.queues ∧ (s.heatStep t).passes = s.passes ∧
      (s.heatStep t).energizing = s.energizing ∧ (s.heatStep t).waiting = s.waiting ∧
      (s.heatStep t).arrivals = s.arrivals ∧ (s.heatStep t).admissions = s.admissions ∧
      (s.heatStep t).runs = s.runs ∧ (s.heatStep t).drivers = s.drivers ∧ (s.heatStep t).sense = s.sense ∧
      (s.heatStep t).lines = s.lines ∧ (s.heatStep t).ports = s.ports ∧ (s.heatStep t).config = s.config := by
  simp [State.heatStep]

@[simp] theorem State.budgetExpiry_frame (s : State) (t : Trunk) :
    (s.budgetExpiry t).pending = s.pending ∧ (s.budgetExpiry t).inReset = s.inReset ∧
      (s.budgetExpiry t).channels = s.channels ∧ (s.budgetExpiry t).portView = s.portView ∧
      (s.budgetExpiry t).heldBack = s.heldBack ∧ (s.budgetExpiry t).queues = s.queues ∧
      (s.budgetExpiry t).passes = s.passes ∧ (s.budgetExpiry t).energizing = s.energizing ∧
      (s.budgetExpiry t).waiting = s.waiting ∧ (s.budgetExpiry t).arrivals = s.arrivals ∧
      (s.budgetExpiry t).admissions = s.admissions ∧ (s.budgetExpiry t).runs = s.runs ∧
      (s.budgetExpiry t).sense = s.sense ∧ (s.budgetExpiry t).lines = s.lines ∧
      (s.budgetExpiry t).ports = s.ports ∧ (s.budgetExpiry t).config = s.config := by
  simp only [State.budgetExpiry]
  (repeat' split) <;> and_intros
  all_goals first
    | exact foldl_frame State.pending (by simp) (by simp)
    | exact foldl_frame State.inReset (by simp) (by simp)
    | exact foldl_frame State.channels (by simp) (by simp)
    | exact foldl_frame State.portView (by simp) (by simp)
    | exact foldl_frame State.heldBack (by simp) (by simp)
    | exact foldl_frame State.queues (by simp) (by simp)
    | exact foldl_frame State.passes (by simp) (by simp)
    | exact foldl_frame State.energizing (by simp) (by simp)
    | exact foldl_frame State.waiting (by simp) (by simp)
    | exact foldl_frame State.arrivals (by simp) (by simp)
    | exact foldl_frame State.admissions (by simp) (by simp)
    | exact foldl_frame State.runs (by simp) (by simp)
    | exact foldl_frame State.sense (by simp) (by simp)
    | exact foldl_frame State.lines (by simp) (by simp)
    | exact foldl_frame State.ports (by simp) (by simp)
    | exact foldl_frame State.config (by simp) (by simp)
    | simp

@[simp] theorem State.shedExpiry_frame (s : State) (t : Trunk) :
    (s.shedExpiry t).pending = s.pending ∧ (s.shedExpiry t).inReset = s.inReset ∧
      (s.shedExpiry t).accounts = s.accounts ∧ (s.shedExpiry t).channels = s.channels ∧
      (s.shedExpiry t).portView = s.portView ∧ (s.shedExpiry t).heldBack = s.heldBack ∧
      (s.shedExpiry t).queues = s.queues ∧ (s.shedExpiry t).passes = s.passes ∧
      (s.shedExpiry t).energizing = s.energizing ∧ (s.shedExpiry t).waiting = s.waiting ∧
      (s.shedExpiry t).arrivals = s.arrivals ∧ (s.shedExpiry t).admissions = s.admissions ∧
      (s.shedExpiry t).runs = s.runs ∧ (s.shedExpiry t).drivers = s.drivers ∧ (s.shedExpiry t).sense = s.sense ∧
      (s.shedExpiry t).lines = s.lines ∧ (s.shedExpiry t).ports = s.ports ∧ (s.shedExpiry t).config = s.config := by
  simp only [State.shedExpiry]
  (repeat' split) <;> simp

@[simp] theorem State.takeShedAnswer_frame (s : State) (t : Trunk) (c : Channel) (taken : Bool) :
    (s.takeShedAnswer t c taken).pending = s.pending ∧ (s.takeShedAnswer t c taken).inReset = s.inReset ∧
      (s.takeShedAnswer t c taken).accounts = s.accounts ∧ (s.takeShedAnswer t c taken).channels = s.channels ∧
      (s.takeShedAnswer t c taken).portView = s.portView ∧ (s.takeShedAnswer t c taken).heldBack = s.heldBack ∧
      (s.takeShedAnswer t c taken).queues = s.queues ∧ (s.takeShedAnswer t c taken).passes = s.passes ∧
      (s.takeShedAnswer t c taken).energizing = s.energizing ∧ (s.takeShedAnswer t c taken).waiting = s.waiting ∧
      (s.takeShedAnswer t c taken).arrivals = s.arrivals ∧
      (s.takeShedAnswer t c taken).admissions = s.admissions ∧ (s.takeShedAnswer t c taken).runs = s.runs ∧
      (s.takeShedAnswer t c taken).drivers = s.drivers ∧ (s.takeShedAnswer t c taken).sense = s.sense ∧
      (s.takeShedAnswer t c taken).lines = s.lines ∧ (s.takeShedAnswer t c taken).ports = s.ports ∧
      (s.takeShedAnswer t c taken).config = s.config := by
  simp only [State.takeShedAnswer]
  (repeat' split) <;> simp

@[simp] theorem State.takeTripAnswer_frame (s : State) (t : Trunk) (c : Channel) (heat : Nat) (confirmation taken : Bool) :
    (s.takeTripAnswer t c heat confirmation taken).pending = s.pending ∧
      (s.takeTripAnswer t c heat confirmation taken).inReset = s.inReset ∧
      (s.takeTripAnswer t c heat confirmation taken).accounts = s.accounts ∧
      (s.takeTripAnswer t c heat confirmation taken).channels = s.channels ∧
      (s.takeTripAnswer t c heat confirmation taken).portView = s.portView ∧
      (s.takeTripAnswer t c heat confirmation taken).heldBack = s.heldBack ∧
      (s.takeTripAnswer t c heat confirmation taken).queues = s.queues ∧
      (s.takeTripAnswer t c heat confirmation taken).passes = s.passes ∧
      (s.takeTripAnswer t c heat confirmation taken).energizing = s.energizing ∧
      (s.takeTripAnswer t c heat confirmation taken).waiting = s.waiting ∧
      (s.takeTripAnswer t c heat confirmation taken).arrivals = s.arrivals ∧
      (s.takeTripAnswer t c heat confirmation taken).admissions = s.admissions ∧
      (s.takeTripAnswer t c heat confirmation taken).runs = s.runs ∧
      (s.takeTripAnswer t c heat confirmation taken).drivers = s.drivers ∧
      (s.takeTripAnswer t c heat confirmation taken).sense = s.sense ∧
      (s.takeTripAnswer t c heat confirmation taken).lines = s.lines ∧
      (s.takeTripAnswer t c heat confirmation taken).ports = s.ports ∧
      (s.takeTripAnswer t c heat confirmation taken).config = s.config := by
  simp only [State.takeTripAnswer]
  (repeat' split) <;> simp

@[simp] theorem State.takeAdmission_frame (s : State) (pass : Bool) (t : Trunk) (c : Channel) (need : Nat) (staged : Bool) :
    (s.takeAdmission pass t c need staged).pending = s.pending ∧
      (s.takeAdmission pass t c need staged).inReset = s.inReset ∧
      (s.takeAdmission pass t c need staged).channels = s.channels ∧
      (s.takeAdmission pass t c need staged).portView = s.portView ∧
      (s.takeAdmission pass t c need staged).heldBack = s.heldBack ∧
      (s.takeAdmission pass t c need staged).queues = s.queues ∧
      (s.takeAdmission pass t c need staged).passes = s.passes ∧
      (s.takeAdmission pass t c need staged).energizing = s.energizing ∧
      (s.takeAdmission pass t c need staged).waiting = s.waiting ∧
      (s.takeAdmission pass t c need staged).arrivals = s.arrivals ∧
      (s.takeAdmission pass t c need staged).admissions = s.admissions ∧
      (s.takeAdmission pass t c need staged).runs = s.runs ∧
      (s.takeAdmission pass t c need staged).drivers = s.drivers ∧
      (s.takeAdmission pass t c need staged).sense = s.sense ∧
      (s.takeAdmission pass t c need staged).lines = s.lines ∧
      (s.takeAdmission pass t c need staged).ports = s.ports ∧
      (s.takeAdmission pass t c need staged).config = s.config := by
  simp only [State.takeAdmission]
  (repeat' split) <;> simp

@[simp] theorem State.takeRestated_frame (s : State) (c : Channel) (old new : Nat) :
    (s.takeRestated c old new).pending = s.pending ∧ (s.takeRestated c old new).inReset = s.inReset ∧
      (s.takeRestated c old new).channels = s.channels ∧ (s.takeRestated c old new).portView = s.portView ∧
      (s.takeRestated c old new).heldBack = s.heldBack ∧ (s.takeRestated c old new).queues = s.queues ∧
      (s.takeRestated c old new).passes = s.passes ∧ (s.takeRestated c old new).energizing = s.energizing ∧
      (s.takeRestated c old new).waiting = s.waiting ∧ (s.takeRestated c old new).arrivals = s.arrivals ∧
      (s.takeRestated c old new).admissions = s.admissions ∧ (s.takeRestated c old new).runs = s.runs ∧
      (s.takeRestated c old new).drivers = s.drivers ∧ (s.takeRestated c old new).sense = s.sense ∧
      (s.takeRestated c old new).lines = s.lines ∧ (s.takeRestated c old new).ports = s.ports ∧
      (s.takeRestated c old new).config = s.config := by
  simp only [State.takeRestated]
  (repeat' split) <;> simp

@[simp] theorem State.takeConfirmation_frame (s : State) (t : Trunk) (c : Channel) :
    (s.takeConfirmation t c).pending = s.pending ∧ (s.takeConfirmation t c).inReset = s.inReset ∧
      (s.takeConfirmation t c).trunks = s.trunks ∧ (s.takeConfirmation t c).accounts = s.accounts ∧
      (s.takeConfirmation t c).channels = s.channels ∧ (s.takeConfirmation t c).portView = s.portView ∧
      (s.takeConfirmation t c).heldBack = s.heldBack ∧ (s.takeConfirmation t c).queues = s.queues ∧
      (s.takeConfirmation t c).passes = s.passes ∧ (s.takeConfirmation t c).energizing = s.energizing ∧
      (s.takeConfirmation t c).waiting = s.waiting ∧ (s.takeConfirmation t c).arrivals = s.arrivals ∧
      (s.takeConfirmation t c).admissions = s.admissions ∧ (s.takeConfirmation t c).runs = s.runs ∧
      (s.takeConfirmation t c).drivers = s.drivers ∧ (s.takeConfirmation t c).sense = s.sense ∧
      (s.takeConfirmation t c).lines = s.lines ∧ (s.takeConfirmation t c).ports = s.ports ∧
      (s.takeConfirmation t c).config = s.config := by
  simp only [State.takeConfirmation]
  (repeat' split) <;> simp

@[simp] theorem State.derive_frame (s : State) (t : Trunk) :
    (s.derive t).pending = s.pending ∧ (s.derive t).inReset = s.inReset ∧ (s.derive t).accounts = s.accounts ∧
      (s.derive t).channels = s.channels ∧ (s.derive t).portView = s.portView ∧
      (s.derive t).heldBack = s.heldBack ∧ (s.derive t).queues = s.queues ∧ (s.derive t).passes = s.passes ∧
      (s.derive t).energizing = s.energizing ∧ (s.derive t).waiting = s.waiting ∧
      (s.derive t).arrivals = s.arrivals ∧ (s.derive t).admissions = s.admissions ∧ (s.derive t).runs = s.runs ∧
      (s.derive t).sense = s.sense ∧ (s.derive t).lines = s.lines ∧ (s.derive t).ports = s.ports ∧
      (s.derive t).config = s.config := by
  simp only [State.derive]
  (repeat' split) <;> simp

@[simp] theorem State.takeTrunkProfile_frame (s : State) (o : Origin) (t : Trunk) (new : TrunkProfile) :
    (s.takeTrunkProfile o t new).pending = s.pending ∧ (s.takeTrunkProfile o t new).inReset = s.inReset ∧
      (s.takeTrunkProfile o t new).accounts = s.accounts ∧ (s.takeTrunkProfile o t new).channels = s.channels ∧
      (s.takeTrunkProfile o t new).portView = s.portView ∧ (s.takeTrunkProfile o t new).heldBack = s.heldBack ∧
      (s.takeTrunkProfile o t new).queues = s.queues ∧ (s.takeTrunkProfile o t new).passes = s.passes ∧
      (s.takeTrunkProfile o t new).energizing = s.energizing ∧ (s.takeTrunkProfile o t new).waiting = s.waiting ∧
      (s.takeTrunkProfile o t new).arrivals = s.arrivals ∧
      (s.takeTrunkProfile o t new).admissions = s.admissions ∧ (s.takeTrunkProfile o t new).runs = s.runs ∧
      (s.takeTrunkProfile o t new).sense = s.sense ∧ (s.takeTrunkProfile o t new).lines = s.lines ∧
      (s.takeTrunkProfile o t new).ports = s.ports ∧ (s.takeTrunkProfile o t new).config = s.config := by
  simp only [State.takeTrunkProfile]
  (repeat' split) <;> simp

@[simp] theorem State.takeTrunkClear_frame (s : State) (p : Port) (trunk : Byte) :
    (s.takeTrunkClear p trunk).pending = s.pending ∧ (s.takeTrunkClear p trunk).inReset = s.inReset ∧
      (s.takeTrunkClear p trunk).accounts = s.accounts ∧ (s.takeTrunkClear p trunk).channels = s.channels ∧
      (s.takeTrunkClear p trunk).portView = s.portView ∧ (s.takeTrunkClear p trunk).heldBack = s.heldBack ∧
      (s.takeTrunkClear p trunk).queues = s.queues ∧ (s.takeTrunkClear p trunk).passes = s.passes ∧
      (s.takeTrunkClear p trunk).energizing = s.energizing ∧ (s.takeTrunkClear p trunk).waiting = s.waiting ∧
      (s.takeTrunkClear p trunk).arrivals = s.arrivals ∧ (s.takeTrunkClear p trunk).admissions = s.admissions ∧
      (s.takeTrunkClear p trunk).runs = s.runs ∧ (s.takeTrunkClear p trunk).drivers = s.drivers ∧
      (s.takeTrunkClear p trunk).sense = s.sense ∧ (s.takeTrunkClear p trunk).lines = s.lines ∧
      (s.takeTrunkClear p trunk).ports = s.ports ∧ (s.takeTrunkClear p trunk).config = s.config := by
  simp only [State.takeTrunkClear]
  (repeat' split) <;> simp

@[simp] theorem State.takeReadTrunk_frame (s : State) (p : Port) (trunk : Byte) :
    (s.takeReadTrunk p trunk).pending = s.pending ∧ (s.takeReadTrunk p trunk).inReset = s.inReset ∧
      (s.takeReadTrunk p trunk).trunks = s.trunks ∧ (s.takeReadTrunk p trunk).accounts = s.accounts ∧
      (s.takeReadTrunk p trunk).channels = s.channels ∧ (s.takeReadTrunk p trunk).portView = s.portView ∧
      (s.takeReadTrunk p trunk).heldBack = s.heldBack ∧ (s.takeReadTrunk p trunk).queues = s.queues ∧
      (s.takeReadTrunk p trunk).passes = s.passes ∧ (s.takeReadTrunk p trunk).energizing = s.energizing ∧
      (s.takeReadTrunk p trunk).waiting = s.waiting ∧ (s.takeReadTrunk p trunk).arrivals = s.arrivals ∧
      (s.takeReadTrunk p trunk).admissions = s.admissions ∧ (s.takeReadTrunk p trunk).runs = s.runs ∧
      (s.takeReadTrunk p trunk).drivers = s.drivers ∧ (s.takeReadTrunk p trunk).sense = s.sense ∧
      (s.takeReadTrunk p trunk).lines = s.lines ∧ (s.takeReadTrunk p trunk).ports = s.ports ∧
      (s.takeReadTrunk p trunk).config = s.config := by
  simp only [State.takeReadTrunk]
  (repeat' split) <;> simp

end Sys2Proof.Machine
end

