-- ==== Sys2Proof/Laws/FramesLineUnit.lean ====
section
/-! SUPPORT. Frames: for each operation of the Line Unit, the fields of the state that it leaves as they stand. -/

namespace Sys2Proof.Machine

@[simp] theorem State.sendLineClaim_frame (s : State) (l : Line) :
    (s.sendLineClaim l).pending = s.pending ∧ (s.sendLineClaim l).inReset = s.inReset ∧
      (s.sendLineClaim l).trunks = s.trunks ∧ (s.sendLineClaim l).accounts = s.accounts ∧
      (s.sendLineClaim l).channels = s.channels ∧ (s.sendLineClaim l).portView = s.portView ∧
      (s.sendLineClaim l).heldBack = s.heldBack ∧ (s.sendLineClaim l).queues = s.queues ∧
      (s.sendLineClaim l).passes = s.passes ∧ (s.sendLineClaim l).energizing = s.energizing ∧
      (s.sendLineClaim l).waiting = s.waiting ∧ (s.sendLineClaim l).arrivals = s.arrivals ∧
      (s.sendLineClaim l).admissions = s.admissions ∧ (s.sendLineClaim l).runs = s.runs ∧
      (s.sendLineClaim l).drivers = s.drivers ∧ (s.sendLineClaim l).sense = s.sense ∧
      (s.sendLineClaim l).ports = s.ports ∧ (s.sendLineClaim l).config = s.config := by
  simp only [State.sendLineClaim]
  (repeat' split) <;> simp

@[simp] theorem State.sendLineRelease_frame (s : State) (l : Line) :
    (s.sendLineRelease l).pending = s.pending ∧ (s.sendLineRelease l).inReset = s.inReset ∧
      (s.sendLineRelease l).trunks = s.trunks ∧ (s.sendLineRelease l).accounts = s.accounts ∧
      (s.sendLineRelease l).channels = s.channels ∧ (s.sendLineRelease l).portView = s.portView ∧
      (s.sendLineRelease l).heldBack = s.heldBack ∧ (s.sendLineRelease l).queues = s.queues ∧
      (s.sendLineRelease l).passes = s.passes ∧ (s.sendLineRelease l).energizing = s.energizing ∧
      (s.sendLineRelease l).waiting = s.waiting ∧ (s.sendLineRelease l).arrivals = s.arrivals ∧
      (s.sendLineRelease l).admissions = s.admissions ∧ (s.sendLineRelease l).runs = s.runs ∧
      (s.sendLineRelease l).drivers = s.drivers ∧ (s.sendLineRelease l).sense = s.sense ∧
      (s.sendLineRelease l).ports = s.ports ∧ (s.sendLineRelease l).config = s.config := by
  simp only [State.sendLineRelease]
  (repeat' split) <;> simp

@[simp] theorem State.assistRise_frame (s : State) (l : Line) :
    (s.assistRise l).pending = s.pending ∧ (s.assistRise l).inReset = s.inReset ∧
      (s.assistRise l).trunks = s.trunks ∧ (s.assistRise l).accounts = s.accounts ∧
      (s.assistRise l).channels = s.channels ∧ (s.assistRise l).portView = s.portView ∧
      (s.assistRise l).heldBack = s.heldBack ∧ (s.assistRise l).queues = s.queues ∧
      (s.assistRise l).passes = s.passes ∧ (s.assistRise l).energizing = s.energizing ∧
      (s.assistRise l).waiting = s.waiting ∧ (s.assistRise l).arrivals = s.arrivals ∧
      (s.assistRise l).admissions = s.admissions ∧ (s.assistRise l).runs = s.runs ∧
      (s.assistRise l).drivers = s.drivers ∧ (s.assistRise l).sense = s.sense ∧ (s.assistRise l).ports = s.ports ∧
      (s.assistRise l).config = s.config := by
  simp only [State.assistRise]
  (repeat' split) <;> simp

@[simp] theorem State.assistFall_frame (s : State) (l : Line) :
    (s.assistFall l).pending = s.pending ∧ (s.assistFall l).inReset = s.inReset ∧
      (s.assistFall l).trunks = s.trunks ∧ (s.assistFall l).accounts = s.accounts ∧
      (s.assistFall l).channels = s.channels ∧ (s.assistFall l).portView = s.portView ∧
      (s.assistFall l).heldBack = s.heldBack ∧ (s.assistFall l).queues = s.queues ∧
      (s.assistFall l).passes = s.passes ∧ (s.assistFall l).energizing = s.energizing ∧
      (s.assistFall l).waiting = s.waiting ∧ (s.assistFall l).arrivals = s.arrivals ∧
      (s.assistFall l).admissions = s.admissions ∧ (s.assistFall l).runs = s.runs ∧
      (s.assistFall l).drivers = s.drivers ∧ (s.assistFall l).sense = s.sense ∧ (s.assistFall l).ports = s.ports ∧
      (s.assistFall l).config = s.config := by
  simp only [State.assistFall]
  (repeat' split) <;> simp

@[simp] theorem State.resumeUnlessVetoed_frame (s : State) (l : Line) (c : Channel) :
    (s.resumeUnlessVetoed l c).pending = s.pending ∧ (s.resumeUnlessVetoed l c).inReset = s.inReset ∧
      (s.resumeUnlessVetoed l c).trunks = s.trunks ∧ (s.resumeUnlessVetoed l c).accounts = s.accounts ∧
      (s.resumeUnlessVetoed l c).channels = s.channels ∧ (s.resumeUnlessVetoed l c).portView = s.portView ∧
      (s.resumeUnlessVetoed l c).heldBack = s.heldBack ∧ (s.resumeUnlessVetoed l c).queues = s.queues ∧
      (s.resumeUnlessVetoed l c).passes = s.passes ∧ (s.resumeUnlessVetoed l c).energizing = s.energizing ∧
      (s.resumeUnlessVetoed l c).waiting = s.waiting ∧ (s.resumeUnlessVetoed l c).arrivals = s.arrivals ∧
      (s.resumeUnlessVetoed l c).admissions = s.admissions ∧ (s.resumeUnlessVetoed l c).runs = s.runs ∧
      (s.resumeUnlessVetoed l c).drivers = s.drivers ∧ (s.resumeUnlessVetoed l c).sense = s.sense ∧
      (s.resumeUnlessVetoed l c).lines = s.lines ∧ (s.resumeUnlessVetoed l c).ports = s.ports ∧
      (s.resumeUnlessVetoed l c).config = s.config := by
  simp only [State.resumeUnlessVetoed]
  (repeat' split) <;> simp

@[simp] theorem State.lineRise_frame (s : State) (l : Line) :
    (s.lineRise l).pending = s.pending ∧ (s.lineRise l).inReset = s.inReset ∧ (s.lineRise l).trunks = s.trunks ∧
      (s.lineRise l).accounts = s.accounts ∧ (s.lineRise l).channels = s.channels ∧
      (s.lineRise l).portView = s.portView ∧ (s.lineRise l).heldBack = s.heldBack ∧
      (s.lineRise l).queues = s.queues ∧ (s.lineRise l).passes = s.passes ∧
      (s.lineRise l).energizing = s.energizing ∧ (s.lineRise l).waiting = s.waiting ∧
      (s.lineRise l).arrivals = s.arrivals ∧ (s.lineRise l).admissions = s.admissions ∧
      (s.lineRise l).runs = s.runs ∧ (s.lineRise l).drivers = s.drivers ∧ (s.lineRise l).sense = s.sense ∧
      (s.lineRise l).ports = s.ports ∧ (s.lineRise l).config = s.config := by
  simp only [State.lineRise]
  (repeat' split) <;> simp

@[simp] theorem State.lineFall_frame (s : State) (l : Line) :
    (s.lineFall l).pending = s.pending ∧ (s.lineFall l).inReset = s.inReset ∧ (s.lineFall l).trunks = s.trunks ∧
      (s.lineFall l).accounts = s.accounts ∧ (s.lineFall l).channels = s.channels ∧
      (s.lineFall l).portView = s.portView ∧ (s.lineFall l).heldBack = s.heldBack ∧
      (s.lineFall l).queues = s.queues ∧ (s.lineFall l).passes = s.passes ∧
      (s.lineFall l).energizing = s.energizing ∧ (s.lineFall l).waiting = s.waiting ∧
      (s.lineFall l).arrivals = s.arrivals ∧ (s.lineFall l).admissions = s.admissions ∧
      (s.lineFall l).runs = s.runs ∧ (s.lineFall l).drivers = s.drivers ∧ (s.lineFall l).sense = s.sense ∧
      (s.lineFall l).ports = s.ports ∧ (s.lineFall l).config = s.config := by
  simp only [State.lineFall]
  (repeat' split) <;> simp

@[simp] theorem State.debounced_frame (s : State) (l : Line) :
    (s.debounced l).pending = s.pending ∧ (s.debounced l).inReset = s.inReset ∧
      (s.debounced l).trunks = s.trunks ∧ (s.debounced l).accounts = s.accounts ∧
      (s.debounced l).channels = s.channels ∧ (s.debounced l).portView = s.portView ∧
      (s.debounced l).heldBack = s.heldBack ∧ (s.debounced l).queues = s.queues ∧
      (s.debounced l).passes = s.passes ∧ (s.debounced l).energizing = s.energizing ∧
      (s.debounced l).waiting = s.waiting ∧ (s.debounced l).arrivals = s.arrivals ∧
      (s.debounced l).admissions = s.admissions ∧ (s.debounced l).runs = s.runs ∧
      (s.debounced l).drivers = s.drivers ∧ (s.debounced l).sense = s.sense ∧ (s.debounced l).ports = s.ports ∧
      (s.debounced l).config = s.config := by
  simp only [State.debounced]
  (repeat' split) <;> simp

@[simp] theorem State.takeLineAnswer_frame (s : State) (l : Line) (kind : LineClaimKind) (taken : Bool) :
    (s.takeLineAnswer l kind taken).pending = s.pending ∧ (s.takeLineAnswer l kind taken).inReset = s.inReset ∧
      (s.takeLineAnswer l kind taken).trunks = s.trunks ∧ (s.takeLineAnswer l kind taken).accounts = s.accounts ∧
      (s.takeLineAnswer l kind taken).channels = s.channels ∧
      (s.takeLineAnswer l kind taken).portView = s.portView ∧
      (s.takeLineAnswer l kind taken).heldBack = s.heldBack ∧ (s.takeLineAnswer l kind taken).queues = s.queues ∧
      (s.takeLineAnswer l kind taken).passes = s.passes ∧
      (s.takeLineAnswer l kind taken).energizing = s.energizing ∧
      (s.takeLineAnswer l kind taken).waiting = s.waiting ∧
      (s.takeLineAnswer l kind taken).arrivals = s.arrivals ∧
      (s.takeLineAnswer l kind taken).admissions = s.admissions ∧ (s.takeLineAnswer l kind taken).runs = s.runs ∧
      (s.takeLineAnswer l kind taken).drivers = s.drivers ∧ (s.takeLineAnswer l kind taken).sense = s.sense ∧
      (s.takeLineAnswer l kind taken).ports = s.ports ∧ (s.takeLineAnswer l kind taken).config = s.config := by
  simp only [State.takeLineAnswer]
  (repeat' split) <;> simp

@[simp] theorem State.takeLineResponse_frame (s : State) (c : Channel) (resumed : Bool) (status : Status) (st : ChanState) :
    (s.takeLineResponse c resumed status st).pending = s.pending ∧
      (s.takeLineResponse c resumed status st).inReset = s.inReset ∧
      (s.takeLineResponse c resumed status st).trunks = s.trunks ∧
      (s.takeLineResponse c resumed status st).accounts = s.accounts ∧
      (s.takeLineResponse c resumed status st).channels = s.channels ∧
      (s.takeLineResponse c resumed status st).portView = s.portView ∧
      (s.takeLineResponse c resumed status st).heldBack = s.heldBack ∧
      (s.takeLineResponse c resumed status st).queues = s.queues ∧
      (s.takeLineResponse c resumed status st).passes = s.passes ∧
      (s.takeLineResponse c resumed status st).energizing = s.energizing ∧
      (s.takeLineResponse c resumed status st).waiting = s.waiting ∧
      (s.takeLineResponse c resumed status st).arrivals = s.arrivals ∧
      (s.takeLineResponse c resumed status st).admissions = s.admissions ∧
      (s.takeLineResponse c resumed status st).runs = s.runs ∧
      (s.takeLineResponse c resumed status st).drivers = s.drivers ∧
      (s.takeLineResponse c resumed status st).sense = s.sense ∧
      (s.takeLineResponse c resumed status st).lines = s.lines ∧
      (s.takeLineResponse c resumed status st).ports = s.ports ∧
      (s.takeLineResponse c resumed status st).config = s.config := by
  simp only [State.takeLineResponse]
  (repeat' split) <;> simp

@[simp] theorem State.takeFreeReport_frame (s : State) (c : Channel) :
    (s.takeFreeReport c).pending = s.pending ∧ (s.takeFreeReport c).inReset = s.inReset ∧
      (s.takeFreeReport c).trunks = s.trunks ∧ (s.takeFreeReport c).accounts = s.accounts ∧
      (s.takeFreeReport c).channels = s.channels ∧ (s.takeFreeReport c).portView = s.portView ∧
      (s.takeFreeReport c).heldBack = s.heldBack ∧ (s.takeFreeReport c).queues = s.queues ∧
      (s.takeFreeReport c).passes = s.passes ∧ (s.takeFreeReport c).energizing = s.energizing ∧
      (s.takeFreeReport c).waiting = s.waiting ∧ (s.takeFreeReport c).arrivals = s.arrivals ∧
      (s.takeFreeReport c).admissions = s.admissions ∧ (s.takeFreeReport c).runs = s.runs ∧
      (s.takeFreeReport c).drivers = s.drivers ∧ (s.takeFreeReport c).sense = s.sense ∧
      (s.takeFreeReport c).ports = s.ports ∧ (s.takeFreeReport c).config = s.config := by
  simp only [State.takeFreeReport]
  and_intros
  · exact foldl_frame State.pending (by simp) (by simp)
  · exact foldl_frame State.inReset (by simp) (by simp)
  · exact foldl_frame State.trunks (by simp) (by simp)
  · exact foldl_frame State.accounts (by simp) (by simp)
  · exact foldl_frame State.channels (by simp) (by simp)
  · exact foldl_frame State.portView (by simp) (by simp)
  · exact foldl_frame State.heldBack (by simp) (by simp)
  · exact foldl_frame State.queues (by simp) (by simp)
  · exact foldl_frame State.passes (by simp) (by simp)
  · exact foldl_frame State.energizing (by simp) (by simp)
  · exact foldl_frame State.waiting (by simp) (by simp)
  · exact foldl_frame State.arrivals (by simp) (by simp)
  · exact foldl_frame State.admissions (by simp) (by simp)
  · exact foldl_frame State.runs (by simp) (by simp)
  · exact foldl_frame State.drivers (by simp) (by simp)
  · exact foldl_frame State.sense (by simp) (by simp)
  · exact foldl_frame State.ports (by simp) (by simp)
  · exact foldl_frame State.config (by simp) (by simp)

@[simp] theorem State.takeLeaseEnded_frame (s : State) (l : Line) :
    (s.takeLeaseEnded l).pending = s.pending ∧ (s.takeLeaseEnded l).inFlight = s.inFlight ∧
      (s.takeLeaseEnded l).inReset = s.inReset ∧ (s.takeLeaseEnded l).trunks = s.trunks ∧
      (s.takeLeaseEnded l).accounts = s.accounts ∧ (s.takeLeaseEnded l).channels = s.channels ∧
      (s.takeLeaseEnded l).portView = s.portView ∧ (s.takeLeaseEnded l).heldBack = s.heldBack ∧
      (s.takeLeaseEnded l).queues = s.queues ∧ (s.takeLeaseEnded l).passes = s.passes ∧
      (s.takeLeaseEnded l).energizing = s.energizing ∧ (s.takeLeaseEnded l).waiting = s.waiting ∧
      (s.takeLeaseEnded l).arrivals = s.arrivals ∧ (s.takeLeaseEnded l).admissions = s.admissions ∧
      (s.takeLeaseEnded l).runs = s.runs ∧ (s.takeLeaseEnded l).drivers = s.drivers ∧
      (s.takeLeaseEnded l).sense = s.sense ∧ (s.takeLeaseEnded l).ports = s.ports ∧
      (s.takeLeaseEnded l).config = s.config := by
  simp only [State.takeLeaseEnded]
  (repeat' split) <;> simp

@[simp] theorem State.unbindLine_frame (s : State) (l : Line) (old : Binding) :
    (s.unbindLine l old).pending = s.pending ∧ (s.unbindLine l old).inReset = s.inReset ∧
      (s.unbindLine l old).trunks = s.trunks ∧ (s.unbindLine l old).accounts = s.accounts ∧
      (s.unbindLine l old).channels = s.channels ∧ (s.unbindLine l old).portView = s.portView ∧
      (s.unbindLine l old).heldBack = s.heldBack ∧ (s.unbindLine l old).queues = s.queues ∧
      (s.unbindLine l old).passes = s.passes ∧ (s.unbindLine l old).energizing = s.energizing ∧
      (s.unbindLine l old).waiting = s.waiting ∧ (s.unbindLine l old).arrivals = s.arrivals ∧
      (s.unbindLine l old).admissions = s.admissions ∧ (s.unbindLine l old).runs = s.runs ∧
      (s.unbindLine l old).drivers = s.drivers ∧ (s.unbindLine l old).sense = s.sense ∧
      (s.unbindLine l old).lines = s.lines ∧ (s.unbindLine l old).ports = s.ports ∧
      (s.unbindLine l old).config = s.config := by
  simp only [State.unbindLine]
  (repeat' split) <;> simp

@[simp] theorem State.bindLine_frame (s : State) (l : Line) (new : Binding) :
    (s.bindLine l new).pending = s.pending ∧ (s.bindLine l new).inReset = s.inReset ∧
      (s.bindLine l new).trunks = s.trunks ∧ (s.bindLine l new).accounts = s.accounts ∧
      (s.bindLine l new).channels = s.channels ∧ (s.bindLine l new).portView = s.portView ∧
      (s.bindLine l new).heldBack = s.heldBack ∧ (s.bindLine l new).queues = s.queues ∧
      (s.bindLine l new).passes = s.passes ∧ (s.bindLine l new).energizing = s.energizing ∧
      (s.bindLine l new).waiting = s.waiting ∧ (s.bindLine l new).arrivals = s.arrivals ∧
      (s.bindLine l new).admissions = s.admissions ∧ (s.bindLine l new).runs = s.runs ∧
      (s.bindLine l new).drivers = s.drivers ∧ (s.bindLine l new).sense = s.sense ∧
      (s.bindLine l new).ports = s.ports ∧ (s.bindLine l new).config = s.config := by
  simp only [State.bindLine]
  (repeat' split) <;> simp

@[simp] theorem State.answerBinding_frame (s : State) (o : Origin) (taken : Bool) :
    (s.answerBinding o taken).pending = s.pending ∧ (s.answerBinding o taken).inReset = s.inReset ∧
      (s.answerBinding o taken).trunks = s.trunks ∧ (s.answerBinding o taken).accounts = s.accounts ∧
      (s.answerBinding o taken).channels = s.channels ∧ (s.answerBinding o taken).portView = s.portView ∧
      (s.answerBinding o taken).heldBack = s.heldBack ∧ (s.answerBinding o taken).queues = s.queues ∧
      (s.answerBinding o taken).passes = s.passes ∧ (s.answerBinding o taken).energizing = s.energizing ∧
      (s.answerBinding o taken).waiting = s.waiting ∧ (s.answerBinding o taken).arrivals = s.arrivals ∧
      (s.answerBinding o taken).admissions = s.admissions ∧ (s.answerBinding o taken).runs = s.runs ∧
      (s.answerBinding o taken).drivers = s.drivers ∧ (s.answerBinding o taken).sense = s.sense ∧
      (s.answerBinding o taken).lines = s.lines ∧ (s.answerBinding o taken).ports = s.ports ∧
      (s.answerBinding o taken).config = s.config := by
  simp only [State.answerBinding]
  (repeat' split) <;> simp

@[simp] theorem State.takeBinding_frame (s : State) (o : Origin) (l : Line) (new : Binding) :
    (s.takeBinding o l new).pending = s.pending ∧ (s.takeBinding o l new).inReset = s.inReset ∧
      (s.takeBinding o l new).trunks = s.trunks ∧ (s.takeBinding o l new).accounts = s.accounts ∧
      (s.takeBinding o l new).channels = s.channels ∧ (s.takeBinding o l new).portView = s.portView ∧
      (s.takeBinding o l new).heldBack = s.heldBack ∧ (s.takeBinding o l new).queues = s.queues ∧
      (s.takeBinding o l new).passes = s.passes ∧ (s.takeBinding o l new).energizing = s.energizing ∧
      (s.takeBinding o l new).waiting = s.waiting ∧ (s.takeBinding o l new).arrivals = s.arrivals ∧
      (s.takeBinding o l new).admissions = s.admissions ∧ (s.takeBinding o l new).runs = s.runs ∧
      (s.takeBinding o l new).drivers = s.drivers ∧ (s.takeBinding o l new).sense = s.sense ∧
      (s.takeBinding o l new).ports = s.ports ∧ (s.takeBinding o l new).config = s.config := by
  simp only [State.takeBinding]
  (repeat' split) <;> simp

@[simp] theorem State.takeServicePhase_frame (s : State) :
    (s.takeServicePhase).pending = s.pending ∧ (s.takeServicePhase).inReset = s.inReset ∧
      (s.takeServicePhase).trunks = s.trunks ∧ (s.takeServicePhase).accounts = s.accounts ∧
      (s.takeServicePhase).channels = s.channels ∧ (s.takeServicePhase).portView = s.portView ∧
      (s.takeServicePhase).heldBack = s.heldBack ∧ (s.takeServicePhase).queues = s.queues ∧
      (s.takeServicePhase).passes = s.passes ∧ (s.takeServicePhase).energizing = s.energizing ∧
      (s.takeServicePhase).waiting = s.waiting ∧ (s.takeServicePhase).arrivals = s.arrivals ∧
      (s.takeServicePhase).admissions = s.admissions ∧ (s.takeServicePhase).runs = s.runs ∧
      (s.takeServicePhase).drivers = s.drivers ∧ (s.takeServicePhase).sense = s.sense ∧
      (s.takeServicePhase).ports = s.ports ∧ (s.takeServicePhase).config = s.config := by
  simp only [State.takeServicePhase]
  and_intros
  · exact foldl_frame State.pending (by simp) (by simp)
  · exact foldl_frame State.inReset (by simp) (by simp)
  · exact foldl_frame State.trunks (by simp) (by simp)
  · exact foldl_frame State.accounts (by simp) (by simp)
  · exact foldl_frame State.channels (by simp) (by simp)
  · exact foldl_frame State.portView (by simp) (by simp)
  · exact foldl_frame State.heldBack (by simp) (by simp)
  · exact foldl_frame State.queues (by simp) (by simp)
  · exact foldl_frame State.passes (by simp) (by simp)
  · exact foldl_frame State.energizing (by simp) (by simp)
  · exact foldl_frame State.waiting (by simp) (by simp)
  · exact foldl_frame State.arrivals (by simp) (by simp)
  · exact foldl_frame State.admissions (by simp) (by simp)
  · exact foldl_frame State.runs (by simp) (by simp)
  · exact foldl_frame State.drivers (by simp) (by simp)
  · exact foldl_frame State.sense (by simp) (by simp)
  · exact foldl_frame State.ports (by simp) (by simp)
  · exact foldl_frame State.config (by simp) (by simp)

end Sys2Proof.Machine
end

