-- ==== Sys2Proof/Laws/FramesConfiguration.lean ====
section
/-! SUPPORT. Frames: for each operation of the Configuration Unit, the fields of the state that it leaves as they stand. -/

namespace Sys2Proof.Machine

@[simp] theorem State.postOthers_frame (s : State) (proposer : Port) (n : Notice) :
    (s.postOthers proposer n).pending = s.pending ∧ (s.postOthers proposer n).inReset = s.inReset ∧
      (s.postOthers proposer n).trunks = s.trunks ∧ (s.postOthers proposer n).accounts = s.accounts ∧
      (s.postOthers proposer n).channels = s.channels ∧ (s.postOthers proposer n).portView = s.portView ∧
      (s.postOthers proposer n).heldBack = s.heldBack ∧ (s.postOthers proposer n).queues = s.queues ∧
      (s.postOthers proposer n).passes = s.passes ∧ (s.postOthers proposer n).energizing = s.energizing ∧
      (s.postOthers proposer n).waiting = s.waiting ∧ (s.postOthers proposer n).arrivals = s.arrivals ∧
      (s.postOthers proposer n).admissions = s.admissions ∧ (s.postOthers proposer n).runs = s.runs ∧
      (s.postOthers proposer n).drivers = s.drivers ∧ (s.postOthers proposer n).sense = s.sense ∧
      (s.postOthers proposer n).lines = s.lines ∧ (s.postOthers proposer n).ports = s.ports ∧
      (s.postOthers proposer n).config = s.config := by
  simp only [State.postOthers]
  and_intros
  · exact foldl_frame State.pending (by simp) (by simp)
  · exact foldl_frame State.inReset (by simp) (by simp)
  · exact foldl_frame State.trunks (by simp) (by simp)
  · exact foldl_frame State.accounts (by simp) (by simp)
  · exact foldl_frame State.channels (by simp) (by simp)
  · exact foldl_frame State.portView (by simp) (by simp)
  · exact foldl_frame State.heldBack (by simp) (by simp)
  · exact foldl_frame State.queues (by simp) (by simp)
  · exact foldl_frame State.passes (by simp) (by simp)
  · exact foldl_frame State.energizing (by simp) (by simp)
  · exact foldl_frame State.waiting (by simp) (by simp)
  · exact foldl_frame State.arrivals (by simp) (by simp)
  · exact foldl_frame State.admissions (by simp) (by simp)
  · exact foldl_frame State.runs (by simp) (by simp)
  · exact foldl_frame State.drivers (by simp) (by simp)
  · exact foldl_frame State.sense (by simp) (by simp)
  · exact foldl_frame State.lines (by simp) (by simp)
  · exact foldl_frame State.ports (by simp) (by simp)
  · exact foldl_frame State.config (by simp) (by simp)

@[simp] theorem State.postProposer_frame (s : State) (proposer : Port) (n : Notice) :
    (s.postProposer proposer n).pending = s.pending ∧ (s.postProposer proposer n).inReset = s.inReset ∧
      (s.postProposer proposer n).trunks = s.trunks ∧ (s.postProposer proposer n).accounts = s.accounts ∧
      (s.postProposer proposer n).channels = s.channels ∧ (s.postProposer proposer n).portView = s.portView ∧
      (s.postProposer proposer n).heldBack = s.heldBack ∧ (s.postProposer proposer n).queues = s.queues ∧
      (s.postProposer proposer n).passes = s.passes ∧ (s.postProposer proposer n).energizing = s.energizing ∧
      (s.postProposer proposer n).waiting = s.waiting ∧ (s.postProposer proposer n).arrivals = s.arrivals ∧
      (s.postProposer proposer n).admissions = s.admissions ∧ (s.postProposer proposer n).runs = s.runs ∧
      (s.postProposer proposer n).drivers = s.drivers ∧ (s.postProposer proposer n).sense = s.sense ∧
      (s.postProposer proposer n).lines = s.lines ∧ (s.postProposer proposer n).ports = s.ports ∧
      (s.postProposer proposer n).config = s.config := by
  simp only [State.postProposer]
  (repeat' split) <;> simp

@[simp] theorem State.setSlot_frame (s : State) (x : Option Proposal) :
    (s.setSlot x).pending = s.pending ∧ (s.setSlot x).inFlight = s.inFlight ∧ (s.setSlot x).inReset = s.inReset ∧
      (s.setSlot x).trunks = s.trunks ∧ (s.setSlot x).accounts = s.accounts ∧
      (s.setSlot x).channels = s.channels ∧ (s.setSlot x).portView = s.portView ∧
      (s.setSlot x).heldBack = s.heldBack ∧ (s.setSlot x).queues = s.queues ∧ (s.setSlot x).passes = s.passes ∧
      (s.setSlot x).energizing = s.energizing ∧ (s.setSlot x).waiting = s.waiting ∧
      (s.setSlot x).arrivals = s.arrivals ∧ (s.setSlot x).admissions = s.admissions ∧
      (s.setSlot x).runs = s.runs ∧ (s.setSlot x).drivers = s.drivers ∧ (s.setSlot x).sense = s.sense ∧
      (s.setSlot x).lines = s.lines ∧ (s.setSlot x).ports = s.ports := by
  simp [State.setSlot]

@[simp] theorem State.withdrawSlot_frame (s : State) (x : Proposal) (cause : WithdrawCause) :
    (s.withdrawSlot x cause).pending = s.pending ∧ (s.withdrawSlot x cause).inReset = s.inReset ∧
      (s.withdrawSlot x cause).trunks = s.trunks ∧ (s.withdrawSlot x cause).accounts = s.accounts ∧
      (s.withdrawSlot x cause).channels = s.channels ∧ (s.withdrawSlot x cause).portView = s.portView ∧
      (s.withdrawSlot x cause).heldBack = s.heldBack ∧ (s.withdrawSlot x cause).queues = s.queues ∧
      (s.withdrawSlot x cause).passes = s.passes ∧ (s.withdrawSlot x cause).energizing = s.energizing ∧
      (s.withdrawSlot x cause).waiting = s.waiting ∧ (s.withdrawSlot x cause).arrivals = s.arrivals ∧
      (s.withdrawSlot x cause).admissions = s.admissions ∧ (s.withdrawSlot x cause).runs = s.runs ∧
      (s.withdrawSlot x cause).drivers = s.drivers ∧ (s.withdrawSlot x cause).sense = s.sense ∧
      (s.withdrawSlot x cause).lines = s.lines ∧ (s.withdrawSlot x cause).ports = s.ports := by
  simp [State.withdrawSlot]

@[simp] theorem State.takeSessionReport_frame (s : State) (p : Port) (change : SessionChange) :
    (s.takeSessionReport p change).pending = s.pending ∧ (s.takeSessionReport p change).inReset = s.inReset ∧
      (s.takeSessionReport p change).trunks = s.trunks ∧ (s.takeSessionReport p change).accounts = s.accounts ∧
      (s.takeSessionReport p change).channels = s.channels ∧
      (s.takeSessionReport p change).portView = s.portView ∧
      (s.takeSessionReport p change).heldBack = s.heldBack ∧ (s.takeSessionReport p change).queues = s.queues ∧
      (s.takeSessionReport p change).passes = s.passes ∧
      (s.takeSessionReport p change).energizing = s.energizing ∧
      (s.takeSessionReport p change).waiting = s.waiting ∧ (s.takeSessionReport p change).arrivals = s.arrivals ∧
      (s.takeSessionReport p change).admissions = s.admissions ∧ (s.takeSessionReport p change).runs = s.runs ∧
      (s.takeSessionReport p change).drivers = s.drivers ∧ (s.takeSessionReport p change).sense = s.sense ∧
      (s.takeSessionReport p change).lines = s.lines ∧ (s.takeSessionReport p change).ports = s.ports := by
  simp only [State.takeSessionReport]
  (repeat' split) <;> simp

@[simp] theorem State.drainReports_frame (s : State) (p : Port) :
    (s.drainReports p).pending = s.pending ∧ (s.drainReports p).inReset = s.inReset ∧
      (s.drainReports p).trunks = s.trunks ∧ (s.drainReports p).accounts = s.accounts ∧
      (s.drainReports p).channels = s.channels ∧ (s.drainReports p).portView = s.portView ∧
      (s.drainReports p).heldBack = s.heldBack ∧ (s.drainReports p).queues = s.queues ∧
      (s.drainReports p).passes = s.passes ∧ (s.drainReports p).energizing = s.energizing ∧
      (s.drainReports p).waiting = s.waiting ∧ (s.drainReports p).arrivals = s.arrivals ∧
      (s.drainReports p).admissions = s.admissions ∧ (s.drainReports p).runs = s.runs ∧
      (s.drainReports p).drivers = s.drivers ∧ (s.drainReports p).sense = s.sense ∧
      (s.drainReports p).lines = s.lines ∧ (s.drainReports p).ports = s.ports := by
  simp only [State.drainReports]
  and_intros
  · exact foldl_frame State.pending (by simp) (by simp)
  · exact foldl_frame State.inReset (by simp) (by simp)
  · exact foldl_frame State.trunks (by simp) (by simp)
  · exact foldl_frame State.accounts (by simp) (by simp)
  · exact foldl_frame State.channels (by simp) (by simp)
  · exact foldl_frame State.portView (by simp) (by simp)
  · exact foldl_frame State.heldBack (by simp) (by simp)
  · exact foldl_frame State.queues (by simp) (by simp)
  · exact foldl_frame State.passes (by simp) (by simp)
  · exact foldl_frame State.energizing (by simp) (by simp)
  · exact foldl_frame State.waiting (by simp) (by simp)
  · exact foldl_frame State.arrivals (by simp) (by simp)
  · exact foldl_frame State.admissions (by simp) (by simp)
  · exact foldl_frame State.runs (by simp) (by simp)
  · exact foldl_frame State.drivers (by simp) (by simp)
  · exact foldl_frame State.sense (by simp) (by simp)
  · exact foldl_frame State.lines (by simp) (by simp)
  · exact foldl_frame State.ports (by simp) (by simp)

@[simp] theorem State.takeTrunkWrite_frame (s : State) (p : Port) (b : TrunkBlock) :
    (s.takeTrunkWrite p b).pending = s.pending ∧ (s.takeTrunkWrite p b).inReset = s.inReset ∧
      (s.takeTrunkWrite p b).trunks = s.trunks ∧ (s.takeTrunkWrite p b).accounts = s.accounts ∧
      (s.takeTrunkWrite p b).channels = s.channels ∧ (s.takeTrunkWrite p b).portView = s.portView ∧
      (s.takeTrunkWrite p b).heldBack = s.heldBack ∧ (s.takeTrunkWrite p b).queues = s.queues ∧
      (s.takeTrunkWrite p b).passes = s.passes ∧ (s.takeTrunkWrite p b).energizing = s.energizing ∧
      (s.takeTrunkWrite p b).waiting = s.waiting ∧ (s.takeTrunkWrite p b).arrivals = s.arrivals ∧
      (s.takeTrunkWrite p b).admissions = s.admissions ∧ (s.takeTrunkWrite p b).runs = s.runs ∧
      (s.takeTrunkWrite p b).drivers = s.drivers ∧ (s.takeTrunkWrite p b).sense = s.sense ∧
      (s.takeTrunkWrite p b).lines = s.lines ∧ (s.takeTrunkWrite p b).ports = s.ports := by
  simp only [State.takeTrunkWrite, State.directWrite]
  (repeat' split) <;> simp

@[simp] theorem State.takeChannelWrite_frame (s : State) (p : Port) (b : ChannelBlock) :
    (s.takeChannelWrite p b).pending = s.pending ∧ (s.takeChannelWrite p b).inReset = s.inReset ∧
      (s.takeChannelWrite p b).trunks = s.trunks ∧ (s.takeChannelWrite p b).accounts = s.accounts ∧
      (s.takeChannelWrite p b).channels = s.channels ∧ (s.takeChannelWrite p b).portView = s.portView ∧
      (s.takeChannelWrite p b).heldBack = s.heldBack ∧ (s.takeChannelWrite p b).queues = s.queues ∧
      (s.takeChannelWrite p b).passes = s.passes ∧ (s.takeChannelWrite p b).energizing = s.energizing ∧
      (s.takeChannelWrite p b).waiting = s.waiting ∧ (s.takeChannelWrite p b).arrivals = s.arrivals ∧
      (s.takeChannelWrite p b).admissions = s.admissions ∧ (s.takeChannelWrite p b).runs = s.runs ∧
      (s.takeChannelWrite p b).drivers = s.drivers ∧ (s.takeChannelWrite p b).sense = s.sense ∧
      (s.takeChannelWrite p b).lines = s.lines ∧ (s.takeChannelWrite p b).ports = s.ports := by
  simp only [State.takeChannelWrite, State.directWrite]
  (repeat' split) <;> simp

@[simp] theorem State.takeBindingWrite_frame (s : State) (p : Port) (b : LineBlock) :
    (s.takeBindingWrite p b).pending = s.pending ∧ (s.takeBindingWrite p b).inReset = s.inReset ∧
      (s.takeBindingWrite p b).trunks = s.trunks ∧ (s.takeBindingWrite p b).accounts = s.accounts ∧
      (s.takeBindingWrite p b).channels = s.channels ∧ (s.takeBindingWrite p b).portView = s.portView ∧
      (s.takeBindingWrite p b).heldBack = s.heldBack ∧ (s.takeBindingWrite p b).queues = s.queues ∧
      (s.takeBindingWrite p b).passes = s.passes ∧ (s.takeBindingWrite p b).energizing = s.energizing ∧
      (s.takeBindingWrite p b).waiting = s.waiting ∧ (s.takeBindingWrite p b).arrivals = s.arrivals ∧
      (s.takeBindingWrite p b).admissions = s.admissions ∧ (s.takeBindingWrite p b).runs = s.runs ∧
      (s.takeBindingWrite p b).drivers = s.drivers ∧ (s.takeBindingWrite p b).sense = s.sense ∧
      (s.takeBindingWrite p b).lines = s.lines ∧ (s.takeBindingWrite p b).ports = s.ports := by
  simp only [State.takeBindingWrite, State.directWrite]
  (repeat' split) <;> simp

@[simp] theorem State.writeTake_frame (i : Instr) (s : State) :
    (writeTake i s).pending = s.pending ∧ (writeTake i s).inReset = s.inReset ∧
      (writeTake i s).accounts = s.accounts ∧ (writeTake i s).portView = s.portView ∧
      (writeTake i s).queues = s.queues ∧ (writeTake i s).energizing = s.energizing ∧
      (writeTake i s).waiting = s.waiting ∧ (writeTake i s).arrivals = s.arrivals ∧
      (writeTake i s).admissions = s.admissions ∧ (writeTake i s).sense = s.sense ∧
      (writeTake i s).ports = s.ports := by
  cases i <;> simp [writeTake, State.atLeaseManager]
  all_goals (repeat' split) <;> simp

@[simp] theorem State.carryOutWrites_frame (s : State) :
    (s.carryOutWrites).pending = s.pending ∧ (s.carryOutWrites).inReset = s.inReset ∧
      (s.carryOutWrites).accounts = s.accounts ∧ (s.carryOutWrites).portView = s.portView ∧
      (s.carryOutWrites).queues = s.queues ∧ (s.carryOutWrites).energizing = s.energizing ∧
      (s.carryOutWrites).waiting = s.waiting ∧ (s.carryOutWrites).arrivals = s.arrivals ∧
      (s.carryOutWrites).admissions = s.admissions ∧ (s.carryOutWrites).sense = s.sense ∧
      (s.carryOutWrites).ports = s.ports := by
  simp only [State.carryOutWrites]
  and_intros
  · exact foldl_frame State.pending (by simp) (by simp)
  · exact foldl_frame State.inReset (by simp) (by simp)
  · exact foldl_frame State.accounts (by simp) (by simp)
  · exact foldl_frame State.portView (by simp) (by simp)
  · exact foldl_frame State.queues (by simp) (by simp)
  · exact foldl_frame State.energizing (by simp) (by simp)
  · exact foldl_frame State.waiting (by simp) (by simp)
  · exact foldl_frame State.arrivals (by simp) (by simp)
  · exact foldl_frame State.admissions (by simp) (by simp)
  · exact foldl_frame State.sense (by simp) (by simp)
  · exact foldl_frame State.ports (by simp) (by simp)

@[simp] theorem State.closePhase_frame (s : State) (p : Port) :
    (s.closePhase p).pending = s.pending ∧ (s.closePhase p).inReset = s.inReset ∧
      (s.closePhase p).trunks = s.trunks ∧ (s.closePhase p).accounts = s.accounts ∧
      (s.closePhase p).channels = s.channels ∧ (s.closePhase p).portView = s.portView ∧
      (s.closePhase p).heldBack = s.heldBack ∧ (s.closePhase p).queues = s.queues ∧
      (s.closePhase p).passes = s.passes ∧ (s.closePhase p).energizing = s.energizing ∧
      (s.closePhase p).waiting = s.waiting ∧ (s.closePhase p).arrivals = s.arrivals ∧
      (s.closePhase p).admissions = s.admissions ∧ (s.closePhase p).runs = s.runs ∧
      (s.closePhase p).drivers = s.drivers ∧ (s.closePhase p).sense = s.sense ∧ (s.closePhase p).lines = s.lines ∧
      (s.closePhase p).ports = s.ports := by
  simp only [State.closePhase]
  (repeat' split) <;> simp

@[simp] theorem State.takeCloseCommissioning_frame (s : State) (p : Port) :
    (s.takeCloseCommissioning p).pending = s.pending ∧ (s.takeCloseCommissioning p).inReset = s.inReset ∧
      (s.takeCloseCommissioning p).accounts = s.accounts ∧ (s.takeCloseCommissioning p).portView = s.portView ∧
      (s.takeCloseCommissioning p).queues = s.queues ∧ (s.takeCloseCommissioning p).energizing = s.energizing ∧
      (s.takeCloseCommissioning p).waiting = s.waiting ∧ (s.takeCloseCommissioning p).arrivals = s.arrivals ∧
      (s.takeCloseCommissioning p).admissions = s.admissions ∧ (s.takeCloseCommissioning p).sense = s.sense ∧
      (s.takeCloseCommissioning p).ports = s.ports := by
  simp only [State.takeCloseCommissioning]
  (repeat' split) <;> simp

@[simp] theorem State.takePropose_frame (s : State) (p : Port) (b : ProposeBlock) :
    (s.takePropose p b).pending = s.pending ∧ (s.takePropose p b).inReset = s.inReset ∧
      (s.takePropose p b).trunks = s.trunks ∧ (s.takePropose p b).accounts = s.accounts ∧
      (s.takePropose p b).channels = s.channels ∧ (s.takePropose p b).portView = s.portView ∧
      (s.takePropose p b).heldBack = s.heldBack ∧ (s.takePropose p b).queues = s.queues ∧
      (s.takePropose p b).passes = s.passes ∧ (s.takePropose p b).energizing = s.energizing ∧
      (s.takePropose p b).waiting = s.waiting ∧ (s.takePropose p b).arrivals = s.arrivals ∧
      (s.takePropose p b).admissions = s.admissions ∧ (s.takePropose p b).runs = s.runs ∧
      (s.takePropose p b).drivers = s.drivers ∧ (s.takePropose p b).sense = s.sense ∧
      (s.takePropose p b).lines = s.lines ∧ (s.takePropose p b).ports = s.ports := by
  simp only [State.takePropose]
  (repeat' split) <;> simp

@[simp] theorem State.applyRefused_frame (s : State) (x : Proposal) (q : Port) (cause : Status) :
    (s.applyRefused x q cause).pending = s.pending ∧ (s.applyRefused x q cause).inReset = s.inReset ∧
      (s.applyRefused x q cause).trunks = s.trunks ∧ (s.applyRefused x q cause).accounts = s.accounts ∧
      (s.applyRefused x q cause).channels = s.channels ∧ (s.applyRefused x q cause).portView = s.portView ∧
      (s.applyRefused x q cause).heldBack = s.heldBack ∧ (s.applyRefused x q cause).queues = s.queues ∧
      (s.applyRefused x q cause).passes = s.passes ∧ (s.applyRefused x q cause).energizing = s.energizing ∧
      (s.applyRefused x q cause).waiting = s.waiting ∧ (s.applyRefused x q cause).arrivals = s.arrivals ∧
      (s.applyRefused x q cause).admissions = s.admissions ∧ (s.applyRefused x q cause).runs = s.runs ∧
      (s.applyRefused x q cause).drivers = s.drivers ∧ (s.applyRefused x q cause).sense = s.sense ∧
      (s.applyRefused x q cause).lines = s.lines ∧ (s.applyRefused x q cause).ports = s.ports := by
  simp [State.applyRefused]

@[simp] theorem State.applyTaken_frame (s : State) (x : Proposal) (q : Port) :
    (s.applyTaken x q).pending = s.pending ∧ (s.applyTaken x q).inReset = s.inReset ∧
      (s.applyTaken x q).trunks = s.trunks ∧ (s.applyTaken x q).accounts = s.accounts ∧
      (s.applyTaken x q).channels = s.channels ∧ (s.applyTaken x q).portView = s.portView ∧
      (s.applyTaken x q).heldBack = s.heldBack ∧ (s.applyTaken x q).queues = s.queues ∧
      (s.applyTaken x q).passes = s.passes ∧ (s.applyTaken x q).energizing = s.energizing ∧
      (s.applyTaken x q).waiting = s.waiting ∧ (s.applyTaken x q).arrivals = s.arrivals ∧
      (s.applyTaken x q).admissions = s.admissions ∧ (s.applyTaken x q).runs = s.runs ∧
      (s.applyTaken x q).drivers = s.drivers ∧ (s.applyTaken x q).sense = s.sense ∧
      (s.applyTaken x q).lines = s.lines ∧ (s.applyTaken x q).ports = s.ports := by
  simp [State.applyTaken]

@[simp] theorem State.takeConcur_frame (s : State) (p : Port) (n : BitVec 16) :
    (s.takeConcur p n).pending = s.pending ∧ (s.takeConcur p n).inReset = s.inReset ∧
      (s.takeConcur p n).trunks = s.trunks ∧ (s.takeConcur p n).accounts = s.accounts ∧
      (s.takeConcur p n).channels = s.channels ∧ (s.takeConcur p n).portView = s.portView ∧
      (s.takeConcur p n).heldBack = s.heldBack ∧ (s.takeConcur p n).queues = s.queues ∧
      (s.takeConcur p n).passes = s.passes ∧ (s.takeConcur p n).energizing = s.energizing ∧
      (s.takeConcur p n).waiting = s.waiting ∧ (s.takeConcur p n).arrivals = s.arrivals ∧
      (s.takeConcur p n).admissions = s.admissions ∧ (s.takeConcur p n).runs = s.runs ∧
      (s.takeConcur p n).drivers = s.drivers ∧ (s.takeConcur p n).sense = s.sense ∧
      (s.takeConcur p n).lines = s.lines ∧ (s.takeConcur p n).ports = s.ports := by
  simp only [State.takeConcur, State.namedProposal]
  (repeat' split) <;> simp

@[simp] theorem State.takeWithdraw_frame (s : State) (p : Port) (n : BitVec 16) :
    (s.takeWithdraw p n).pending = s.pending ∧ (s.takeWithdraw p n).inReset = s.inReset ∧
      (s.takeWithdraw p n).trunks = s.trunks ∧ (s.takeWithdraw p n).accounts = s.accounts ∧
      (s.takeWithdraw p n).channels = s.channels ∧ (s.takeWithdraw p n).portView = s.portView ∧
      (s.takeWithdraw p n).heldBack = s.heldBack ∧ (s.takeWithdraw p n).queues = s.queues ∧
      (s.takeWithdraw p n).passes = s.passes ∧ (s.takeWithdraw p n).energizing = s.energizing ∧
      (s.takeWithdraw p n).waiting = s.waiting ∧ (s.takeWithdraw p n).arrivals = s.arrivals ∧
      (s.takeWithdraw p n).admissions = s.admissions ∧ (s.takeWithdraw p n).runs = s.runs ∧
      (s.takeWithdraw p n).drivers = s.drivers ∧ (s.takeWithdraw p n).sense = s.sense ∧
      (s.takeWithdraw p n).lines = s.lines ∧ (s.takeWithdraw p n).ports = s.ports := by
  simp only [State.takeWithdraw, State.namedProposal]
  (repeat' split) <;> simp

@[simp] theorem State.takeReadProposal_frame (s : State) (p : Port) :
    (s.takeReadProposal p).pending = s.pending ∧ (s.takeReadProposal p).inReset = s.inReset ∧
      (s.takeReadProposal p).trunks = s.trunks ∧ (s.takeReadProposal p).accounts = s.accounts ∧
      (s.takeReadProposal p).channels = s.channels ∧ (s.takeReadProposal p).portView = s.portView ∧
      (s.takeReadProposal p).heldBack = s.heldBack ∧ (s.takeReadProposal p).queues = s.queues ∧
      (s.takeReadProposal p).passes = s.passes ∧ (s.takeReadProposal p).energizing = s.energizing ∧
      (s.takeReadProposal p).waiting = s.waiting ∧ (s.takeReadProposal p).arrivals = s.arrivals ∧
      (s.takeReadProposal p).admissions = s.admissions ∧ (s.takeReadProposal p).runs = s.runs ∧
      (s.takeReadProposal p).drivers = s.drivers ∧ (s.takeReadProposal p).sense = s.sense ∧
      (s.takeReadProposal p).lines = s.lines ∧ (s.takeReadProposal p).ports = s.ports ∧
      (s.takeReadProposal p).config = s.config := by
  simp [State.takeReadProposal]

@[simp] theorem State.windowExpiry_frame (s : State) :
    (s.windowExpiry).pending = s.pending ∧ (s.windowExpiry).inReset = s.inReset ∧
      (s.windowExpiry).trunks = s.trunks ∧ (s.windowExpiry).accounts = s.accounts ∧
      (s.windowExpiry).channels = s.channels ∧ (s.windowExpiry).portView = s.portView ∧
      (s.windowExpiry).heldBack = s.heldBack ∧ (s.windowExpiry).queues = s.queues ∧
      (s.windowExpiry).passes = s.passes ∧ (s.windowExpiry).energizing = s.energizing ∧
      (s.windowExpiry).waiting = s.waiting ∧ (s.windowExpiry).arrivals = s.arrivals ∧
      (s.windowExpiry).admissions = s.admissions ∧ (s.windowExpiry).runs = s.runs ∧
      (s.windowExpiry).drivers = s.drivers ∧ (s.windowExpiry).sense = s.sense ∧ (s.windowExpiry).lines = s.lines ∧
      (s.windowExpiry).ports = s.ports := by
  simp only [State.windowExpiry]
  (repeat' split) <;> simp

@[simp] theorem State.takeApplyAnswer_frame (s : State) (taken : Bool) :
    (s.takeApplyAnswer taken).pending = s.pending ∧ (s.takeApplyAnswer taken).inReset = s.inReset ∧
      (s.takeApplyAnswer taken).trunks = s.trunks ∧ (s.takeApplyAnswer taken).accounts = s.accounts ∧
      (s.takeApplyAnswer taken).channels = s.channels ∧ (s.takeApplyAnswer taken).portView = s.portView ∧
      (s.takeApplyAnswer taken).heldBack = s.heldBack ∧ (s.takeApplyAnswer taken).queues = s.queues ∧
      (s.takeApplyAnswer taken).passes = s.passes ∧ (s.takeApplyAnswer taken).energizing = s.energizing ∧
      (s.takeApplyAnswer taken).waiting = s.waiting ∧ (s.takeApplyAnswer taken).arrivals = s.arrivals ∧
      (s.takeApplyAnswer taken).admissions = s.admissions ∧ (s.takeApplyAnswer taken).runs = s.runs ∧
      (s.takeApplyAnswer taken).drivers = s.drivers ∧ (s.takeApplyAnswer taken).sense = s.sense ∧
      (s.takeApplyAnswer taken).lines = s.lines ∧ (s.takeApplyAnswer taken).ports = s.ports := by
  simp only [State.takeApplyAnswer]
  (repeat' split) <;> simp

end Sys2Proof.Machine
end

