-- ==== Sys2Proof/Laws/FramesSense.lean ====
section
/-! SUPPORT. Frames: for each operation of the Sense Block and the Channel Drivers, the fields of the state that it leaves as they stand. -/

namespace Sys2Proof.Machine

@[simp] theorem State.takePulse_frame (s : State) (c : Channel) (onTime : Nat) :
    (s.takePulse c onTime).pending = s.pending ∧ (s.takePulse c onTime).inFlight = s.inFlight ∧
      (s.takePulse c onTime).inReset = s.inReset ∧ (s.takePulse c onTime).trunks = s.trunks ∧
      (s.takePulse c onTime).accounts = s.accounts ∧ (s.takePulse c onTime).channels = s.channels ∧
      (s.takePulse c onTime).portView = s.portView ∧ (s.takePulse c onTime).heldBack = s.heldBack ∧
      (s.takePulse c onTime).queues = s.queues ∧ (s.takePulse c onTime).passes = s.passes ∧
      (s.takePulse c onTime).energizing = s.energizing ∧ (s.takePulse c onTime).waiting = s.waiting ∧
      (s.takePulse c onTime).arrivals = s.arrivals ∧ (s.takePulse c onTime).admissions = s.admissions ∧
      (s.takePulse c onTime).runs = s.runs ∧ (s.takePulse c onTime).sense = s.sense ∧
      (s.takePulse c onTime).lines = s.lines ∧ (s.takePulse c onTime).ports = s.ports ∧
      (s.takePulse c onTime).config = s.config := by
  simp only [State.takePulse]
  (repeat' split) <;> simp

@[simp] theorem State.setOutputPin_frame (s : State) (c : Channel) (vo : Int) :
    (s.setOutputPin c vo).pending = s.pending ∧ (s.setOutputPin c vo).inFlight = s.inFlight ∧
      (s.setOutputPin c vo).inReset = s.inReset ∧ (s.setOutputPin c vo).trunks = s.trunks ∧
      (s.setOutputPin c vo).accounts = s.accounts ∧ (s.setOutputPin c vo).channels = s.channels ∧
      (s.setOutputPin c vo).portView = s.portView ∧ (s.setOutputPin c vo).heldBack = s.heldBack ∧
      (s.setOutputPin c vo).queues = s.queues ∧ (s.setOutputPin c vo).passes = s.passes ∧
      (s.setOutputPin c vo).energizing = s.energizing ∧ (s.setOutputPin c vo).waiting = s.waiting ∧
      (s.setOutputPin c vo).arrivals = s.arrivals ∧ (s.setOutputPin c vo).admissions = s.admissions ∧
      (s.setOutputPin c vo).runs = s.runs ∧ (s.setOutputPin c vo).drivers = s.drivers ∧
      (s.setOutputPin c vo).lines = s.lines ∧ (s.setOutputPin c vo).ports = s.ports ∧
      (s.setOutputPin c vo).config = s.config := by
  simp [State.setOutputPin]

@[simp] theorem State.sampleCurrents_frame (s : State) (sensed : Vector (List Int) 12) :
    (s.sampleCurrents sensed).pending = s.pending ∧ (s.sampleCurrents sensed).inFlight = s.inFlight ∧
      (s.sampleCurrents sensed).inReset = s.inReset ∧ (s.sampleCurrents sensed).trunks = s.trunks ∧
      (s.sampleCurrents sensed).accounts = s.accounts ∧ (s.sampleCurrents sensed).channels = s.channels ∧
      (s.sampleCurrents sensed).portView = s.portView ∧ (s.sampleCurrents sensed).heldBack = s.heldBack ∧
      (s.sampleCurrents sensed).queues = s.queues ∧ (s.sampleCurrents sensed).passes = s.passes ∧
      (s.sampleCurrents sensed).energizing = s.energizing ∧ (s.sampleCurrents sensed).waiting = s.waiting ∧
      (s.sampleCurrents sensed).arrivals = s.arrivals ∧ (s.sampleCurrents sensed).admissions = s.admissions ∧
      (s.sampleCurrents sensed).runs = s.runs ∧ (s.sampleCurrents sensed).drivers = s.drivers ∧
      (s.sampleCurrents sensed).lines = s.lines ∧ (s.sampleCurrents sensed).ports = s.ports ∧
      (s.sampleCurrents sensed).config = s.config := by
  simp [State.sampleCurrents]

@[simp] theorem State.sampleFeeds_frame (s : State) (vo : Vector Int 12) (vf : Vector Int 3) :
    (s.sampleFeeds vo vf).pending = s.pending ∧ (s.sampleFeeds vo vf).inFlight = s.inFlight ∧
      (s.sampleFeeds vo vf).inReset = s.inReset ∧ (s.sampleFeeds vo vf).trunks = s.trunks ∧
      (s.sampleFeeds vo vf).accounts = s.accounts ∧ (s.sampleFeeds vo vf).channels = s.channels ∧
      (s.sampleFeeds vo vf).portView = s.portView ∧ (s.sampleFeeds vo vf).heldBack = s.heldBack ∧
      (s.sampleFeeds vo vf).queues = s.queues ∧ (s.sampleFeeds vo vf).passes = s.passes ∧
      (s.sampleFeeds vo vf).energizing = s.energizing ∧ (s.sampleFeeds vo vf).waiting = s.waiting ∧
      (s.sampleFeeds vo vf).arrivals = s.arrivals ∧ (s.sampleFeeds vo vf).admissions = s.admissions ∧
      (s.sampleFeeds vo vf).runs = s.runs ∧ (s.sampleFeeds vo vf).drivers = s.drivers ∧
      (s.sampleFeeds vo vf).lines = s.lines ∧ (s.sampleFeeds vo vf).ports = s.ports ∧
      (s.sampleFeeds vo vf).config = s.config := by
  simp [State.sampleFeeds]

@[simp] theorem State.sampleOrDefer_frame (s : State) (c : Channel) :
    (s.sampleOrDefer c).pending = s.pending ∧ (s.sampleOrDefer c).inReset = s.inReset ∧
      (s.sampleOrDefer c).trunks = s.trunks ∧ (s.sampleOrDefer c).accounts = s.accounts ∧
      (s.sampleOrDefer c).channels = s.channels ∧ (s.sampleOrDefer c).portView = s.portView ∧
      (s.sampleOrDefer c).heldBack = s.heldBack ∧ (s.sampleOrDefer c).queues = s.queues ∧
      (s.sampleOrDefer c).passes = s.passes ∧ (s.sampleOrDefer c).energizing = s.energizing ∧
      (s.sampleOrDefer c).waiting = s.waiting ∧ (s.sampleOrDefer c).arrivals = s.arrivals ∧
      (s.sampleOrDefer c).admissions = s.admissions ∧ (s.sampleOrDefer c).runs = s.runs ∧
      (s.sampleOrDefer c).drivers = s.drivers ∧ (s.sampleOrDefer c).lines = s.lines ∧
      (s.sampleOrDefer c).ports = s.ports ∧ (s.sampleOrDefer c).config = s.config := by
  simp only [State.sampleOrDefer]
  (repeat' split) <;> simp

@[simp] theorem State.sampleAll_frame (s : State) (vo : Vector Int 12) (vf : Vector Int 3) :
    (s.sampleAll vo vf).pending = s.pending ∧ (s.sampleAll vo vf).inReset = s.inReset ∧
      (s.sampleAll vo vf).trunks = s.trunks ∧ (s.sampleAll vo vf).accounts = s.accounts ∧
      (s.sampleAll vo vf).channels = s.channels ∧ (s.sampleAll vo vf).portView = s.portView ∧
      (s.sampleAll vo vf).heldBack = s.heldBack ∧ (s.sampleAll vo vf).queues = s.queues ∧
      (s.sampleAll vo vf).passes = s.passes ∧ (s.sampleAll vo vf).energizing = s.energizing ∧
      (s.sampleAll vo vf).waiting = s.waiting ∧ (s.sampleAll vo vf).arrivals = s.arrivals ∧
      (s.sampleAll vo vf).admissions = s.admissions ∧ (s.sampleAll vo vf).runs = s.runs ∧
      (s.sampleAll vo vf).drivers = s.drivers ∧ (s.sampleAll vo vf).lines = s.lines ∧
      (s.sampleAll vo vf).ports = s.ports ∧ (s.sampleAll vo vf).config = s.config := by
  simp only [State.sampleAll]
  and_intros
  · exact foldl_frame State.pending (by simp) (by simp)
  · exact foldl_frame State.inReset (by simp) (by simp)
  · exact foldl_frame State.trunks (by simp) (by simp)
  · exact foldl_frame State.accounts (by simp) (by simp)
  · exact foldl_frame State.channels (by simp) (by simp)
  · exact foldl_frame State.portView (by simp) (by simp)
  · exact foldl_frame State.heldBack (by simp) (by simp)
  · exact foldl_frame State.queues (by simp) (by simp)
  · exact foldl_frame State.passes (by simp) (by simp)
  · exact foldl_frame State.energizing (by simp) (by simp)
  · exact foldl_frame State.waiting (by simp) (by simp)
  · exact foldl_frame State.arrivals (by simp) (by simp)
  · exact foldl_frame State.admissions (by simp) (by simp)
  · exact foldl_frame State.runs (by simp) (by simp)
  · exact foldl_frame State.drivers (by simp) (by simp)
  · exact foldl_frame State.lines (by simp) (by simp)
  · exact foldl_frame State.ports (by simp) (by simp)
  · exact foldl_frame State.config (by simp) (by simp)

@[simp] theorem State.detectShort_frame (s : State) (c : Channel) (current : Nat) :
    (s.detectShort c current).pending = s.pending ∧ (s.detectShort c current).inReset = s.inReset ∧
      (s.detectShort c current).trunks = s.trunks ∧ (s.detectShort c current).accounts = s.accounts ∧
      (s.detectShort c current).channels = s.channels ∧ (s.detectShort c current).portView = s.portView ∧
      (s.detectShort c current).heldBack = s.heldBack ∧ (s.detectShort c current).queues = s.queues ∧
      (s.detectShort c current).passes = s.passes ∧ (s.detectShort c current).energizing = s.energizing ∧
      (s.detectShort c current).waiting = s.waiting ∧ (s.detectShort c current).arrivals = s.arrivals ∧
      (s.detectShort c current).admissions = s.admissions ∧ (s.detectShort c current).runs = s.runs ∧
      (s.detectShort c current).sense = s.sense ∧ (s.detectShort c current).lines = s.lines ∧
      (s.detectShort c current).ports = s.ports ∧ (s.detectShort c current).config = s.config := by
  simp only [State.detectShort]
  (repeat' split) <;> simp

@[simp] theorem State.pulseEnd_frame (s : State) (c : Channel) (vo : Int) :
    (s.pulseEnd c vo).pending = s.pending ∧ (s.pulseEnd c vo).inReset = s.inReset ∧
      (s.pulseEnd c vo).trunks = s.trunks ∧ (s.pulseEnd c vo).accounts = s.accounts ∧
      (s.pulseEnd c vo).channels = s.channels ∧ (s.pulseEnd c vo).portView = s.portView ∧
      (s.pulseEnd c vo).heldBack = s.heldBack ∧ (s.pulseEnd c vo).queues = s.queues ∧
      (s.pulseEnd c vo).passes = s.passes ∧ (s.pulseEnd c vo).energizing = s.energizing ∧
      (s.pulseEnd c vo).waiting = s.waiting ∧ (s.pulseEnd c vo).arrivals = s.arrivals ∧
      (s.pulseEnd c vo).admissions = s.admissions ∧ (s.pulseEnd c vo).runs = s.runs ∧
      (s.pulseEnd c vo).lines = s.lines ∧ (s.pulseEnd c vo).ports = s.ports ∧
      (s.pulseEnd c vo).config = s.config := by
  simp only [State.pulseEnd]
  (repeat' split) <;> simp

end Sys2Proof.Machine
end

