-- ==== Sys2Proof/Laws/FramesWindows.lean ====
section
/-! SUPPORT. Frames: for each operation of a select window, the fields of the state that it leaves as they stand. -/

namespace Sys2Proof.Machine

@[simp] theorem State.ownerPart_frame (i : Instr) (s : State) :
    (ownerPart i s).pending = s.pending ∧ (ownerPart i s).inReset = s.inReset ∧
      (ownerPart i s).admissions = s.admissions ∧ (ownerPart i s).sense = s.sense := by
  cases i <;> simp [ownerPart, State.atLeaseManager] <;> split <;> simp

@[simp] theorem State.actOn_frame (s : State) (p : Port) (bytes : List Byte) :
    (s.actOn p bytes).pending = s.pending ∧ (s.actOn p bytes).inReset = s.inReset ∧
      (s.actOn p bytes).admissions = s.admissions ∧ (s.actOn p bytes).sense = s.sense := by
  simp only [State.actOn, State.accept, State.takeRequest]
  (repeat' split) <;> simp

@[simp] theorem State.rawWindow_frame (s : State) (p : Port) (bytes : List Byte) :
    (s.rawWindow p bytes).pending = s.pending ∧ (s.rawWindow p bytes).inReset = s.inReset ∧
      (s.rawWindow p bytes).admissions = s.admissions ∧ (s.rawWindow p bytes).sense = s.sense := by
  simp only [State.rawWindow, State.window]
  (repeat' split) <;> simp

end Sys2Proof.Machine
end

