-- ==== Sys2Proof/Laws/Messages.lean ====
section
/-! SUPPORT. What the sending and taking of messages leaves to be read: every record and every level reads as before. -/

namespace Sys2Proof.Machine

/-- `send` leaves every record to be read as before. -/
@[simp] theorem State.send_reads (s : State) (m : Instr) :
    (∀ x, (s.send m).trunk x = s.trunk x) ∧ (∀ x, (s.send m).acct x = s.acct x) ∧ (∀ x, (s.send m).chan x = s.chan x)
      ∧ (∀ x, (s.send m).viewOf x = s.viewOf x) ∧ (∀ x, (s.send m).queue x = s.queue x)
      ∧ (∀ x, (s.send m).pass x = s.pass x) ∧ (∀ x, (s.send m).inHand x = s.inHand x)
      ∧ (∀ x, (s.send m).run x = s.run x) ∧ (∀ x, (s.send m).driver x = s.driver x)
      ∧ (∀ x, (s.send m).line x = s.line x) ∧ (∀ x, (s.send m).port x = s.port x)
      ∧ (∀ x, (s.send m).profile x = s.profile x) ∧ (∀ x, (s.send m).holder x = s.holder x)
      ∧ (∀ x, (s.send m).holderPort x = s.holderPort x) ∧ (∀ x, (s.send m).declared x = s.declared x)
      ∧ (∀ x, (s.send m).need x = s.need x) ∧ (∀ x, (s.send m).staged x = s.staged x)
      ∧ (∀ x, (s.send m).withheld x = s.withheld x) ∧ (∀ x, (s.send m).commanded x = s.commanded x)
      ∧ (∀ x, (s.send m).tripHold x = s.tripHold x)
      ∧ (∀ x, (s.send m).drivenOn x = s.drivenOn x) ∧ (∀ x, (s.send m).trunkCurrent x = s.trunkCurrent x)
      ∧ (∀ x, (s.send m).runTrunk x = s.runTrunk x) ∧ (∀ q c, (s.send m).isHolder q c = s.isHolder q c)
      ∧ (∀ c q, (s.send m).permits c q = s.permits c q) ∧ (∀ t c, (s.send m).isHead t c = s.isHead t c) := by
  and_intros <;> intros <;> rfl

/-- `arrive` leaves every record to be read as before. -/
@[simp] theorem State.arrive_reads (s : State) (m : Instr) :
    (∀ x, (s.arrive m).trunk x = s.trunk x) ∧ (∀ x, (s.arrive m).acct x = s.acct x)
      ∧ (∀ x, (s.arrive m).chan x = s.chan x) ∧ (∀ x, (s.arrive m).viewOf x = s.viewOf x)
      ∧ (∀ x, (s.arrive m).queue x = s.queue x) ∧ (∀ x, (s.arrive m).pass x = s.pass x)
      ∧ (∀ x, (s.arrive m).inHand x = s.inHand x) ∧ (∀ x, (s.arrive m).run x = s.run x)
      ∧ (∀ x, (s.arrive m).driver x = s.driver x) ∧ (∀ x, (s.arrive m).line x = s.line x)
      ∧ (∀ x, (s.arrive m).port x = s.port x) ∧ (∀ x, (s.arrive m).profile x = s.profile x)
      ∧ (∀ x, (s.arrive m).holder x = s.holder x) ∧ (∀ x, (s.arrive m).holderPort x = s.holderPort x)
      ∧ (∀ x, (s.arrive m).declared x = s.declared x) ∧ (∀ x, (s.arrive m).need x = s.need x)
      ∧ (∀ x, (s.arrive m).staged x = s.staged x) ∧ (∀ x, (s.arrive m).withheld x = s.withheld x)
      ∧ (∀ x, (s.arrive m).commanded x = s.commanded x) ∧ (∀ x, (s.arrive m).tripHold x = s.tripHold x)
      ∧ (∀ x, (s.arrive m).drivenOn x = s.drivenOn x)
      ∧ (∀ x, (s.arrive m).trunkCurrent x = s.trunkCurrent x) ∧ (∀ x, (s.arrive m).runTrunk x = s.runTrunk x)
      ∧ (∀ q c, (s.arrive m).isHolder q c = s.isHolder q c) ∧ (∀ c q, (s.arrive m).permits c q = s.permits c q)
      ∧ (∀ t c, (s.arrive m).isHead t c = s.isHead t c) := by
  and_intros <;> intros <;> rfl

/-- `respond` leaves every record to be read as before. -/
@[simp] theorem State.respond_reads (s : State) (p : Port) (st : Status) (pl : List Byte) :
    (∀ x, (s.respond p st pl).trunk x = s.trunk x) ∧ (∀ x, (s.respond p st pl).acct x = s.acct x)
      ∧ (∀ x, (s.respond p st pl).chan x = s.chan x) ∧ (∀ x, (s.respond p st pl).viewOf x = s.viewOf x)
      ∧ (∀ x, (s.respond p st pl).queue x = s.queue x) ∧ (∀ x, (s.respond p st pl).pass x = s.pass x)
      ∧ (∀ x, (s.respond p st pl).inHand x = s.inHand x) ∧ (∀ x, (s.respond p st pl).run x = s.run x)
      ∧ (∀ x, (s.respond p st pl).driver x = s.driver x) ∧ (∀ x, (s.respond p st pl).line x = s.line x)
      ∧ (∀ x, (s.respond p st pl).port x = s.port x) ∧ (∀ x, (s.respond p st pl).profile x = s.profile x)
      ∧ (∀ x, (s.respond p st pl).holder x = s.holder x) ∧ (∀ x, (s.respond p st pl).holderPort x = s.holderPort x)
      ∧ (∀ x, (s.respond p st pl).declared x = s.declared x) ∧ (∀ x, (s.respond p st pl).need x = s.need x)
      ∧ (∀ x, (s.respond p st pl).staged x = s.staged x) ∧ (∀ x, (s.respond p st pl).withheld x = s.withheld x)
      ∧ (∀ x, (s.respond p st pl).commanded x = s.commanded x) ∧ (∀ x, (s.respond p st pl).tripHold x = s.tripHold x)
      ∧ (∀ x, (s.respond p st pl).drivenOn x = s.drivenOn x)
      ∧ (∀ x, (s.respond p st pl).trunkCurrent x = s.trunkCurrent x)
      ∧ (∀ x, (s.respond p st pl).runTrunk x = s.runTrunk x)
      ∧ (∀ q c, (s.respond p st pl).isHolder q c = s.isHolder q c)
      ∧ (∀ c q, (s.respond p st pl).permits c q = s.permits c q)
      ∧ (∀ t c, (s.respond p st pl).isHead t c = s.isHead t c) := by
  and_intros <;> intros <;> rfl

/-- `serviceEvent` leaves every record to be read as before. -/
@[simp] theorem State.serviceEvent_reads (s : State) (k : Trunk) :
    (∀ x, (s.serviceEvent k).trunk x = s.trunk x) ∧ (∀ x, (s.serviceEvent k).acct x = s.acct x)
      ∧ (∀ x, (s.serviceEvent k).chan x = s.chan x) ∧ (∀ x, (s.serviceEvent k).viewOf x = s.viewOf x)
      ∧ (∀ x, (s.serviceEvent k).queue x = s.queue x) ∧ (∀ x, (s.serviceEvent k).pass x = s.pass x)
      ∧ (∀ x, (s.serviceEvent k).inHand x = s.inHand x) ∧ (∀ x, (s.serviceEvent k).run x = s.run x)
      ∧ (∀ x, (s.serviceEvent k).driver x = s.driver x) ∧ (∀ x, (s.serviceEvent k).line x = s.line x)
      ∧ (∀ x, (s.serviceEvent k).port x = s.port x) ∧ (∀ x, (s.serviceEvent k).profile x = s.profile x)
      ∧ (∀ x, (s.serviceEvent k).holder x = s.holder x) ∧ (∀ x, (s.serviceEvent k).holderPort x = s.holderPort x)
      ∧ (∀ x, (s.serviceEvent k).declared x = s.declared x) ∧ (∀ x, (s.serviceEvent k).need x = s.need x)
      ∧ (∀ x, (s.serviceEvent k).staged x = s.staged x) ∧ (∀ x, (s.serviceEvent k).withheld x = s.withheld x)
      ∧ (∀ x, (s.serviceEvent k).commanded x = s.commanded x) ∧ (∀ x, (s.serviceEvent k).tripHold x = s.tripHold x)
      ∧ (∀ x, (s.serviceEvent k).drivenOn x = s.drivenOn x)
      ∧ (∀ x, (s.serviceEvent k).trunkCurrent x = s.trunkCurrent x)
      ∧ (∀ x, (s.serviceEvent k).runTrunk x = s.runTrunk x)
      ∧ (∀ q c, (s.serviceEvent k).isHolder q c = s.isHolder q c)
      ∧ (∀ c q, (s.serviceEvent k).permits c q = s.permits c q)
      ∧ (∀ t c, (s.serviceEvent k).isHead t c = s.isHead t c) := by
  and_intros <;> intros <;> rfl

/-- `post` leaves every record to be read as before. -/
@[simp] theorem State.post_reads (s : State) (b : Block) (p : Port) (n : Notice) :
    (∀ x, (s.post b p n).trunk x = s.trunk x) ∧ (∀ x, (s.post b p n).acct x = s.acct x)
      ∧ (∀ x, (s.post b p n).chan x = s.chan x) ∧ (∀ x, (s.post b p n).viewOf x = s.viewOf x)
      ∧ (∀ x, (s.post b p n).queue x = s.queue x) ∧ (∀ x, (s.post b p n).pass x = s.pass x)
      ∧ (∀ x, (s.post b p n).inHand x = s.inHand x) ∧ (∀ x, (s.post b p n).run x = s.run x)
      ∧ (∀ x, (s.post b p n).driver x = s.driver x) ∧ (∀ x, (s.post b p n).line x = s.line x)
      ∧ (∀ x, (s.post b p n).port x = s.port x) ∧ (∀ x, (s.post b p n).profile x = s.profile x)
      ∧ (∀ x, (s.post b p n).holder x = s.holder x) ∧ (∀ x, (s.post b p n).holderPort x = s.holderPort x)
      ∧ (∀ x, (s.post b p n).declared x = s.declared x) ∧ (∀ x, (s.post b p n).need x = s.need x)
      ∧ (∀ x, (s.post b p n).staged x = s.staged x) ∧ (∀ x, (s.post b p n).withheld x = s.withheld x)
      ∧ (∀ x, (s.post b p n).commanded x = s.commanded x) ∧ (∀ x, (s.post b p n).tripHold x = s.tripHold x)
      ∧ (∀ x, (s.post b p n).drivenOn x = s.drivenOn x)
      ∧ (∀ x, (s.post b p n).trunkCurrent x = s.trunkCurrent x) ∧ (∀ x, (s.post b p n).runTrunk x = s.runTrunk x)
      ∧ (∀ q c, (s.post b p n).isHolder q c = s.isHolder q c) ∧ (∀ c q, (s.post b p n).permits c q = s.permits c q)
      ∧ (∀ t c, (s.post b p n).isHead t c = s.isHead t c) := by
  and_intros <;> intros <;> rfl

/-- `postHolder` leaves every record to be read as before. -/
@[simp] theorem State.postHolder_reads (s : State) (b : Block) (d : Channel) (n : Notice) :
    (∀ x, (s.postHolder b d n).trunk x = s.trunk x) ∧ (∀ x, (s.postHolder b d n).acct x = s.acct x)
      ∧ (∀ x, (s.postHolder b d n).chan x = s.chan x) ∧ (∀ x, (s.postHolder b d n).viewOf x = s.viewOf x)
      ∧ (∀ x, (s.postHolder b d n).queue x = s.queue x) ∧ (∀ x, (s.postHolder b d n).pass x = s.pass x)
      ∧ (∀ x, (s.postHolder b d n).inHand x = s.inHand x) ∧ (∀ x, (s.postHolder b d n).run x = s.run x)
      ∧ (∀ x, (s.postHolder b d n).driver x = s.driver x) ∧ (∀ x, (s.postHolder b d n).line x = s.line x)
      ∧ (∀ x, (s.postHolder b d n).port x = s.port x) ∧ (∀ x, (s.postHolder b d n).profile x = s.profile x)
      ∧ (∀ x, (s.postHolder b d n).holder x = s.holder x) ∧ (∀ x, (s.postHolder b d n).holderPort x = s.holderPort x)
      ∧ (∀ x, (s.postHolder b d n).declared x = s.declared x) ∧ (∀ x, (s.postHolder b d n).need x = s.need x)
      ∧ (∀ x, (s.postHolder b d n).staged x = s.staged x) ∧ (∀ x, (s.postHolder b d n).withheld x = s.withheld x)
      ∧ (∀ x, (s.postHolder b d n).commanded x = s.commanded x)
      ∧ (∀ x, (s.postHolder b d n).tripHold x = s.tripHold x)
      ∧ (∀ x, (s.postHolder b d n).drivenOn x = s.drivenOn x)
      ∧ (∀ x, (s.postHolder b d n).trunkCurrent x = s.trunkCurrent x)
      ∧ (∀ x, (s.postHolder b d n).runTrunk x = s.runTrunk x)
      ∧ (∀ q c, (s.postHolder b d n).isHolder q c = s.isHolder q c)
      ∧ (∀ c q, (s.postHolder b d n).permits c q = s.permits c q)
      ∧ (∀ t c, (s.postHolder b d n).isHead t c = s.isHead t c) := by
  unfold State.postHolder
  split
  · exact State.post_reads s b _ n
  · simp

/-- `setHeldBack` leaves every record to be read as before. -/
@[simp] theorem State.setHeldBack_reads (s : State) (l : List Instr) :
    (∀ x, (s.setHeldBack l).trunk x = s.trunk x) ∧ (∀ x, (s.setHeldBack l).acct x = s.acct x)
      ∧ (∀ x, (s.setHeldBack l).chan x = s.chan x) ∧ (∀ x, (s.setHeldBack l).viewOf x = s.viewOf x)
      ∧ (∀ x, (s.setHeldBack l).queue x = s.queue x) ∧ (∀ x, (s.setHeldBack l).pass x = s.pass x)
      ∧ (∀ x, (s.setHeldBack l).inHand x = s.inHand x) ∧ (∀ x, (s.setHeldBack l).run x = s.run x)
      ∧ (∀ x, (s.setHeldBack l).driver x = s.driver x) ∧ (∀ x, (s.setHeldBack l).line x = s.line x)
      ∧ (∀ x, (s.setHeldBack l).port x = s.port x) ∧ (∀ x, (s.setHeldBack l).profile x = s.profile x)
      ∧ (∀ x, (s.setHeldBack l).holder x = s.holder x) ∧ (∀ x, (s.setHeldBack l).holderPort x = s.holderPort x)
      ∧ (∀ x, (s.setHeldBack l).declared x = s.declared x) ∧ (∀ x, (s.setHeldBack l).need x = s.need x)
      ∧ (∀ x, (s.setHeldBack l).staged x = s.staged x) ∧ (∀ x, (s.setHeldBack l).withheld x = s.withheld x)
      ∧ (∀ x, (s.setHeldBack l).commanded x = s.commanded x) ∧ (∀ x, (s.setHeldBack l).tripHold x = s.tripHold x)
      ∧ (∀ x, (s.setHeldBack l).drivenOn x = s.drivenOn x)
      ∧ (∀ x, (s.setHeldBack l).trunkCurrent x = s.trunkCurrent x)
      ∧ (∀ x, (s.setHeldBack l).runTrunk x = s.runTrunk x) ∧ (∀ q c, (s.setHeldBack l).isHolder q c = s.isHolder q c)
      ∧ (∀ c q, (s.setHeldBack l).permits c q = s.permits c q) ∧ (∀ t c, (s.setHeldBack l).isHead t c = s.isHead t c) := by
  and_intros <;> intros <;> rfl

/-- `setWaiting` leaves every record to be read as before. -/
@[simp] theorem State.setWaiting_reads (s : State) (l : List Instr) :
    (∀ x, (s.setWaiting l).trunk x = s.trunk x) ∧ (∀ x, (s.setWaiting l).acct x = s.acct x)
      ∧ (∀ x, (s.setWaiting l).chan x = s.chan x) ∧ (∀ x, (s.setWaiting l).viewOf x = s.viewOf x)
      ∧ (∀ x, (s.setWaiting l).queue x = s.queue x) ∧ (∀ x, (s.setWaiting l).pass x = s.pass x)
      ∧ (∀ x, (s.setWaiting l).inHand x = s.inHand x) ∧ (∀ x, (s.setWaiting l).run x = s.run x)
      ∧ (∀ x, (s.setWaiting l).driver x = s.driver x) ∧ (∀ x, (s.setWaiting l).line x = s.line x)
      ∧ (∀ x, (s.setWaiting l).port x = s.port x) ∧ (∀ x, (s.setWaiting l).profile x = s.profile x)
      ∧ (∀ x, (s.setWaiting l).holder x = s.holder x) ∧ (∀ x, (s.setWaiting l).holderPort x = s.holderPort x)
      ∧ (∀ x, (s.setWaiting l).declared x = s.declared x) ∧ (∀ x, (s.setWaiting l).need x = s.need x)
      ∧ (∀ x, (s.setWaiting l).staged x = s.staged x) ∧ (∀ x, (s.setWaiting l).withheld x = s.withheld x)
      ∧ (∀ x, (s.setWaiting l).commanded x = s.commanded x) ∧ (∀ x, (s.setWaiting l).tripHold x = s.tripHold x)
      ∧ (∀ x, (s.setWaiting l).drivenOn x = s.drivenOn x)
      ∧ (∀ x, (s.setWaiting l).trunkCurrent x = s.trunkCurrent x) ∧ (∀ x, (s.setWaiting l).runTrunk x = s.runTrunk x)
      ∧ (∀ q c, (s.setWaiting l).isHolder q c = s.isHolder q c)
      ∧ (∀ c q, (s.setWaiting l).permits c q = s.permits c q) ∧ (∀ t c, (s.setWaiting l).isHead t c = s.isHead t c) := by
  and_intros <;> intros <;> rfl

/-- `setInFlight` leaves every record to be read as before. -/
@[simp] theorem State.setInFlight_reads (s : State) (l : List Instr) :
    (∀ x, (s.setInFlight l).trunk x = s.trunk x) ∧ (∀ x, (s.setInFlight l).acct x = s.acct x)
      ∧ (∀ x, (s.setInFlight l).chan x = s.chan x) ∧ (∀ x, (s.setInFlight l).viewOf x = s.viewOf x)
      ∧ (∀ x, (s.setInFlight l).queue x = s.queue x) ∧ (∀ x, (s.setInFlight l).pass x = s.pass x)
      ∧ (∀ x, (s.setInFlight l).inHand x = s.inHand x) ∧ (∀ x, (s.setInFlight l).run x = s.run x)
      ∧ (∀ x, (s.setInFlight l).driver x = s.driver x) ∧ (∀ x, (s.setInFlight l).line x = s.line x)
      ∧ (∀ x, (s.setInFlight l).port x = s.port x) ∧ (∀ x, (s.setInFlight l).profile x = s.profile x)
      ∧ (∀ x, (s.setInFlight l).holder x = s.holder x) ∧ (∀ x, (s.setInFlight l).holderPort x = s.holderPort x)
      ∧ (∀ x, (s.setInFlight l).declared x = s.declared x) ∧ (∀ x, (s.setInFlight l).need x = s.need x)
      ∧ (∀ x, (s.setInFlight l).staged x = s.staged x) ∧ (∀ x, (s.setInFlight l).withheld x = s.withheld x)
      ∧ (∀ x, (s.setInFlight l).commanded x = s.commanded x) ∧ (∀ x, (s.setInFlight l).tripHold x = s.tripHold x)
      ∧ (∀ x, (s.setInFlight l).drivenOn x = s.drivenOn x)
      ∧ (∀ x, (s.setInFlight l).trunkCurrent x = s.trunkCurrent x)
      ∧ (∀ x, (s.setInFlight l).runTrunk x = s.runTrunk x) ∧ (∀ q c, (s.setInFlight l).isHolder q c = s.isHolder q c)
      ∧ (∀ c q, (s.setInFlight l).permits c q = s.permits c q) ∧ (∀ t c, (s.setInFlight l).isHead t c = s.isHead t c) := by
  and_intros <;> intros <;> rfl

end Sys2Proof.Machine
end

