-- ==== Sys2Proof/Laws/Ops.lean ====
section
/-! SUPPORT. What each shared operation can do, said once: the window and the taking of a request, the gate of the Lease
Manager, the return of a reservation, a channel's leaving its state. -/

namespace Sys2Proof.Machine

open Sys2Proof.Safety

/-! ### Messages, windows and requests -/

/-- A message is taken in its turn, while reset is not held. -/
theorem State.taking_run (s : State) (m : Instr) (f : State → State) (h : s.inReset = false) (ht : InTurn s m) :
    s.taking m f = f (s.arrive m) := by
  simp [State.taking, State.running, h, show s.outOfTurn m = false from ht]

/-- A message whose turn has not come waits. -/
theorem State.taking_waits (s : State) (m : Instr) (f : State → State) (h : s.inReset = false)
    (ht : s.outOfTurn m = true) : s.taking m f = s.await m := by
  simp [State.taking, State.running, h, ht]

/-- Nothing that precedes a message is in flight before it, so it is in its turn. -/
theorem inTurn_of_none {s : State} {m : Instr} (h : ∀ x ∈ s.inFlight, s.precedes x m = false) : InTurn s m :=
  List.any_eq_false.2 fun x hx => by simpa using h x (List.takeWhile_sublist _ |>.subset hx)

/-- Only an abort waits for a service event. -/
theorem State.eventBefore_false (s : State) (x m : Instr) (h : ∀ c, m ≠ .abort c) : s.eventBefore x m = false := by
  unfold State.eventBefore
  split
  · exact absurd rfl (h _)
  · rfl

/-- Another message precedes one that is no abort only in its stream. -/
theorem State.precedes_stream (s : State) (x m : Instr) (h : ∀ c, m ≠ .abort c) :
    s.precedes x m = ((stream m).isSome && decide (stream x = stream m)) := by
  rw [State.precedes, State.eventBefore_false s x m h, Bool.or_false]

/-- A message of no stream is always in its turn. -/
theorem inTurn_free {s : State} {m : Instr} (h : stream m = none) : InTurn s m :=
  inTurn_of_none fun x _ => by
    rw [State.precedes_stream s x m (by rintro c rfl; cases h), h]; rfl

/-- The oldest message in flight is in its turn. -/
theorem inTurn_head {s : State} {m : Instr} {rest : List Instr} (h : s.inFlight = m :: rest) : InTurn s m := by
  simp [InTurn, State.outOfTurn, h]

/-- A message that is no abort is in its turn when nothing of its stream is in flight. -/
theorem inTurn_none {s : State} {m : Instr} (hm : ∀ c, m ≠ .abort c) (h : ∀ x ∈ s.inFlight, stream x ≠ stream m) :
    InTurn s m :=
  inTurn_of_none fun x hx => by
    rw [State.precedes_stream s x m hm, decide_eq_false (h x hx), Bool.and_false]

/-- An expiry or sample is taken while reset is not held. -/
theorem State.running_run (s : State) (f : State → State) (h : s.inReset = false) : s.running f = f s := by
  simp [State.running, h]

/-- While reset is held nothing is taken. -/
theorem State.taking_reset (s : State) (m : Instr) (f : State → State) (h : s.inReset = true) : s.taking m f = s := by
  simp [State.taking, State.running, h]

/-- A window that the Port Unit takes. -/
theorem State.window_taken (s : State) (p : Port) (bytes : List Byte) (act : State → State) (h : WindowTaken s p) :
    s.window p bytes act
      = act (s.updPort p fun r => { r with clockedOut := shown r.holder bytes.length, holder := none }) := by
  obtain ⟨h1, h2, h3⟩ := h
  simp [State.window, h1, h2, h3]

/-- Two updates of one entry are one. -/
theorem updAt_updAt {α : Type} {n : Nat} (v : Vector α n) (i : Fin n) (f g : α → α) :
    updAt (updAt v i f) i g = updAt v i fun x => g (f x) := by
  simp [updAt, Vector.set_set]

/-- Two updates of one port record are one. -/
theorem State.updPort_updPort (s : State) (p : Port) (f g : PortRec → PortRec) :
    (s.updPort p f).updPort p g = s.updPort p fun r => g (f r) := by
  simp [State.updPort, updAt_updAt]

/-- Two updates of one entry are equal when the entries they give are equal. -/
theorem updAt_congr {α : Type} {n : Nat} (v : Vector α n) (i : Fin n) (f g : α → α) (h : f v[i] = g v[i]) :
    updAt v i f = updAt v i g := by
  simp only [updAt]; rw [h]

/-- Two updates of a port record are equal when the records they give are equal. -/
theorem State.updPort_congr (s : State) (p : Port) (f g : PortRec → PortRec) (h : f (s.port p) = g (s.port p)) :
    s.updPort p f = s.updPort p g := by
  simp only [State.updPort]; rw [updAt_congr _ _ f g h]

/-- Two updates of a channel record are equal when what they give is equal. -/
theorem State.updChan_congr (s : State) (c : Channel) (f g : ChannelRec → ChannelRec) (h : f (s.chan c) = g (s.chan c)) :
    s.updChan c f = s.updChan c g := by
  simp only [State.updChan]; rw [updAt_congr _ _ f g h]

/-- Two updates of one channel record are one. -/
theorem State.updChan_updChan (s : State) (c : Channel) (f g : ChannelRec → ChannelRec) :
    (s.updChan c f).updChan c g = s.updChan c fun x => g (f x) := by
  simp [State.updChan, updAt_updAt]

/-- Two updates of a trunk record are equal when what they give is equal. -/
theorem State.updTrunk_congr (s : State) (t : Trunk) (f g : TrunkRec → TrunkRec) (h : f (s.trunk t) = g (s.trunk t)) :
    s.updTrunk t f = s.updTrunk t g := by
  simp only [State.updTrunk]; rw [updAt_congr _ _ f g h]

/-- Two updates of one trunk record are one. -/
theorem State.updTrunk_updTrunk (s : State) (t : Trunk) (f g : TrunkRec → TrunkRec) :
    (s.updTrunk t f).updTrunk t g = s.updTrunk t fun x => g (f x) := by
  simp [State.updTrunk, updAt_updAt]

/-- Two updates of a account are equal when what they give is equal. -/
theorem State.updAcct_congr (s : State) (c : Channel) (f g : Account → Account) (h : f (s.acct c) = g (s.acct c)) :
    s.updAcct c f = s.updAcct c g := by
  simp only [State.updAcct]; rw [updAt_congr _ _ f g h]

/-- Two updates of one account are one. -/
theorem State.updAcct_updAcct (s : State) (c : Channel) (f g : Account → Account) :
    (s.updAcct c f).updAcct c g = s.updAcct c fun x => g (f x) := by
  simp [State.updAcct, updAt_updAt]

/-- Two updates of a line record are equal when what they give is equal. -/
theorem State.updLine_congr (s : State) (l : Line) (f g : LineRec → LineRec) (h : f (s.line l) = g (s.line l)) :
    s.updLine l f = s.updLine l g := by
  simp only [State.updLine]; rw [updAt_congr _ _ f g h]

/-- Two updates of one line record are one. -/
theorem State.updLine_updLine (s : State) (l : Line) (f g : LineRec → LineRec) :
    (s.updLine l f).updLine l g = s.updLine l fun x => g (f x) := by
  simp [State.updLine, updAt_updAt]

/-- Two updates of a queue are equal when what they give is equal. -/
theorem State.updQueue_congr (s : State) (t : Trunk) (f g : List Entry → List Entry) (h : f (s.queue t) = g (s.queue t)) :
    s.updQueue t f = s.updQueue t g := by
  simp only [State.updQueue]; rw [updAt_congr _ _ f g h]

/-- Two updates of one queue are one. -/
theorem State.updQueue_updQueue (s : State) (t : Trunk) (f g : List Entry → List Entry) :
    (s.updQueue t f).updQueue t g = s.updQueue t fun x => g (f x) := by
  simp [State.updQueue, updAt_updAt]

/-- Two updates of a pass are equal when what they give is equal. -/
theorem State.updPass_congr (s : State) (t : Trunk) (f g : Pass → Pass) (h : f (s.pass t) = g (s.pass t)) :
    s.updPass t f = s.updPass t g := by
  simp only [State.updPass]; rw [updAt_congr _ _ f g h]

/-- Two updates of one pass are one. -/
theorem State.updPass_updPass (s : State) (t : Trunk) (f g : Pass → Pass) :
    (s.updPass t f).updPass t g = s.updPass t fun x => g (f x) := by
  simp [State.updPass, updAt_updAt]

/-- What the start of a pass can do: end with the queue empty, wait for a head whose wait limit has run out, or offer the head. -/
theorem State.startPass_cases (s : State) (t : Trunk) :
    (s.queue t = [] ∧ s.startPass t = s.updPass t fun _ => ⟨none, false⟩)
    ∨ ∃ e rest, s.queue t = e :: rest
      ∧ ((e.expired = true ∧ s.startPass t = s.updPass t fun _ => ⟨none, true⟩)
        ∨ (e.expired = false ∧ s.startPass t = (s.updPass t fun _ => ⟨some ⟨e.channel, s.need e.channel, .asked⟩, false⟩).send
          (.admissionClaim true t e.channel (s.need e.channel) (s.staged e.channel)))) := by
  have hq : (s.updPass t fun _ => ⟨none, false⟩).queue t = s.queue t := rfl
  rw [State.startPass, State.offerHead, hq]
  cases h : s.queue t with
  | nil => exact .inl ⟨rfl, State.updPass_updPass ..⟩
  | cons e rest =>
    refine .inr ⟨e, rest, rfl, ?_⟩
    cases he : e.expired with
    | true => exact .inl ⟨rfl, by simp only [he, if_true]; exact State.updPass_updPass ..⟩
    | false =>
      refine .inr ⟨rfl, ?_⟩
      simp only [he, Bool.false_eq_true, if_false, State.updPass_updPass]
      rfl

/-- Two updates of a driver are equal when what they give is equal. -/
theorem State.updDriver_congr (s : State) (c : Channel) (f g : Driver → Driver) (h : f (s.driver c) = g (s.driver c)) :
    s.updDriver c f = s.updDriver c g := by
  simp only [State.updDriver]; rw [updAt_congr _ _ f g h]

/-- Two updates of one driver are one. -/
theorem State.updDriver_updDriver (s : State) (c : Channel) (f g : Driver → Driver) :
    (s.updDriver c f).updDriver c g = s.updDriver c fun x => g (f x) := by
  simp [State.updDriver, updAt_updAt]

/-- A fresh request in a port state that permits it is judged by its owner, on the state in which it is in hand. -/
theorem State.hostRequest_fresh (s : State) (i : Instr) (r : Req) (own : State → State) (h : Fresh s i r)
    (hs : anyPortState i = true ∨ (s.port r.port).state = .LIVE) : s.hostRequest i own = own (taken s i r) := by
  obtain ⟨code, payload, he, hw, hr⟩ := h
  have hst : (anyPortState i || decide ((s.port r.port).state = .LIVE)) = true := by
    rcases hs with h | h <;> simp [h]
  simp only [State.hostRequest, he]
  rw [State.window_taken _ _ _ _ hw]
  have hr' : ((s.updPort r.port fun x => { x with
      clockedOut := shown x.holder (requestFrame r.tag code payload ++ r.trail).length, holder := none }).port
        r.port).replayOf r.tag (crc8 (covered r.tag code payload)) = none := by
    simpa [PortRec.replayOf] using hr
  simp only [State.accept, hr', State.takeRequest]
  rw [if_pos (by simpa using hst), State.updPort_updPort]
  congr 1
  simp only [taken]
  apply State.updPort_congr
  simp [takenPort, he, PortRec.restart]
  split <;> simp_all

/-- A passed request is judged by its owner, on the state in which it is in hand. -/
theorem State.hostRequest_passed (s : State) (i : Instr) (r : Req) (own : State → State) (h : Passed s i r) :
    s.hostRequest i own = own (taken s i r) :=
  s.hostRequest_fresh i r own h.1 (.inr h.2)

/-- A fresh request in a port state that does not permit it is refused. -/
theorem State.hostRequest_notOpen (s : State) (i : Instr) (r : Req) (own : State → State) (h : Fresh s i r)
    (ha : anyPortState i = false) (hs : (s.port r.port).state ≠ .LIVE) :
    s.hostRequest i own = answered s i r .NOT_OPEN [] := by
  obtain ⟨code, payload, he, hw, hr⟩ := h
  simp only [State.hostRequest, he]
  rw [State.window_taken _ _ _ _ hw]
  have hr' : ((s.updPort r.port fun x => { x with
      clockedOut := shown x.holder (requestFrame r.tag code payload ++ r.trail).length, holder := none }).port
        r.port).replayOf r.tag (crc8 (covered r.tag code payload)) = none := by
    simpa [PortRec.replayOf] using hr
  simp only [State.accept, hr', State.takeRequest]
  rw [if_neg (by simp [ha, hs]), State.updPort_updPort]
  simp only [State.finish, State.updPort_self, State.updPort_updPort]
  simp only [answered]
  apply State.updPort_congr
  simp [answeredPort, takenPort, he, PortRec.restart, hs]

/-- The answer that the Port Unit forms to the request in hand. -/
theorem State.finish_taken (s : State) (i : Instr) (r : Req) (st : Status) (pl : List Byte) (h : Fresh s i r) :
    (taken s i r).finish r.port st pl = answered s i r st pl := by
  obtain ⟨code, payload, he, -, -⟩ := h
  simp only [State.finish, taken, State.updPort_self, takenPort, he, State.updPort_updPort, answered, answeredPort]

/-- The port of the state in which a request is in hand. -/
@[simp] theorem taken_port (s : State) (i : Instr) (r : Req) : (taken s i r).port r.port = takenPort (s.port r.port) i := by
  simp [taken]

/-- What the taking of a request leaves alone. -/
@[simp] theorem taken_frame (s : State) (i : Instr) (r : Req) :
    (taken s i r).pending = s.pending ∧ (taken s i r).inFlight = s.inFlight ∧ (taken s i r).inReset = s.inReset
      ∧ (taken s i r).trunks = s.trunks ∧ (taken s i r).accounts = s.accounts ∧ (taken s i r).channels = s.channels
      ∧ (taken s i r).portView = s.portView ∧ (taken s i r).heldBack = s.heldBack ∧ (taken s i r).queues = s.queues
      ∧ (taken s i r).passes = s.passes ∧ (taken s i r).energizing = s.energizing ∧ (taken s i r).waiting = s.waiting
      ∧ (taken s i r).arrivals = s.arrivals ∧ (taken s i r).admissions = s.admissions ∧ (taken s i r).runs = s.runs
      ∧ (taken s i r).drivers = s.drivers ∧ (taken s i r).sense = s.sense ∧ (taken s i r).lines = s.lines
      ∧ (taken s i r).config = s.config := by
  simp [taken]

/-- In the state in which a request is in hand every record but its port's reads as before. -/
@[simp] theorem taken_reads (s : State) (i : Instr) (r : Req) :
    (∀ x, (taken s i r).trunk x = s.trunk x) ∧ (∀ x, (taken s i r).acct x = s.acct x) ∧ (∀ x, (taken s i r).chan x = s.chan x)
      ∧ (∀ x, (taken s i r).viewOf x = s.viewOf x) ∧ (∀ x, (taken s i r).queue x = s.queue x)
      ∧ (∀ x, (taken s i r).pass x = s.pass x) ∧ (∀ x, (taken s i r).inHand x = s.inHand x)
      ∧ (∀ x, (taken s i r).run x = s.run x) ∧ (∀ x, (taken s i r).driver x = s.driver x)
      ∧ (∀ x, (taken s i r).line x = s.line x)
      ∧ (∀ x, (taken s i r).profile x = s.profile x) ∧ (∀ x, (taken s i r).holder x = s.holder x)
      ∧ (∀ x, (taken s i r).holderPort x = s.holderPort x) ∧ (∀ x, (taken s i r).declared x = s.declared x)
      ∧ (∀ x, (taken s i r).need x = s.need x) ∧ (∀ x, (taken s i r).staged x = s.staged x)
      ∧ (∀ x, (taken s i r).withheld x = s.withheld x) ∧ (∀ x, (taken s i r).commanded x = s.commanded x)
      ∧ (∀ x, (taken s i r).tripHold x = s.tripHold x)
      ∧ (∀ x, (taken s i r).drivenOn x = s.drivenOn x) ∧ (∀ x, (taken s i r).trunkCurrent x = s.trunkCurrent x)
      ∧ (∀ x, (taken s i r).runTrunk x = s.runTrunk x) ∧ (∀ q c, (taken s i r).isHolder q c = s.isHolder q c)
      ∧ (∀ c q, (taken s i r).permits c q = s.permits c q) ∧ (∀ t c, (taken s i r).isHead t c = s.isHead t c) := by
  and_intros <;> intros <;> rfl

/-- The taking of a request keeps the port's state, epoch, queue, lost count and sequence number. -/
@[simp] theorem takenPort_frame (x : PortRec) (i : Instr) :
    (takenPort x i).state = x.state ∧ (takenPort x i).epoch = x.epoch ∧ (takenPort x i).period = x.period
      ∧ (takenPort x i).replay = x.replay ∧ (takenPort x i).queue = x.queue ∧ (takenPort x i).lost = x.lost
      ∧ (takenPort x i).seq = x.seq ∧ (takenPort x i).selHeld = x.selHeld := by
  unfold takenPort
  split
  · simp
  · simp only [PortRec.restart]; split <;> simp

/-! ### Indices in a byte -/

/-- The byte of a channel names it. -/
@[simp] theorem channelOf_ofNat (c : Channel) : channelOf (BitVec.ofNat 8 c.val) = some c := by revert c; decide
/-- The byte of a trunk names it. -/
@[simp] theorem trunkOf_ofNat (t : Trunk) : trunkOf (BitVec.ofNat 8 t.val) = some t := by revert t; decide
/-- The byte of a port names it. -/
@[simp] theorem portOf_ofNat (p : Port) : portOf (BitVec.ofNat 8 p.val) = some p := by revert p; decide
/-- The byte of a line names it. -/
@[simp] theorem lineOf_ofNat (l : Line) : lineOf (BitVec.ofNat 8 l.val) = some l := by revert l; decide
/-- A byte of 12 or more names no channel. -/
theorem channelOf_none {b : Byte} (h : 12 ≤ b.toNat) : channelOf b = none := dif_neg (by omega)
/-- A byte of 3 or more names no trunk. -/
theorem trunkOf_none {b : Byte} (h : 3 ≤ b.toNat) : trunkOf b = none := dif_neg (by omega)
/-- A byte of 4 or more names no port. -/
theorem portOf_none {b : Byte} (h : 4 ≤ b.toNat) : portOf b = none := dif_neg (by omega)

/-! ### The gate of the Lease Manager -/

/-- The hold-back looks at neither the ports nor the messages. -/
theorem State.leaseBlocked_congr (s u : State) (i : Instr) (hc : u.channels = s.channels) (hh : u.heldBack = s.heldBack)
    (he : u.energizing = s.energizing) (hp : u.passes = s.passes) : u.leaseBlocked i = s.leaseBlocked i := by
  have h1 : ∀ c, u.chan c = s.chan c := fun c => by simp [State.chan, hc]
  have h2 : ∀ c, u.inHand c = s.inHand c := fun c => by simp [State.inHand, he]
  have h3 : ∀ t, u.pass t = s.pass t := fun t => by simp [State.pass, hp]
  have h0 : ∀ c, u.holderPort c = s.holderPort c := fun c => by
    have : u.holder c = s.holder c := by simp [State.holder, h1]
    unfold State.holderPort; rw [this]
  have h4 : ∀ c, u.concerns i c = s.concerns i c := fun c => by simp [State.concerns, h0]
  have h5 : u.admissionInFlight = s.admissionInFlight := by
    funext c; simp [State.admissionInFlight, h2, h3]
  have h6 : u.heldFrom = s.heldFrom := by funext p; simp [State.heldFrom, hh]
  have h7 : u.heldFromLines = s.heldFromLines := by funext c; simp [State.heldFromLines, hh]
  unfold State.leaseBlocked
  simp only [h1, h4, h5, h6, h7, h2]

/-- Nothing meets the test, so nothing stands before a last that does. -/
theorem upToLast_none (p : Instr → Bool) (l : List Instr) (h : ∀ m ∈ l, p m = false) : upToLast p l = [] := by
  have : l.reverse.dropWhile (fun m => !p m) = [] := by
    rw [List.dropWhile_eq_nil_iff]
    intro m hm
    simp [h m (List.mem_reverse.1 hm)]
  simp [upToLast, this]

/-- A claim or request concerns a channel. -/
theorem State.concerns_iff (s : State) (i : Instr) (c : Channel) : s.concerns i c = true ↔ Concerns s i c := by
  simp [State.concerns, Concerns, Option.any_eq_true]

/-- What a claim or request concerns looks at the channel records alone. -/
theorem concerns_congr {s u : State} (h : u.channels = s.channels) (i : Instr) (c : Channel) : Concerns u i c ↔ Concerns s i c := by
  have : u.holderPort c = s.holderPort c := by simp [State.holderPort, State.holder, State.chan, h]
  unfold Concerns; rw [this]

/-- No completion answer waits to be settled. -/
theorem State.settleCompletions_none (s : State) (i : Instr)
    (h : ∀ c, Concerns s i c → .completionAnswer c true ∉ s.inFlight) : s.settleCompletions i = s := by
  unfold State.settleCompletions
  rw [upToLast_none]
  · rfl
  · intro m hm
    unfold State.completionDue
    split
    · exact Bool.eq_false_iff.2 fun hc => h _ ((s.concerns_iff i _).1 hc) hm
    · rfl

/-- What the Lease Manager takes at once. -/
theorem State.atLeaseManager_atOnce (s : State) (i : Instr) (f : State → State) (h : TakenAtOnce s i) :
    s.atLeaseManager i f = f s := by
  simp [State.atLeaseManager, h.1, State.settleCompletions_none s i h.2]

/-- A message's arrival leaves the gate as it stands. -/
theorem takenAtOnce_arrive {s : State} {i : Instr} (h : TakenAtOnce s i) (m : Instr) : TakenAtOnce (s.arrive m) i := by
  refine ⟨?_, fun c hc hm => h.2 c ((concerns_congr (by simp) i c).1 hc) ?_⟩
  · rw [State.leaseBlocked_congr s (s.arrive m) i (by simp) (by simp) (by simp) (by simp)]; exact h.1
  · simp only [State.arrive, State.setInFlight_inFlight] at hm
    exact List.mem_of_mem_erase hm

/-- The taking of a request leaves the gate as it stands. -/
theorem takenAtOnce_taken {s : State} {i : Instr} (h : TakenAtOnce s i) (j : Instr) (r : Req) :
    TakenAtOnce (taken s j r) i := by
  refine ⟨?_, fun c hc hm => h.2 c ((concerns_congr (by simp) i c).1 hc) (by simpa using hm)⟩
  rw [State.leaseBlocked_congr s (Safety.taken s j r) i (by simp) (by simp) (by simp) (by simp)]; exact h.1

/-- A passed request that the Lease Manager takes at once. -/
theorem State.leaseCommand_taken (s : State) (i : Instr) (r : Req) (hp : Passed s i r) (ht : TakenAtOnce s i) :
    s.leaseCommand i = leaseTake i (taken s i r) := by
  rw [State.leaseCommand, State.hostRequest_passed s i r _ hp, State.atLeaseManager_atOnce _ _ _ (takenAtOnce_taken ht i r)]

/-- A claim that the Lease Manager takes at once. -/
theorem State.claimCommand_taken (s : State) (i : Instr) (h : ClaimTaken s i) :
    s.claimCommand i = leaseTake i (s.arrive i) := by
  rw [State.claimCommand, State.taking_run _ _ _ h.1 h.2.1, State.atLeaseManager_atOnce _ _ _ (takenAtOnce_arrive h.2.2 i)]

/-- With nothing held back there is nothing to release. -/
theorem State.releaseHeldBack_nil (s : State) (h : s.heldBack = []) : s.releaseHeldBack = s := by
  simp only [State.releaseHeldBack, h, List.foldl_nil]
  cases s; subst h; rfl

/-- In a queue in order of priority the entries of at least a priority stand before the rest. -/
theorem joinQueue_sorted (q : List Entry) (e : Entry) (h : q.Pairwise fun a b => b.priority ≤ a.priority) :
    joinQueue q e = (q.filter fun x => decide (e.priority ≤ x.priority)) ++ e ::
      q.filter fun x => decide (x.priority < e.priority) := by
  unfold joinQueue
  induction q with
  | nil => rfl
  | cons a q ih =>
    rw [List.pairwise_cons] at h
    by_cases hp : e.priority ≤ a.priority
    · have h2 : ¬ a.priority < e.priority := by omega
      simpa [hp, h2] using ih h.2
    · have h2 : a.priority < e.priority := by omega
      have e1 : q.filter (fun x => decide (e.priority ≤ x.priority)) = [] :=
        List.filter_eq_nil_iff.2 fun x hx => by have := h.1 x hx; simp; omega
      have e2 : q.filter (fun x => decide (x.priority < e.priority)) = q :=
        List.filter_eq_self.2 fun x hx => by have := h.1 x hx; simp; omega
      simp [hp, h2, e1, e2]

/-- The heat with which a joining entry is to be flushed looks at the trunk's record alone. -/
theorem State.heatIfTripped_congr (s u : State) (t : Trunk) (h : u.trunk t = s.trunk t) :
    u.heatIfTripped t = s.heatIfTripped t := by
  unfold State.heatIfTripped; rw [h]

/-- The mark of an entry whose channel stands nowhere before it. -/
theorem flushHeat_append (a b : List Entry) (e : Entry) (h : ∀ x ∈ a, x.channel ≠ e.channel) :
    flushHeat (a ++ e :: b) e.channel = e.tripHeat := by
  have ha : a.find? (fun x => decide (x.channel = e.channel)) = none := List.find?_eq_none.2 fun x hx => by simpa using h x hx
  simp [flushHeat, List.find?_append, ha]

/-- The entries ahead of one whose channel stands nowhere before it. -/
theorem entriesAhead_append (a b : List Entry) (e : Entry) (h : ∀ x ∈ a, x.channel ≠ e.channel) :
    entriesAhead (a ++ e :: b) e.channel = a.length := by
  unfold entriesAhead
  rw [List.takeWhile_append_of_pos (by simpa using h)]
  simp

/-! ### Leaving a state -/

/-- An entry replaced by itself. -/
theorem updAt_same {α : Type} {n : Nat} (v : Vector α n) (i : Fin n) (f : α → α) (h : f v[i] = v[i]) : updAt v i f = v := by
  ext j hj
  simp only [updAt, Vector.getElem_set]
  split
  · subst_vars; exact h
  · rfl

/-- The return of a reservation (R15, R18, R19). -/
theorem State.returnCharge_eq (s : State) (c : Channel) :
    s.returnCharge c = returned s c := by
  unfold State.returnCharge returned returnedTrunks returnedAccounts returnEvents
  cases hc : (s.acct c).charged with
  | none => simp
  | some t =>
    by_cases hn : (s.trunk t).slot = some c
    · have h1 : (s.trunks[t]).slot = some c := hn
      simp only [hn, decide_true, if_true]
      simp only [State.serviceEvent, State.send, State.setInFlight, State.updAcct, State.updTrunk]
      have h2 : updAt s.trunks t (fun r : TrunkRec => { r with
          reserved := r.reserved - (s.acct c).reservation, slot := none }) = updAt s.trunks t (returnedFrom s c) :=
        updAt_congr _ _ _ _ (by simp only [returnedFrom, h1, if_true])
      rw [h2]; simp
    · have h1 : ¬ (s.trunks[t]).slot = some c := hn
      simp only [hn, decide_false, Bool.false_eq_true, if_false]
      simp only [State.serviceEvent, State.send, State.setInFlight, State.updAcct, State.updTrunk]
      have h2 : updAt s.trunks t (fun r : TrunkRec => { r with
          reserved := r.reserved - (s.acct c).reservation, slot := r.slot }) = updAt s.trunks t (returnedFrom s c) :=
        updAt_congr _ _ _ _ (by simp only [returnedFrom, h1, if_false])
      rw [h2]

/-- A reservation set (R13): what the trunk records, the account and the messages become. -/
theorem State.charge_eq (s : State) (c : Channel) (t : Trunk) (mA : Nat)
    (h : (s.acct c).charged = some t ∨ (s.acct c).charged = none ∧ (s.acct c).reservation = 0) :
    s.charge c t mA = { s with
      trunks := updAt s.trunks t fun r => { r with reserved := r.reserved - (s.acct c).reservation + mA }
      accounts := updAt s.accounts c fun a =>
        { a with reservation := mA, charged := if mA = 0 then none else some t }
      inFlight := s.inFlight ++ if mA < (s.acct c).reservation then [.serviceEvent t] else [] } := by
  unfold State.charge
  rcases h with h | ⟨h, h0⟩
  · rw [h]
    simp only [State.updTrunk_updTrunk, if_true]
    split <;> simp [State.updTrunk, State.updAcct, State.serviceEvent, State.send, State.setInFlight]
  · rw [h]
    simp [h0, State.updTrunk, State.updAcct]

/-- The trunk that a reservation stands on (R13). -/
theorem State.chargeTrunk_of {s : State} {c : Channel} {t : Trunk} (h : ChargedOn s c t) : s.chargeTrunk c = some t := by
  rcases h with h | ⟨h, -, h'⟩ <;> simp [State.chargeTrunk, *]

/-- The completion lowering (R16, R18, R19). -/
theorem State.lowerCharge_eq (s : State) (c : Channel) (t : Trunk) (h : ChargedOn s c t) :
    s.lowerCharge c = { s with
      trunks := updAt s.trunks t fun r => { r with
        reserved := r.reserved - (s.acct c).reservation + s.declared c, slot := if r.slot = some c then none else r.slot }
      accounts := updAt s.accounts c fun a => { a with
        reservation := s.declared c, charged := if s.declared c = 0 then none else some t, overdrawn := false }
      inFlight := s.inFlight ++ (if s.declared c < (s.acct c).reservation then [.serviceEvent t] else [])
        ++ if (s.trunk t).slot = some c then [.serviceEvent t] else [] } := by
  have hc := s.charge_eq c t (s.declared c) (h.imp_right fun h => ⟨h.1, h.2.1⟩)
  unfold State.lowerCharge
  rw [State.chargeTrunk_of h]
  simp only [hc, State.updAcct, State.updTrunk, updAt_updAt]
  have hslot : (s.trunks[t]).slot = (s.trunk t).slot := rfl
  by_cases hs : (s.trunk t).slot = some c
  · rw [if_pos hs, if_pos hs]
    simp only [State.serviceEvent, State.send, State.setInFlight]
    congr 1
    exact updAt_congr _ _ _ _ (by rw [hslot, if_pos hs])
  · rw [if_neg hs, if_neg hs, List.append_nil]
    congr 1
    exact updAt_congr _ _ _ _ (by rw [hslot, if_neg hs])

/-- The entry of a channel leaves its queue. -/
theorem State.leaveQueue_eq (s : State) (c : Channel) : s.leaveQueue c = { s with queues := queuesWithout s c } := by
  unfold State.leaveQueue queuesWithout
  cases (s.chan c).trunk <;> rfl

/-- The removal of an entry (R68). -/
theorem State.removeEntry_eq (s : State) (c : Channel) :
    s.removeEntry c = { s with queues := queuesWithout s c, inFlight := s.inFlight ++ headEvents s c } := by
  unfold State.removeEntry queuesWithout headEvents
  cases ht : (s.chan c).trunk with
  | none => simp
  | some t =>
    cases hh : s.isHead t c <;>
      simp [hh, State.leaveQueue, ht, State.serviceEvent, State.send, State.setInFlight, State.updQueue]

/-- A channel goes to an undriven state: all that this does, at once. -/
theorem State.leaveFor_eq (s : State) (c : Channel) (st : ChanState) (abort : Bool) (f : ChannelRec → ChannelRec)
    (hf : (f (undriven (s.chan c) st)).trunk = (s.chan c).trunk) :
    s.leaveFor c st abort f = goneTo s c (f (undriven (s.chan c) st)) abort := by
  have h0 : (s.updChan c fun r => f { r with
      state := st, intent := decide (st = .INHIBITED), stamp := none, onStable := none, faultCause := none,
      shedCause := none })
      = { s with channels := updAt s.channels c fun _ => f (undriven (s.chan c) st) } := rfl
  have hg : ∀ u : State, u.channels = updAt s.channels c (fun _ => f (undriven (s.chan c) st)) →
      (u.chan c).trunk = (s.chan c).trunk := by
    intro u hu
    rw [← hf, State.chan, hu]; simp [updAt]
  unfold State.leaveFor
  rw [h0, State.endPulse, State.updDriver]
  unfold State.quit goneTo departure
  cases hs : (s.chan c).state
  case QUEUED =>
    simp only [State.removeEntry_eq, isDriven]
    simp only [queuesWithout, headEvents, hg, Bool.false_eq_true, if_false, if_true]
    rfl
  case PROBE =>
    cases abort <;>
      simp only [State.returnCharge_eq, returned, isDriven, if_true, Bool.false_eq_true, if_false, List.append_assoc,
        State.send, State.setInFlight] <;> first | rfl | (simp only [List.append_nil]; rfl)
  case FILL =>
    cases abort <;>
      simp only [State.returnCharge_eq, returned, isDriven, if_true, Bool.false_eq_true, if_false, List.append_assoc,
        State.send, State.setInFlight] <;> first | rfl | (simp only [List.append_nil]; rfl)
  case ON =>
    simp only [State.returnCharge_eq, returned, isDriven, if_true]
    rfl
  all_goals simp only [isDriven, Bool.false_eq_true, if_false, List.append_nil]
  all_goals rfl

/-- A lease ends: all that this does, at once (R32). -/
theorem State.endLease_goneTo (s : State) (c : Channel) (own abort : Bool) :
    s.endLease c own abort = (goneTo s c (freed (s.chan c)) abort).setInFlight
      ((goneTo s c (freed (s.chan c)) abort).inFlight ++ endReports s c (s.chan c).lockedOut own) := by
  have h : s.leaveFor c .FREE abort (fun r => { r with lease := none }) = goneTo s c (freed (s.chan c)) abort := by
    rw [State.leaveFor_eq _ _ _ _ _ rfl]; rfl
  unfold State.endLease endReports
  rw [h]
  cases (s.chan c).lockedOut <;> cases hh : s.holder c with
  | none => simp [State.send, State.setInFlight]
  | some x => cases x <;> cases own <;> simp [State.send, State.setInFlight]

/-- The lease of a channel ends, its run aborted (R32). -/
theorem State.endLease_eq (s : State) (c : Channel) (own : Bool) : s.endLease c own true = leaseEnded s c own :=
  s.endLease_goneTo c own true

/-- A state with another record for one channel, before that channel goes to `new`: what it leaves behind is the same. -/
theorem goneTo_updChan (s : State) (c : Channel) (f : ChannelRec → ChannelRec) (new : ChannelRec) (abort : Bool)
    (h1 : (f (s.chan c)).state = (s.chan c).state) (h2 : (f (s.chan c)).trunk = (s.chan c).trunk) :
    goneTo (s.updChan c f) c new abort = goneTo s c new abort := by
  have e : (s.updChan c f).chan c = f (s.chan c) := State.updChan_self s c f
  unfold goneTo departure headEvents queuesWithout
  simp only [e, h1, h2, State.updChan_channels, updAt_updAt]
  rfl

/-- The reports of the end of a lease look at the holder alone. -/
theorem endReports_updChan (s : State) (c : Channel) (f : ChannelRec → ChannelRec) (locked own : Bool)
    (h : (f (s.chan c)).lease = (s.chan c).lease) : endReports (s.updChan c f) c locked own = endReports s c locked own := by
  have : (s.updChan c f).holder c = s.holder c := by simp only [State.holder, State.updChan_self, h]
  unfold endReports; rw [this]

/-- A fault is taken: all that this does, at once (R43). -/
theorem State.takeFault_eq (s : State) (c : Channel) (cause : FaultCause) (abort : Bool) :
    s.takeFault c cause abort = faulted s c cause abort := by
  unfold State.takeFault faulted
  simp only
  split
  · rw [State.leaveFor_eq _ _ _ _ _ rfl]
  · rw [State.endLease_goneTo, goneTo_updChan _ _ _ _ _ rfl rfl, endReports_updChan _ _ _ _ _ rfl]
    simp only [State.updChan_self]
    rfl

end Sys2Proof.Machine
end

