-- ==== Sys2Proof/Laws/Inv.lean ====
section
/-! SUPPORT. How a property of the state passes through the gates that commands share: the reset, a message, a select window, the
Lease Manager's hold-back. Each lemma asks for the property only of what runs behind the gate. -/

namespace Sys2Proof.Machine

variable {P : State → Prop} {s : State}

/-- A property passes the reset. -/
theorem State.running_inv {f : State → State} (hs : P s) (hf : s.inReset = false → P (f s)) : P (s.running f) := by
  unfold State.running
  split
  · exact hs
  · exact hf (by simp_all)

/-- A property that does not look at the messages passes the taking of one. -/
theorem State.taking_inv {m : Instr} {f : State → State} (hfl : ∀ u l, P u → P (u.setInFlight l)) (hs : P s)
    (hf : ∀ u, P u → P (f u)) : P (s.taking m f) :=
  State.running_inv hs fun _ => by
    split
    · unfold State.await; split
      · exact hs
      · exact hfl _ _ hs
    · exact hf _ (hfl _ _ hs)

/-- A property that every port record may change under passes a select window. -/
theorem State.window_inv {p : Port} {b : List Byte} {act : State → State} (hp : ∀ u q f, P u → P (u.updPort q f))
    (hs : P s) (ha : ∀ u, P u → P (act u)) : P (s.window p b act) := by
  unfold State.window
  repeat' split
  all_goals first | exact hp _ _ _ hs | exact ha _ (hp _ _ _ hs)

/-- The formation of a response changes a port record alone. -/
theorem State.finish_inv {p : Port} {st : Status} {pl : List Byte} (hp : ∀ u q f, P u → P (u.updPort q f)) (hs : P s) :
    P (s.finish p st pl) := by
  unfold State.finish
  split
  · exact hs
  · exact hp _ _ _ hs

/-- A property that every port record may change under passes the taking of a frame. -/
theorem State.accept_inv {p : Port} {tag crc : Byte} {b : Bool} {own : State → State}
    (hp : ∀ u q f, P u → P (u.updPort q f)) (hs : P s) (ho : ∀ u, P u → P (own u)) : P (s.accept p tag crc b own) := by
  unfold State.accept State.takeRequest
  split
  · exact hp _ _ _ hs
  · dsimp only
    split
    · exact ho _ (hp _ _ _ hs)
    · exact State.finish_inv hp (hp _ _ _ hs)

/-- A property that every port record may change under passes a request as far as its owner's part keeps it. -/
theorem State.hostRequest_inv {i : Instr} {own : State → State} (hp : ∀ u q f, P u → P (u.updPort q f)) (hs : P s)
    (ho : ∀ u, P u → P (own u)) : P (s.hostRequest i own) := by
  unfold State.hostRequest
  split
  · exact hs
  · exact State.window_inv hp hs fun u hu => State.accept_inv hp hu ho

/-- A property passes a raw window as far as every owner's part keeps it. -/
theorem State.rawWindow_inv {p : Port} {b : List Byte} (hp : ∀ u q f, P u → P (u.updPort q f)) (hs : P s)
    (ho : ∀ i u, P u → P (ownerPart i u)) : P (s.rawWindow p b) := by
  refine State.window_inv hp hs fun u hu => ?_
  unfold State.actOn
  split
  · exact hu
  · exact hp _ _ _ hu
  · split
    · exact State.accept_inv hp hu fun v hv => State.finish_inv hp hv
    · exact State.accept_inv hp hu fun v hv => ho _ v hv

/-- A property passes a fold whose every step keeps it. -/
theorem foldl_inv {α : Type} {f : State → α → State} {l : List α} (hf : ∀ u a, P u → P (f u a)) (hs : P s) :
    P (l.foldl f s) := by
  induction l generalizing s with
  | nil => exact hs
  | cons a l ih => exact ih (hf _ _ hs)

/-- A taken completion answer changes run records and messages alone. -/
theorem State.completionDone_inv {c : Channel} (hfl : ∀ u l, P u → P (u.setInFlight l)) (hr : ∀ u t r, P u → P (u.setRun t r))
    (hs : P s) : P (s.completionDone c) := by
  unfold State.completionDone State.postHolder
  repeat' split
  all_goals first | exact hs | exact hr _ _ _ hs | exact hfl _ _ (hr _ _ _ hs)

/-- What the Staged Energize Unit does with a message of the Lease Manager changes run records and messages alone. -/
theorem stagedTake_inv {m : Instr} (hfl : ∀ u l, P u → P (u.setInFlight l)) (hr : ∀ u t r, P u → P (u.setRun t r))
    (hs : P s) : P (stagedTake m s) := by
  unfold stagedTake State.takeStart State.takeAdvanceAnswer State.takeFailureAnswer State.takeAbort
  repeat' split
  all_goals first
    | exact hs | exact State.completionDone_inv hfl hr hs | exact hr _ _ _ hs | exact hfl _ _ (hr _ _ _ hs)

/-- The start of a pass changes passes and messages alone. -/
theorem State.startPass_inv {t : Trunk} (hfl : ∀ u l, P u → P (u.setInFlight l)) (hq : ∀ u t f, P u → P (u.updPass t f))
    (hs : P s) : P (s.startPass t) := by
  unfold State.startPass State.offerHead
  repeat' split
  all_goals first | exact hfl _ _ (hq _ _ _ (hq _ _ _ hs)) | exact hq _ _ _ (hq _ _ _ hs)

/-- A service event changes passes and messages alone. -/
theorem State.takeServiceEvent_inv {t : Trunk} (hfl : ∀ u l, P u → P (u.setInFlight l))
    (hq : ∀ u t f, P u → P (u.updPass t f)) (hs : P s) : P (s.takeServiceEvent t) := by
  unfold State.takeServiceEvent
  split
  · exact hq _ _ _ hs
  · exact State.startPass_inv hfl hq hs

/-- What is taken so that a completion answer is in its turn changes run records, passes and messages alone. -/
theorem settleTake_inv {m : Instr} (hfl : ∀ u l, P u → P (u.setInFlight l)) (hr : ∀ u t r, P u → P (u.setRun t r))
    (hq : ∀ u t f, P u → P (u.updPass t f)) (hs : P s) : P (settleTake m s) := by
  unfold settleTake
  split
  · exact State.takeServiceEvent_inv hfl hq hs
  · exact stagedTake_inv hfl hr hs

/-- The settling of completion answers changes run records, passes and messages alone. -/
theorem State.settleCompletions_inv {i : Instr} (hfl : ∀ u l, P u → P (u.setInFlight l))
    (hr : ∀ u t r, P u → P (u.setRun t r)) (hq : ∀ u t f, P u → P (u.updPass t f)) (hs : P s) :
    P (s.settleCompletions i) :=
  foldl_inv (fun _ _ hu => settleTake_inv hfl hr hq (hfl _ _ hu)) hs

/-- A property that looks at neither messages, run records, passes nor what is held back passes the Lease Manager's gate. -/
theorem State.atLeaseManager_inv {i : Instr} {f : State → State} (hfl : ∀ u l, P u → P (u.setInFlight l))
    (hr : ∀ u t r, P u → P (u.setRun t r)) (hq : ∀ u t f, P u → P (u.updPass t f)) (hh : ∀ u l, P u → P (u.setHeldBack l))
    (hs : P s) (hf : ∀ u, P u → P (f u)) : P (s.atLeaseManager i f) := by
  unfold State.atLeaseManager
  split
  · exact hh _ _ hs
  · exact hf _ (State.settleCompletions_inv hfl hr hq hs)

/-- A property passes the release of what the Lease Manager holds back as far as its claims and requests keep it. -/
theorem State.releaseHeldBack_inv (hfl : ∀ u l, P u → P (u.setInFlight l)) (hr : ∀ u t r, P u → P (u.setRun t r))
    (hq : ∀ u t f, P u → P (u.updPass t f)) (hh : ∀ u l, P u → P (u.setHeldBack l)) (hs : P s) (ht : ∀ i u, P u → P (leaseTake i u)) : P s.releaseHeldBack := by
  refine foldl_inv (fun u i hu => ?_) (hh _ _ hs)
  unfold State.releaseOne
  split
  · exact hh _ _ hu
  · exact ht i _ (State.settleCompletions_inv hfl hr hq hu)

/-- A property passes the carrying out of direct writes as far as their owners keep it. -/
theorem State.carryOutWrites_inv (hfl : ∀ u l, P u → P (u.setInFlight l)) (hs : P s)
    (hw : ∀ i u, P u → P (writeTake i u)) : P s.carryOutWrites :=
  foldl_inv (fun _ i hu => hw i _ (hfl _ _ hu)) hs

/-- A property passes a Lease Manager request of a port. -/
theorem State.leaseCommand_inv {i : Instr} (hp : ∀ u q f, P u → P (u.updPort q f)) (hfl : ∀ u l, P u → P (u.setInFlight l))
    (hr : ∀ u t r, P u → P (u.setRun t r)) (hq : ∀ u t f, P u → P (u.updPass t f)) (hh : ∀ u l, P u → P (u.setHeldBack l))
    (hs : P s) (ht : ∀ u, P u → P (leaseTake i u)) : P (s.leaseCommand i) :=
  State.hostRequest_inv hp hs fun _ hu => State.atLeaseManager_inv hfl hr hq hh hu ht

/-- A property passes a claim of another block. -/
theorem State.claimCommand_inv {i : Instr} (hfl : ∀ u l, P u → P (u.setInFlight l)) (hr : ∀ u t r, P u → P (u.setRun t r))
    (hq : ∀ u t f, P u → P (u.updPass t f)) (hh : ∀ u l, P u → P (u.setHeldBack l)) (hs : P s)
    (ht : ∀ u, P u → P (leaseTake i u)) : P (s.claimCommand i) :=
  State.taking_inv hfl hs fun _ hu => State.atLeaseManager_inv hfl hr hq hh hu ht

end Sys2Proof.Machine
end

