-- ==== Sys2Proof/Laws/PerInstr.lean ====
section
/-! SUPPORT. A fact about every command as syntax, one lemma for each constructor: the payload of its request frame, where it has
one, fits the 24 bytes that a frame may carry (Table 11-1). -/

namespace Sys2Proof.Laws

/-- The payload of the command's request frame has at most 24 bytes. -/
def PayloadBound.Statement (i : Instr) : Prop := ∀ x, encodeRequest i = some x → x.2.2.length ≤ 24

/-- The bound, for all commands at once. -/
theorem payloadBound_all (i : Instr) : PayloadBound.Statement i := by
  intro x h
  cases i <;> simp only [encodeRequest, reduceCtorEq, Option.some.injEq] at h <;> subst h <;> simp [be16]
  · exact (encodeChannelBlock_length _).trans (by decide)
  · exact (encodeLineBlock_length _).trans (by decide)
  · exact (encodeProposeBlock_length _).trans (by decide)

theorem PayloadBound.powerOnReset : PayloadBound.Statement .powerOnReset := payloadBound_all _

theorem PayloadBound.nrstReset : PayloadBound.Statement .nrstReset := payloadBound_all _

theorem PayloadBound.resetRelease (selected : List Port) :
    PayloadBound.Statement (.resetRelease selected) :=
  payloadBound_all _

theorem PayloadBound.idleWindow (p : Port) (bytes : List Byte) :
    PayloadBound.Statement (.idleWindow p bytes) :=
  payloadBound_all _

theorem PayloadBound.turnaroundWindow (p : Port) (bytes : List Byte) :
    PayloadBound.Statement (.turnaroundWindow p bytes) :=
  payloadBound_all _

theorem PayloadBound.badFrame (p : Port) (bytes : List Byte) :
    PayloadBound.Statement (.badFrame p bytes) :=
  payloadBound_all _

theorem PayloadBound.replay (p : Port) (bytes : List Byte) :
    PayloadBound.Statement (.replay p bytes) :=
  payloadBound_all _

theorem PayloadBound.unknownCodeFrame (p : Port) (bytes : List Byte) :
    PayloadBound.Statement (.unknownCodeFrame p bytes) :=
  payloadBound_all _

theorem PayloadBound.responseReady (p : Port) (status : Status) (payload : List Byte) :
    PayloadBound.Statement (.responseReady p status payload) :=
  payloadBound_all _

theorem PayloadBound.openPort (r : Req) (period : Byte) :
    PayloadBound.Statement (.openPort r period) :=
  payloadBound_all _

theorem PayloadBound.closePort (r : Req) : PayloadBound.Statement (.closePort r) := payloadBound_all _

theorem PayloadBound.ping (r : Req) : PayloadBound.Statement (.ping r) := payloadBound_all _

theorem PayloadBound.readPort (r : Req) (port : Byte) : PayloadBound.Statement (.readPort r port) := payloadBound_all _

theorem PayloadBound.readIdent (r : Req) : PayloadBound.Statement (.readIdent r) := payloadBound_all _

theorem PayloadBound.readNotice (r : Req) : PayloadBound.Statement (.readNotice r) := payloadBound_all _

theorem PayloadBound.claim (r : Req) (channel : Byte) (current : BitVec 16) (priority : Byte) (policy : Byte) (successor : Byte) (wait : Byte) :
    PayloadBound.Statement (.claim r channel current priority policy successor wait) :=
  payloadBound_all _

theorem PayloadBound.release (r : Req) (channel : Byte) :
    PayloadBound.Statement (.release r channel) :=
  payloadBound_all _

theorem PayloadBound.adopt (r : Req) (channel : Byte) : PayloadBound.Statement (.adopt r channel) := payloadBound_all _

theorem PayloadBound.energize (r : Req) (channel : Byte) :
    PayloadBound.Statement (.energize r channel) :=
  payloadBound_all _

theorem PayloadBound.deEnergize (r : Req) (channel : Byte) :
    PayloadBound.Statement (.deEnergize r channel) :=
  payloadBound_all _

theorem PayloadBound.clearFault (r : Req) (channel : Byte) :
    PayloadBound.Statement (.clearFault r channel) :=
  payloadBound_all _

theorem PayloadBound.restate (r : Req) (channel : Byte) (current : BitVec 16) :
    PayloadBound.Statement (.restate r channel current) :=
  payloadBound_all _

theorem PayloadBound.readChannel (r : Req) (channel : Byte) :
    PayloadBound.Statement (.readChannel r channel) :=
  payloadBound_all _

theorem PayloadBound.trunkClear (r : Req) (trunk : Byte) :
    PayloadBound.Statement (.trunkClear r trunk) :=
  payloadBound_all _

theorem PayloadBound.readTrunk (r : Req) (trunk : Byte) :
    PayloadBound.Statement (.readTrunk r trunk) :=
  payloadBound_all _

theorem PayloadBound.trunkProfileWrite (r : Req) (b : TrunkBlock) :
    PayloadBound.Statement (.trunkProfileWrite r b) :=
  payloadBound_all _

theorem PayloadBound.channelProfileWrite (r : Req) (b : ChannelBlock) :
    PayloadBound.Statement (.channelProfileWrite r b) :=
  payloadBound_all _

theorem PayloadBound.lineBindingWrite (r : Req) (b : LineBlock) :
    PayloadBound.Statement (.lineBindingWrite r b) :=
  payloadBound_all _

theorem PayloadBound.closeCommissioning (r : Req) :
    PayloadBound.Statement (.closeCommissioning r) :=
  payloadBound_all _

theorem PayloadBound.propose (r : Req) (b : ProposeBlock) : PayloadBound.Statement (.propose r b) := payloadBound_all _

theorem PayloadBound.concur (r : Req) (number : BitVec 16) :
    PayloadBound.Statement (.concur r number) :=
  payloadBound_all _

theorem PayloadBound.withdraw (r : Req) (number : BitVec 16) :
    PayloadBound.Statement (.withdraw r number) :=
  payloadBound_all _

theorem PayloadBound.readProposal (r : Req) : PayloadBound.Statement (.readProposal r) := payloadBound_all _

theorem PayloadBound.supervisionExpiry (p : Port) : PayloadBound.Statement (.supervisionExpiry p) := payloadBound_all _

theorem PayloadBound.openClaim (p : Port) (epoch : BitVec 16) :
    PayloadBound.Statement (.openClaim p epoch) :=
  payloadBound_all _

theorem PayloadBound.lapseClaim (p : Port) : PayloadBound.Statement (.lapseClaim p) := payloadBound_all _

theorem PayloadBound.closeClaim (p : Port) : PayloadBound.Statement (.closeClaim p) := payloadBound_all _

theorem PayloadBound.sessionReport (p : Port) (change : SessionChange) :
    PayloadBound.Statement (.sessionReport p change) :=
  payloadBound_all _

theorem PayloadBound.windowTimerExpiry : PayloadBound.Statement .windowTimerExpiry := payloadBound_all _

theorem PayloadBound.applyAnswer (taken : Bool) : PayloadBound.Statement (.applyAnswer taken) := payloadBound_all _

theorem PayloadBound.trunkProfileClaim (o : Origin) (t : Trunk) (new : TrunkProfile) :
    PayloadBound.Statement (.trunkProfileClaim o t new) :=
  payloadBound_all _

theorem PayloadBound.channelProfileClaim (o : Origin) (c : Channel) (new : ChannelProfile) :
    PayloadBound.Statement (.channelProfileClaim o c new) :=
  payloadBound_all _

theorem PayloadBound.bindingClaim (o : Origin) (l : Line) (new : Binding) :
    PayloadBound.Statement (.bindingClaim o l new) :=
  payloadBound_all _

theorem PayloadBound.lockoutReleaseClaim (c : Channel) :
    PayloadBound.Statement (.lockoutReleaseClaim c) :=
  payloadBound_all _

theorem PayloadBound.servicePhaseReport : PayloadBound.Statement .servicePhaseReport := payloadBound_all _

theorem PayloadBound.budgetIntervalExpiry (t : Trunk) :
    PayloadBound.Statement (.budgetIntervalExpiry t) :=
  payloadBound_all _

theorem PayloadBound.shedIntervalExpiry (t : Trunk) :
    PayloadBound.Statement (.shedIntervalExpiry t) :=
  payloadBound_all _

theorem PayloadBound.shedClaim (t : Trunk) (c : Channel) :
    PayloadBound.Statement (.shedClaim t c) :=
  payloadBound_all _

theorem PayloadBound.shedAnswer (t : Trunk) (c : Channel) (taken : Bool) :
    PayloadBound.Statement (.shedAnswer t c taken) :=
  payloadBound_all _

theorem PayloadBound.tripClaim (t : Trunk) (c : Channel) (heat : Nat) (confirmation : Bool) :
    PayloadBound.Statement (.tripClaim t c heat confirmation) :=
  payloadBound_all _

theorem PayloadBound.tripClaimAnswer (t : Trunk) (c : Channel) (heat : Nat) (confirmation : Bool) (taken : Bool) :
    PayloadBound.Statement (.tripClaimAnswer t c heat confirmation taken) :=
  payloadBound_all _

theorem PayloadBound.admissionClaim (pass : Bool) (t : Trunk) (c : Channel) (need : Nat) (staged : Bool) :
    PayloadBound.Statement (.admissionClaim pass t c need staged) :=
  payloadBound_all _

theorem PayloadBound.returnClaim (c : Channel) : PayloadBound.Statement (.returnClaim c) := payloadBound_all _

theorem PayloadBound.completionLowering (c : Channel) :
    PayloadBound.Statement (.completionLowering c) :=
  payloadBound_all _

theorem PayloadBound.restatedReservation (c : Channel) (old : Nat) (new : Nat) :
    PayloadBound.Statement (.restatedReservation c old new) :=
  payloadBound_all _

theorem PayloadBound.admissionConfirmation (t : Trunk) (c : Channel) :
    PayloadBound.Statement (.admissionConfirmation t c) :=
  payloadBound_all _

theorem PayloadBound.lineEnergize (c : Channel) (holder : Holder) (resumed : Bool) :
    PayloadBound.Statement (.lineEnergize c holder resumed) :=
  payloadBound_all _

theorem PayloadBound.arrivalAdmissionAnswer (t : Trunk) (c : Channel) (need : Nat) (refusal : Option AdmissionRefusal) :
    PayloadBound.Statement (.arrivalAdmissionAnswer t c need refusal) :=
  payloadBound_all _

theorem PayloadBound.queueEntryClaim (c : Channel) (found : Found) :
    PayloadBound.Statement (.queueEntryClaim c found) :=
  payloadBound_all _

theorem PayloadBound.queueEntryAnswer (c : Channel) (left : ChanState) (ahead : Option Nat) :
    PayloadBound.Statement (.queueEntryAnswer c left ahead) :=
  payloadBound_all _

theorem PayloadBound.withholdClaim (c : Channel) (found : Found) :
    PayloadBound.Statement (.withholdClaim c found) :=
  payloadBound_all _

theorem PayloadBound.admitClaim (t : Trunk) (c : Channel) (found : Found) (stamp : BitVec 32) (need : Nat) :
    PayloadBound.Statement (.admitClaim t c found stamp need) :=
  payloadBound_all _

theorem PayloadBound.admitClaimAnswer (t : Trunk) (c : Channel) (found : Found) (need : Nat) (left : ChanState) (taken : Bool) :
    PayloadBound.Statement (.admitClaimAnswer t c found need left taken) :=
  payloadBound_all _

theorem PayloadBound.serviceEvent (t : Trunk) : PayloadBound.Statement (.serviceEvent t) := payloadBound_all _

theorem PayloadBound.passAdmissionAnswer (t : Trunk) (c : Channel) (need : Nat) (refusal : Option AdmissionRefusal) :
    PayloadBound.Statement (.passAdmissionAnswer t c need refusal) :=
  payloadBound_all _

theorem PayloadBound.removalClaim (c : Channel) : PayloadBound.Statement (.removalClaim c) := payloadBound_all _

theorem PayloadBound.waitLimitExpiry (c : Channel) : PayloadBound.Statement (.waitLimitExpiry c) := payloadBound_all _

theorem PayloadBound.waitExpiryClaim (c : Channel) : PayloadBound.Statement (.waitExpiryClaim c) := payloadBound_all _

theorem PayloadBound.queueFlush (t : Trunk) (heat : Nat) :
    PayloadBound.Statement (.queueFlush t heat) :=
  payloadBound_all _

theorem PayloadBound.flushClaim (c : Channel) (heat : Nat) :
    PayloadBound.Statement (.flushClaim c heat) :=
  payloadBound_all _

theorem PayloadBound.start (c : Channel) : PayloadBound.Statement (.start c) := payloadBound_all _

theorem PayloadBound.probePeriodExpiry (t : Trunk) :
    PayloadBound.Statement (.probePeriodExpiry t) :=
  payloadBound_all _

theorem PayloadBound.advanceClaim (c : Channel) : PayloadBound.Statement (.advanceClaim c) := payloadBound_all _

theorem PayloadBound.advanceAnswer (c : Channel) (taken : Bool) :
    PayloadBound.Statement (.advanceAnswer c taken) :=
  payloadBound_all _

theorem PayloadBound.fillPeriodExpiry (t : Trunk) : PayloadBound.Statement (.fillPeriodExpiry t) := payloadBound_all _

theorem PayloadBound.outputVoltageSample (c : Channel) (vout : Nat) :
    PayloadBound.Statement (.outputVoltageSample c vout) :=
  payloadBound_all _

theorem PayloadBound.fillTimerExpiry (t : Trunk) : PayloadBound.Statement (.fillTimerExpiry t) := payloadBound_all _

theorem PayloadBound.completionClaim (c : Channel) : PayloadBound.Statement (.completionClaim c) := payloadBound_all _

theorem PayloadBound.completionAnswer (c : Channel) (taken : Bool) :
    PayloadBound.Statement (.completionAnswer c taken) :=
  payloadBound_all _

theorem PayloadBound.prechargeFailureClaim (c : Channel) (cause : FaultCause) :
    PayloadBound.Statement (.prechargeFailureClaim c cause) :=
  payloadBound_all _

theorem PayloadBound.failureAnswer (c : Channel) (taken : Bool) :
    PayloadBound.Statement (.failureAnswer c taken) :=
  payloadBound_all _

theorem PayloadBound.abort (c : Channel) : PayloadBound.Statement (.abort c) := payloadBound_all _

theorem PayloadBound.pulseCommand (c : Channel) (onTime : Nat) :
    PayloadBound.Statement (.pulseCommand c onTime) :=
  payloadBound_all _

theorem PayloadBound.pulseEnd (c : Channel) (vo : Int) : PayloadBound.Statement (.pulseEnd c vo) := payloadBound_all _

theorem PayloadBound.currentSample (sensed : Vector (List Int) 12) :
    PayloadBound.Statement (.currentSample sensed) :=
  payloadBound_all _

theorem PayloadBound.sampleInstant (vo : Vector Int 12) (vf : Vector Int 3) :
    PayloadBound.Statement (.sampleInstant vo vf) :=
  payloadBound_all _

theorem PayloadBound.shortDetection (c : Channel) (current : Nat) :
    PayloadBound.Statement (.shortDetection c current) :=
  payloadBound_all _

theorem PayloadBound.shortDetectionTaken (c : Channel) :
    PayloadBound.Statement (.shortDetectionTaken c) :=
  payloadBound_all _

theorem PayloadBound.onStableExpiry (c : Channel) : PayloadBound.Statement (.onStableExpiry c) := payloadBound_all _

theorem PayloadBound.rawLevelChange (l : Line) (high : Bool) :
    PayloadBound.Statement (.rawLevelChange l high) :=
  payloadBound_all _

theorem PayloadBound.debounceExpiry (l : Line) : PayloadBound.Statement (.debounceExpiry l) := payloadBound_all _

theorem PayloadBound.lineClaim (l : Line) (c : Channel) (current : Nat) (priority : Nat) :
    PayloadBound.Statement (.lineClaim l c current priority) :=
  payloadBound_all _

theorem PayloadBound.lineRelease (l : Line) (c : Channel) :
    PayloadBound.Statement (.lineRelease l c) :=
  payloadBound_all _

theorem PayloadBound.lineClaimAnswer (l : Line) (kind : LineClaimKind) (taken : Bool) :
    PayloadBound.Statement (.lineClaimAnswer l kind taken) :=
  payloadBound_all _

theorem PayloadBound.inhibitClaim (l : Line) (c : Channel) :
    PayloadBound.Statement (.inhibitClaim l c) :=
  payloadBound_all _

theorem PayloadBound.resumeClaim (l : Line) (c : Channel) :
    PayloadBound.Statement (.resumeClaim l c) :=
  payloadBound_all _

theorem PayloadBound.lineEnergizeResponse (c : Channel) (resumed : Bool) (status : Status) (state : ChanState) :
    PayloadBound.Statement (.lineEnergizeResponse c resumed status state) :=
  payloadBound_all _

theorem PayloadBound.freeReport (c : Channel) : PayloadBound.Statement (.freeReport c) := payloadBound_all _

theorem PayloadBound.lineLeaseEnded (l : Line) : PayloadBound.Statement (.lineLeaseEnded l) := payloadBound_all _

theorem PayloadBound.noticeCopyTaken (sender : Block) (p : Port) (n : Notice) :
    PayloadBound.Statement (.noticeCopyTaken sender p n) :=
  payloadBound_all _

theorem PayloadBound.restatedReservationAnswer (c : Channel) (taken : Bool) :
    PayloadBound.Statement (.restatedReservationAnswer c taken) :=
  payloadBound_all _

theorem PayloadBound.withholdAnswer (c : Channel) (left : ChanState) (taken : Bool) :
    PayloadBound.Statement (.withholdAnswer c left taken) :=
  payloadBound_all _

end Sys2Proof.Laws
end

