-- ==== Sys2Proof/Laws/Settling.lean ====
section
/-! SUPPORT. What is taken before a claim or request is judged, said once: the completion answers that the Lease Manager waits for, and
before the Configuration Unit's judgement the session reports of the port and the writes in flight; each is taken in its turn. -/

namespace Sys2Proof.Machine

open Sys2Proof.Safety

/-- The messages that precede another are those that are taken before it. -/
theorem State.precedes_iff (s : State) (x m : Instr) : s.precedes x m = true ↔ TakenBefore s x m := by
  have he : s.eventBefore x m = true ↔ ∃ t c, x = .serviceEvent t ∧ m = .abort c
      ∧ ((∃ r, s.run t = some r ∧ r.channel = c) ∨ (s.chan c).trunk = some t) := by
    unfold State.eventBefore
    split
    · rename_i c
      simp only [List.any_eq_true, List.mem_finRange, true_and, Bool.and_eq_true, decide_eq_true_eq, State.runsOn, Bool.or_eq_true,
        Option.map_eq_some_iff, Instr.abort.injEq]
      exact ⟨fun ⟨t, h1, h2⟩ => ⟨t, c, h1, rfl, h2⟩, fun ⟨t, _, h1, h2, h3⟩ => ⟨t, h1, h2 ▸ h3⟩⟩
    · rename_i h
      exact ⟨fun h => absurd h Bool.false_ne_true, fun ⟨_, c, _, h1, _⟩ => absurd h1 (h c)⟩
  unfold State.precedes TakenBefore
  rw [Bool.or_eq_true, he, Bool.and_eq_true, decide_eq_true_eq, Option.isSome_iff_ne_none]

/-- A message that a claim or request waits for, of those that are listed. -/
def State.waitedFor (s : State) (i m : Instr) (later : List Instr) : Bool :=
  s.completionDue i m || later.any (s.precedes m)

/-- A taken completion answer of a channel that a claim or request concerns. -/
theorem State.completionDue_iff (s : State) (i m : Instr) :
    s.completionDue i m = true ↔ ∃ c, m = .completionAnswer c true ∧ Concerns s i c := by
  unfold State.completionDue
  split
  · rename_i c; rw [State.concerns_iff]
    exact ⟨fun h => ⟨c, rfl, h⟩, fun ⟨d, h, h1⟩ => by cases h; exact h1⟩
  · rename_i h
    exact ⟨fun h => absurd h Bool.false_ne_true, fun ⟨c, h1, _⟩ => absurd h1 (h c)⟩

/-- The messages that a claim or request waits for, from the oldest. -/
def State.firstOf (s : State) (i : Instr) : List Instr → List Instr
  | [] => []
  | m :: rest => if s.waitedFor i m (s.firstOf i rest) then m :: s.firstOf i rest else s.firstOf i rest

/-- They are those of `TakenFirst`. -/
theorem takenFirst_iff (s : State) (i : Instr) (l first : List Instr) : TakenFirst s i l first ↔ first = s.firstOf i l := by
  induction l generalizing first with
  | nil => rfl
  | cons m rest ih =>
    have hw : ∀ later, ((∃ c, m = .completionAnswer c true ∧ Concerns s i c) ∨ ∃ x ∈ later, TakenBefore s m x)
        ↔ s.waitedFor i m later = true := fun later => by
      rw [State.waitedFor, Bool.or_eq_true, State.completionDue_iff, List.any_eq_true]
      simp only [State.precedes_iff]
    simp only [TakenFirst, ih, exists_eq_left, hw, State.firstOf]
    split <;> simp_all

/-- A list up to its last member that meets a test, from its head. -/
theorem upToLast_cons (p : Instr → Bool) (m : Instr) (l : List Instr) :
    upToLast p (m :: l) = if l.any p then m :: upToLast p l else if p m then [m] else [] := by
  unfold upToLast
  rw [List.reverse_cons, List.dropWhile_append]
  by_cases h : l.any p
  · have : (l.reverse.dropWhile fun m => !p m).isEmpty = false := by
      rw [List.isEmpty_eq_false_iff, ne_eq, List.dropWhile_eq_nil_iff]
      intro hn
      obtain ⟨x, hx, hp⟩ := List.any_eq_true.1 h
      simpa [hp] using hn x (List.mem_reverse.2 hx)
    simp [this, h]
  · have : l.reverse.dropWhile (fun m => !p m) = [] := by
      rw [List.dropWhile_eq_nil_iff]
      intro x hx
      have := List.any_eq_true.not.1 h
      simp only [not_exists, not_and] at this
      simpa using this x (List.mem_reverse.1 hx)
    simp only [this, List.isEmpty_nil, if_true, h]
    cases hp : p m <;> simp [hp]

/-- Where no completion answer is due nothing is waited for. -/
theorem State.firstOf_nil (s : State) (i : Instr) (l : List Instr) (h : ¬ l.any (s.completionDue i) = true) :
    s.firstOf i l = [] := by
  induction l with
  | nil => rfl
  | cons m rest ih =>
    rw [List.any_cons, Bool.or_eq_true, not_or] at h
    simp [State.firstOf, State.waitedFor, ih h.2, h.1]

/-- A completion answer that is due is waited for. -/
theorem State.firstOf_due (s : State) (i : Instr) (l : List Instr) (h : l.any (s.completionDue i) = true) :
    ∃ x ∈ s.firstOf i l, s.completionDue i x = true := by
  induction l with
  | nil => cases h
  | cons m rest ih =>
    rw [List.any_cons, Bool.or_eq_true] at h
    unfold State.firstOf
    by_cases hd : s.completionDue i m = true
    · exact ⟨m, by simp [State.waitedFor, hd], hd⟩
    · obtain ⟨x, hx, hd⟩ := ih (h.resolve_left hd)
      exact ⟨x, by split <;> simp [hx], hd⟩

/-- What a claim or request waits for is what the model settles. -/
theorem State.needed_eq (s : State) (i : Instr) (l : List Instr) :
    s.needed (upToLast (s.completionDue i) l) = s.firstOf i l := by
  induction l with
  | nil => rfl
  | cons m rest ih =>
    rw [upToLast_cons]
    by_cases h : rest.any (s.completionDue i) = true
    · rw [if_pos h]
      show (if _ then _ else _) = _
      change (if (s.needed (upToLast (s.completionDue i) rest)).isEmpty
          || (s.needed (upToLast (s.completionDue i) rest)).any (s.precedes m)
        then m :: s.needed (upToLast (s.completionDue i) rest) else s.needed (upToLast (s.completionDue i) rest)) = _
      rw [ih, State.firstOf]
      obtain ⟨x, hx, hd⟩ := s.firstOf_due i rest h
      have hne : (s.firstOf i rest).isEmpty = false := by
        rw [List.isEmpty_eq_false_iff]; exact List.ne_nil_of_mem hx
      have : s.completionDue i m = true → (s.firstOf i rest).any (s.precedes m) = true := fun hm => by
        obtain ⟨c, rfl, _⟩ := (s.completionDue_iff i m).1 hm
        obtain ⟨d, rfl, _⟩ := (s.completionDue_iff i x).1 hd
        exact List.any_eq_true.2 ⟨_, hx, by simp [State.precedes, stream]⟩
      rw [hne, Bool.false_or, State.waitedFor]
      by_cases hm : s.completionDue i m = true
      · simp [hm, this hm]
      · simp [hm]
    · rw [if_neg h, State.firstOf, s.firstOf_nil i rest h]
      by_cases hm : s.completionDue i m = true
      · simp [State.needed, State.waitedFor, hm]
      · simp [State.needed, State.waitedFor, hm]

/-- A message that is taken so that a completion answer is in its turn: one for the Staged Energize Unit, or a service event. -/
def settles (m : Instr) : Prop := stream m = some .leaseManager ∨ ∃ t, m = .serviceEvent t

/-- What precedes one is one. -/
theorem settles_of_precedes {s : State} {x m : Instr} (hm : settles m) (h : s.precedes x m = true) : settles x := by
  rw [State.precedes_iff] at h
  rcases h with ⟨h1, h2⟩ | ⟨t, c, rfl, _⟩
  · rcases hm with h3 | ⟨t, rfl⟩
    · exact .inl (h2.trans h3)
    · exact absurd rfl h1
  · exact .inr ⟨t, rfl⟩

/-- What a claim or request waits for settles. -/
theorem State.firstOf_settles (s : State) (i : Instr) (l : List Instr) : ∀ m ∈ s.firstOf i l, settles m := by
  induction l with
  | nil => intro m hm; cases hm
  | cons m rest ih =>
    unfold State.firstOf
    split
    · rename_i h
      intro x hx
      rcases List.mem_cons.1 hx with rfl | hx
      · rw [State.waitedFor, Bool.or_eq_true] at h
        rcases h with h | h
        · obtain ⟨c, rfl, _⟩ := (s.completionDue_iff i x).1 h
          exact .inl rfl
        · obtain ⟨y, hy, hp⟩ := List.any_eq_true.1 h
          exact settles_of_precedes (ih y hy) hp
      · exact ih x hx
    · exact ih

/-- The taking of a settling message. -/
theorem exec_settles (m : Instr) (u : State) (hm : settles m) (h : u.inReset = false) (ht : InTurn u m) :
    exec m u = .next (settleTake m (u.arrive m)) := by
  rcases hm with hm | ⟨t, rfl⟩
  · cases m <;> simp only [stream, reduceCtorEq, Option.some.injEq] at hm
    · exact congrArg _ (State.taking_run _ _ _ h ht)
    · exact congrArg _ (State.taking_run _ _ _ h ht)
    · exact congrArg _ (State.taking_run _ _ _ h ht)
    · exact congrArg _ (State.taking_run _ _ _ h ht)
    · exact congrArg _ (State.taking_run _ _ _ h ht)
  · exact congrArg _ (State.taking_run _ _ _ h ht)

/-- It sends messages behind those in flight. -/
theorem settleTake_sends (m : Instr) (u : State) : ∃ l, (settleTake m u).inFlight = u.inFlight ++ l := by
  unfold settleTake State.takeServiceEvent State.startPass State.offerHead stagedTake State.takeStart
    State.takeAdvanceAnswer State.completionDone State.takeFailureAnswer State.takeAbort State.postHolder
  repeat' split
  all_goals first
    | exact ⟨[], (List.append_nil _).symm⟩
    | exact ⟨_, rfl⟩

/-- The trunk found for a channel's run is one whose record names the channel. -/
theorem State.runTrunk_some {s : State} {c : Channel} {t : Trunk} (h : s.runTrunk c = some t) :
    (s.run t).map (·.channel) = some c := by
  simpa using List.find?_some h

/-- A message sent leaves it. -/
theorem State.send_runsOn (v : State) (m : Instr) (t : Trunk) (c : Channel) : (v.send m).runsOn t c = v.runsOn t c := rfl

/-- A run record filled for a channel of the trunk, or for the one that it names, or emptied. -/
theorem State.setRun_runsOn {u : State} {k : Trunk} {r : Option Run}
    (hr : ∀ x, r = some x → u.runsOn k x.channel = true) {t : Trunk} {c : Channel} (h : (u.setRun k r).runsOn t c = true) :
    u.runsOn t c = true := by
  rw [State.runsOn, Bool.or_eq_true, decide_eq_true_eq, decide_eq_true_eq] at h
  by_cases e : t = k
  · subst e
    rcases h with h | h
    · rw [State.setRun_self, Option.map_eq_some_iff] at h
      obtain ⟨x, rfl, rfl⟩ := h
      exact hr x rfl
    · simp [State.runsOn, show (u.chan c).trunk = some t from h]
  · rcases h with h | h
    · rw [State.setRun_ne _ _ _ _ e] at h
      simp [State.runsOn, h]
    · simp [State.runsOn, show (u.chan c).trunk = some t from h]

/-- No settling message gives a trunk's run record a channel that was neither there nor on that trunk. -/
theorem settleTake_runsOn (m : Instr) (u : State) (t : Trunk) (c : Channel) (h : (settleTake m u).runsOn t c = true) :
    u.runsOn t c = true := by
  have congr : ∀ v w : State, v.runs = w.runs → v.channels = w.channels → v.runsOn t c = w.runsOn t c := fun v w h1 h2 => by
    unfold State.runsOn State.run State.chan; rw [h1, h2]
  have hrun : ∀ {d k}, u.runTrunk d = some k → u.runsOn k d = true := fun h => by
    simp [State.runsOn, State.runTrunk_some h]
  revert h
  unfold settleTake
  split
  · exact fun h => (congr _ _ (by simp) (by simp)).symm.trans h
  · unfold stagedTake State.takeStart State.takeAdvanceAnswer State.completionDone State.takeFailureAnswer State.takeAbort
      State.postHolder State.post
    repeat' split
    all_goals
      intro h
      try rw [State.send_runsOn] at h
      first
        | exact h
        | exact State.setRun_runsOn (r := none) (fun _ h => nomatch h) h
        | (refine State.setRun_runsOn ?_ h
           rintro _ ⟨⟩
           first
             | exact hrun ‹u.runTrunk _ = some _›
             | (unfold State.runsOn; rw [‹(u.chan _).trunk = some _›]; simp))

/-- What a claim or request waits for is taken each in its turn. -/
theorem settle_inTurn (s : State) (i : Instr) (l skipped extra : List Instr) (u : State) (h0 : u.inReset = false)
    (hu : u.inFlight = skipped ++ l ++ extra) (hs : ∀ x ∈ skipped, ∀ m ∈ s.firstOf i l, s.precedes x m = false)
    (hd : ∀ x ∈ skipped, s.completionDue i x = false)
    (hp : ∀ t c, u.runsOn t c = true → s.runsOn t c = true) :
    TakenInTurn (s.firstOf i l) u ((s.firstOf i l).foldl (fun s m => settleTake m (s.arrive m)) u) := by
  induction l generalizing skipped extra u with
  | nil => rfl
  | cons m rest ih =>
    have hpre : ∀ x y, u.precedes x y = true → s.precedes x y = true := fun x y h => by
      unfold State.precedes State.eventBefore at h ⊢
      rw [Bool.or_eq_true] at h ⊢
      refine h.imp id fun h => ?_
      split at h
      · obtain ⟨t, ht, h1⟩ := List.any_eq_true.1 h
        rw [Bool.and_eq_true] at h1
        exact List.any_eq_true.2 ⟨t, ht, by rw [Bool.and_eq_true]; exact ⟨h1.1, hp _ _ h1.2⟩⟩
      · cases h
    by_cases hw : s.waitedFor i m (s.firstOf i rest) = true
    · rw [State.firstOf, if_pos hw] at hs ⊢
      have hm : settles m := s.firstOf_settles i (m :: rest) m (by rw [State.firstOf, if_pos hw]; exact List.mem_cons_self)
      have hns : m ∉ skipped := fun hmem => by
        rw [State.waitedFor, hd m hmem, Bool.false_or] at hw
        obtain ⟨x, hx, h1⟩ := List.any_eq_true.1 hw
        rw [hs m hmem x (List.mem_cons_of_mem _ hx)] at h1
        cases h1
      have hturn : InTurn u m := by
        unfold InTurn State.outOfTurn
        have : (u.inFlight.takeWhile fun x => decide (x ≠ m)) = skipped := by
          rw [hu, List.append_assoc, List.takeWhile_append_of_pos (fun x hx => by
            simp only [ne_eq, decide_not, Bool.not_eq_true', decide_eq_false_iff_not]; rintro rfl; exact hns hx)]
          simp
        rw [this, List.any_eq_false]
        intro x hx h
        exact absurd (hpre x m h) (by rw [hs x hx m List.mem_cons_self]; exact Bool.false_ne_true)
      refine ⟨hturn, _, exec_settles m u hm h0 hturn, ?_⟩
      obtain ⟨sent, hsent⟩ := settleTake_sends m (u.arrive m)
      refine ih skipped (extra ++ sent) _ (by simp [h0]) ?_ (fun x hx y hy => hs x hx y (List.mem_cons_of_mem _ hy)) hd
        fun t c h => hp t c (settleTake_runsOn m (u.arrive m) t c h)
      rw [hsent]
      show u.inFlight.erase m ++ sent = _
      rw [hu, List.append_assoc, List.erase_append_right _ hns]
      simp
    · rw [State.firstOf, if_neg hw] at hs ⊢
      rw [State.waitedFor, Bool.or_eq_true, not_or] at hw
      refine ih (skipped ++ [m]) extra u h0 (by simpa using hu) ?_ ?_ hp
      · intro x hx y hy
        rcases List.mem_append.1 hx with hx | hx
        · exact hs x hx y hy
        · cases List.mem_singleton.1 hx
          exact Bool.eq_false_iff.2 fun h => hw.2 (List.any_eq_true.2 ⟨y, hy, h⟩)
      · intro x hx
        rcases List.mem_append.1 hx with hx | hx
        · exact hd x hx
        · cases List.mem_singleton.1 hx
          exact Bool.eq_false_iff.2 hw.1

/-- What a claim or request waits for looks at the channel and run records alone. -/
theorem takenFirst_congr {s u : State} (h : u.channels = s.channels) (hr : u.runs = s.runs) (i : Instr) (l first : List Instr) :
    TakenFirst u i l first ↔ TakenFirst s i l first := by
  have h1 : u.completionDue i = s.completionDue i := by
    funext m; apply Bool.eq_iff_iff.2; rw [State.completionDue_iff, State.completionDue_iff]; simp only [concerns_congr h]
  have h2 : u.precedes = s.precedes := by
    unfold State.precedes State.eventBefore State.runsOn State.run State.chan; rw [h, hr]
  have h3 : u.waitedFor i = s.waitedFor i := by unfold State.waitedFor; rw [h1, h2]
  have h4 : u.firstOf i l = s.firstOf i l := by
    induction l with
    | nil => rfl
    | cons m rest ih => rw [State.firstOf, State.firstOf, ih, h3]
  rw [takenFirst_iff, takenFirst_iff, h4]

/-- The settling of completion answers: the messages that the claim or request waits for are taken, each in its turn (R77,
R87, R88, R169). -/
theorem State.settleCompletions_inTurn (s : State) (i : Instr) (first : List Instr) (h0 : s.inReset = false)
    (h : TakenFirst s i s.inFlight first) : TakenInTurn first s (s.settleCompletions i) := by
  rw [takenFirst_iff] at h
  subst h
  rw [State.settleCompletions, State.needed_eq]
  exact settle_inTurn s i s.inFlight [] [] s h0 (by simp) (by simp) (by simp) fun _ _ => id

/-! ### What a request of the Configuration Unit is judged behind -/

/-- A session report taken sends notices behind what is in flight, and no report. -/
theorem State.takeSessionReport_sends (s : State) (p : Port) (x : SessionChange) :
    ∃ l, (s.takeSessionReport p x).inFlight = s.inFlight ++ l ∧ ∀ m ∈ l, ∀ q y, m ≠ .sessionReport q y := by
  have posts : ∀ (l : List Port) (n : Notice) (u : State),
      ∃ k, (l.foldl (fun s p => s.post .configurationUnit p n) u).inFlight = u.inFlight ++ k
        ∧ ∀ m ∈ k, ∀ q y, m ≠ .sessionReport q y := by
    intro l n
    induction l with
    | nil => exact fun u => ⟨[], by simp⟩
    | cons a r ih =>
      intro u
      obtain ⟨k, h1, h2⟩ := ih (u.post .configurationUnit a n)
      refine ⟨.noticeCopyTaken .configurationUnit a n :: k, ?_, ?_⟩
      · rw [List.foldl_cons, h1]; simp [State.post, State.send]
      · rintro m (_ | ⟨_, hm⟩) q y h
        · cases h
        · exact h2 m hm q y h
  unfold State.takeSessionReport
  have base : ∀ u : State, u.inFlight = s.inFlight →
      ∃ l, u.inFlight = s.inFlight ++ l ∧ ∀ m ∈ l, ∀ q y, m ≠ .sessionReport q y :=
    fun u h => ⟨[], by simp [h], by simp⟩
  dsimp only
  split
  · split
    · unfold State.withdrawSlot State.postOthers
      obtain ⟨k, h1, h2⟩ := posts _ _ _
      exact ⟨k, h1, h2⟩
    · exact base _ rfl
  · exact base _ rfl

/-- The reports of a port that are in flight are taken each in its turn, and none is left. -/
theorem drainReports_inTurn_from (p : Port) (l skipped extra : List Instr) (u : State) (h0 : u.inReset = false)
    (hu : u.inFlight = skipped ++ l ++ extra) (hs : ∀ m ∈ skipped ++ extra, isReportOf p m = false) :
    let v := (l.filterMap (reportOf p)).foldl (fun s change => (s.arrive (.sessionReport p change)).takeSessionReport p change) u
    TakenInTurn (l.filter (isReportOf p)) u v ∧ NoReports v p := by
  induction l generalizing skipped extra u with
  | nil =>
    refine ⟨rfl, fun x hx => ?_⟩
    have := hs _ (by simpa [hu] using hx)
    simp [isReportOf] at this
  | cons m rest ih =>
    by_cases h : isReportOf p m = true
    · obtain ⟨x, rfl⟩ : ∃ x, m = .sessionReport p x := by
        unfold isReportOf at h; split at h
        · exact ⟨_, by rw [of_decide_eq_true h]⟩
        · cases h
      have hns : Instr.sessionReport p x ∉ skipped := fun hm => by
        have := hs _ (List.mem_append_left _ hm); rw [h] at this; cases this
      have hturn : InTurn u (.sessionReport p x) := by
        unfold InTurn State.outOfTurn
        have : (u.inFlight.takeWhile fun y => decide (y ≠ .sessionReport p x)) = skipped := by
          rw [hu, List.append_assoc, List.takeWhile_append_of_pos (fun y hy => by
            simp only [ne_eq, decide_not, Bool.not_eq_true', decide_eq_false_iff_not]; rintro rfl; exact hns hy)]
          simp
        rw [this, List.any_eq_false]
        intro y hy hc
        have hy' := hs y (List.mem_append_left _ hy)
        rw [State.precedes_stream _ _ _ (by intro c h; cases h)] at hc
        simp only [stream, Option.isSome_some, Bool.true_and] at hc
        cases y <;> simp at hc
        subst hc; simp [isReportOf] at hy'
      obtain ⟨k, hk, hk2⟩ := State.takeSessionReport_sends (u.arrive (.sessionReport p x)) p x
      have hr : ((Instr.sessionReport p x :: rest).filterMap (reportOf p)) = x :: rest.filterMap (reportOf p) := by simp [reportOf]
      rw [hr, List.filter_cons_of_pos h, List.foldl_cons]
      have := ih skipped (extra ++ k) ((u.arrive (.sessionReport p x)).takeSessionReport p x) (by simp [h0]) (by
        rw [hk]; show u.inFlight.erase _ ++ k = _
        rw [hu, List.append_assoc, List.erase_append_right _ hns]; simp) (by
        intro y hy
        rw [← List.append_assoc] at hy
        rcases List.mem_append.1 hy with hy | hy
        · exact hs y hy
        · cases y <;> simp [isReportOf]; exact absurd rfl (hk2 _ hy _ _))
      exact ⟨⟨hturn, _, congrArg Host.Outcome.next (State.taking_run _ _ _ h0 hturn), this.1⟩, this.2⟩
    · have hr : reportOf p m = none := by
        unfold reportOf; split
        · rw [if_neg]; intro e; exact h (by simp [isReportOf, e])
        · rfl
      rw [List.filterMap_cons_none hr, List.filter_cons_of_neg h]
      exact ih (skipped ++ [m]) extra u h0 (by simpa using hu) (by
        intro y hy
        rw [List.append_assoc, List.mem_append, List.mem_append, List.mem_singleton] at hy
        rcases hy with hy | rfl | hy
        · exact hs y (List.mem_append_left _ hy)
        · exact Bool.eq_false_iff.2 h
        · exact hs y (List.mem_append_right _ hy))

/-- A session report and a change of a port record do not meet. -/
theorem State.takeSessionReport_updPort (s : State) (p q : Port) (f : PortRec → PortRec) (x : SessionChange) :
    (s.updPort q f).takeSessionReport p x = (s.takeSessionReport p x).updPort q f := by
  have posts : ∀ (l : List Port) (n : Notice) (u : State), (l.foldl (fun s p => s.post .configurationUnit p n) (u.updPort q f)) =
      (l.foldl (fun s p => s.post .configurationUnit p n) u).updPort q f := by
    intro l n
    induction l with
    | nil => exact fun u => rfl
    | cons a r ih => intro u; rw [List.foldl_cons, List.foldl_cons, ← ih]; rfl
  unfold State.takeSessionReport
  dsimp only
  simp only [State.updPort_config]
  split
  · split
    · unfold State.withdrawSlot State.postOthers
      rw [← posts]; rfl
    · rfl
  · rfl

/-- So the reports in flight and a change of a port record do not meet. -/
theorem State.drainReports_updPort (s : State) (p q : Port) (f : PortRec → PortRec) :
    (s.updPort q f).drainReports p = (s.drainReports p).updPort q f := by
  unfold State.drainReports
  have : ∀ (l : List SessionChange) (u : State),
      l.foldl (fun s change => (s.arrive (.sessionReport p change)).takeSessionReport p change) (u.updPort q f)
        = (l.foldl (fun s change => (s.arrive (.sessionReport p change)).takeSessionReport p change) u).updPort q f := by
    intro l
    induction l with
    | nil => exact fun _ => rfl
    | cons a r ih => intro u; rw [List.foldl_cons, List.foldl_cons, ← ih, ← State.takeSessionReport_updPort]; rfl
  exact this _ _

/-- With no report in flight there is nothing to take. -/
theorem State.drainReports_none (s : State) (p : Port) (h : NoReports s p) : s.drainReports p = s := by
  unfold State.drainReports
  have : s.inFlight.filterMap (reportOf p) = [] := by
    rw [List.filterMap_eq_nil_iff]
    intro m hm
    unfold reportOf; split
    · rw [if_neg]; rintro rfl; exact h _ hm
    · rfl
  rw [this]; rfl

/-- The write claims that are taken one after the other, each in its turn, are those that are carried out. -/
theorem carryOutWrites_from (l : List Instr) (u v : State) (hl : ∀ m ∈ l, isWriteClaim m = true) (h : TakenInTurn l u v)
    (h0 : u.inReset = false) :
    l.foldl (fun s m => writeTake m (s.arrive m)) u = v := by
  induction l generalizing u with
  | nil => exact h.symm
  | cons m rest ih =>
    obtain ⟨ht, w, hw, hr⟩ := h
    have hx : exec m u = .next (writeTake m (u.arrive m)) := by
      have hm := hl m List.mem_cons_self
      unfold isWriteClaim at hm
      split at hm
      · exact congrArg Host.Outcome.next (State.taking_run _ _ _ h0 ht)
      · exact congrArg Host.Outcome.next (State.taking_run _ _ _ h0 ht)
      · exact congrArg Host.Outcome.next (State.taking_run _ _ _ h0 ht)
      · cases hm
    injection hx.symm.trans hw with hwe
    rw [List.foldl_cons, hwe]
    exact ih w (fun x hx => hl x (List.mem_cons_of_mem _ hx)) hr (by rw [← hwe, (State.writeTake_frame m _).2.1]; exact h0)

/-- The reports of a port that are in flight are taken before its request is judged, each in its turn (R145, R154). -/
theorem State.drainReports_inTurn (s : State) (p : Port) (h0 : s.inReset = false) :
    TakenInTurn (s.inFlight.filter (isReportOf p)) s (s.drainReports p) ∧ NoReports (s.drainReports p) p :=
  drainReports_inTurn_from p s.inFlight [] [] s h0 (by simp) (by simp)

/-- CLOSE COMMISSIONING carries out the writes in flight, when each can be taken in its turn (R130, R136). -/
theorem State.carryOutWrites_eq (s v : State) (h0 : s.inReset = false)
    (h : TakenInTurn (s.inFlight.filter isWriteClaim) s v) : s.carryOutWrites = v :=
  carryOutWrites_from _ s v (fun _ hm => (List.mem_filter.1 hm).2) h h0

end Sys2Proof.Machine
end

