-- ==== Sys2Proof/Tests/Slice0.lean ====
section
/-! SUPPORT. The tests: an ill-formed command for each check of WellFormed, frames and numbers worked out by hand from the
spec, and for each obligation with hypotheses a state and operands that meet them. -/

namespace Sys2Proof.Tests

open Sys2Proof Sys2Proof.Machine Sys2Proof.Safety

-- One theorem after another: all of them at once take more threads than the check's memory limit leaves.
set_option Elab.async false

/-! ### States built for the tests -/

/-- A trunk profile: 10,000 mA, 1,000 ms, k = 10, 20 %. -/
def tprof : TrunkProfile := ⟨10000, 1000, 10, 20⟩
/-- Precharge fields. -/
def pre : Precharge := ⟨2000, 2000, 100, 4, 8, 100, 50, 10000⟩
/-- A LIVE port under epoch 1, with a supervision period of 10 ms. -/
def portLive : PortRec := { PortRec.reset with state := .LIVE, epoch := 1#16, period := some 10, timer := some 10000 }
/-- A part in SERVICE phase: every port LIVE, every trunk configured and NORMAL, every channel FREE on FT0. -/
def live : State := { State.reset with
  inReset := false
  trunks := Vector.replicate 3 { TrunkRec.reset with profile := some tprof, state := some .NORMAL, heat := 0 }
  channels := Vector.replicate 12 { ChannelRec.reset with trunk := some 0 }
  portView := Vector.replicate 4 ⟨.LIVE, 1#16⟩
  ports := Vector.replicate 4 portLive
  config := { ConfigRec.reset with
    phase := .SERVICE
    trunkProfiles := Vector.replicate 3 (some tprof)
    channelProfiles := Vector.replicate 12 ⟨some 0, 15#4, 1000, none⟩
    view := Vector.replicate 4 .LIVE } }
/-- A lease of HP0 under its epoch. -/
def lease : Lease := ⟨.port 0 1#16, some .KEEP, 1000, 3, 10⟩
/-- CH0 in a state, held by HP0. -/
def chIn (st : ChanState) : State := live.updChan 0 fun r => { r with state := st, lease := some lease }
/-- The same with its reservation of 1,000 mA charged against FT0, and CH0 named in the slot. -/
def charged (st : ChanState) : State :=
  ((chIn st).updAcct 0 fun _ => ⟨1000, some 0, false, 0⟩).updTrunk 0 fun r => { r with reserved := 1000, slot := some 0 }
/-- CH0 on FT0 in a state, its reservation charged against FT1 and no slot naming it: it was moved and claimed again between its grant
and its admit claim (log entry 44). -/
def movedSince (st : ChanState) : State :=
  ((chIn st).updAcct 0 fun _ => ⟨2000, some 1, false, 15⟩).updTrunk 1 fun r => { r with reserved := 2000 }
/-- CH0 QUEUED on FT0, its entry the only one. -/
def queued : State := (chIn .QUEUED).updQueue 0 fun _ => [⟨0, 3, 0#32, some 10000, none, false⟩]
/-- CH0 and behind it CH1 QUEUED on FT0, CH0's wait limit run out, and a pass that waits for CH0 to leave. -/
def expiredHead : State := ((queued.updChan 1 fun r => { r with state := .QUEUED, lease := some lease }).updQueue 0 fun _ =>
  [⟨0, 3, 0#32, none, none, true⟩, ⟨1, 3, 1#32, none, none, false⟩]).updPass 0 fun _ => ⟨none, true⟩
/-- The same part in COMMISSION phase. -/
def commission : State := live.updConfig fun g => { g with phase := .COMMISSION }
/-- A part whose port HP0 is in a state. -/
def portIn (st : PortState) : State := live.updPort 0 fun r => { r with state := st }
/-- A part with DL0 bound and at a level. -/
def lineWith (b : Binding) (level : Option Bool) (raw : Bool) : State :=
  live.updLine 0 fun r => { r with binding := b, level := level, raw := raw, debounce := some 0 }
/-- A run of CH0 on FT0. -/
def runWith (phase : RunPhase) (pending : Option RunClaim) (period : Option Nat) : State :=
  (live.updConfig fun g => { g with channelProfiles := updAt g.channelProfiles 0 fun p => { p with precharge := some pre } }).setRun
    0 (some ⟨0, phase, pending, period⟩)
/-- A proposal of HP1 in the slot. -/
def proposed (st : SlotStatus) (body : ProposalBody) : State :=
  live.updConfig fun g => { g with slot := some ⟨st, 1#16, 1, body⟩, counter := 2#16 }
/-- An ENERGIZE of HP0 for CH0 in hand. -/
def inHandAt (stage : EnergizeStage) : State := live.setInHand 0 (some ⟨.port 0, .IDLE, stage⟩)
/-- CH0 on FT0 in ON, its completion answer in flight with what is taken before it: the abort of CH1's run and that run's service event. -/
def completing : State :=
  ((runWith (.FILL none) (some .COMPLETION) none).updChan 0 fun r => { r with state := .ON, lease := some lease }).setInFlight
    [.serviceEvent 1, .serviceEvent 0, .abort 1, .completionAnswer 0 true]
/-- A request frame's common part, of HP0. -/
def req : Req := ⟨0, 1#8, []⟩
/-- CH0 in a state on FT0 in a state and at a heat, drawing a current. -/
def heated (st : TrunkState) (heat current : Nat) (ch : ChanState) : State :=
  ((charged ch).updTrunk 0 fun r => { r with
    state := some st, heat := heat, latch := decide (st = .TRIPPED)
    lastShed := if st = .SHEDDING then some heat else none, shedTimer := if st = .SHEDDING then some 0 else none }).updSense
      fun b => { b with current := updAt b.current 0 fun _ => current }
/-- The same part with something held back by the Lease Manager. -/
def holding (s : State) (i : Instr) : State := s.setHeldBack [i]
/-- What a command leaves. -/
def after (c : Instr) (s : State) : State :=
  match exec c s with
  | .next t => t
  | _ => s

theorem fresh_of {s : State} {i : Instr} {r : Req} (code : Byte) (payload : List Byte)
    (h : encodeRequest i = some (r, code, payload)) (h1 : s.inReset = false) (h2 : (s.port r.port).selHeld = false)
    (h3 : (s.port r.port).inHand = none) (h4 : (s.port r.port).replay = none) : Fresh s i r :=
  ⟨code, payload, h, ⟨h1, h2, h3⟩, by unfold PortRec.replayOf; rw [h4]⟩

theorem passed_of {s : State} {i : Instr} {r : Req} (code : Byte) (payload : List Byte)
    (h : encodeRequest i = some (r, code, payload)) (h1 : s.inReset = false) (h2 : s.port r.port = portLive) :
    Passed s i r :=
  ⟨fresh_of code payload h h1 (by rw [h2]; rfl) (by rw [h2]; rfl) (by rw [h2]; rfl), by rw [h2]; rfl⟩

theorem atOnce_of {s : State} {i : Instr} (h : s.leaseBlocked i = false) (h1 : s.inFlight = []) : TakenAtOnce s i :=
  ⟨h, fun c _ => by rw [h1]; exact List.not_mem_nil⟩

theorem inTurn_of {s : State} {i : Instr} (h : s.inFlight = []) : InTurn s i := by
  simp [InTurn, State.outOfTurn, h]

theorem claim_of {s : State} {i : Instr} (h0 : s.inReset = false) (h : s.leaseBlocked i = false) (h1 : s.inFlight = []) :
    ClaimTaken s i := ⟨h0, inTurn_of h1, atOnce_of h h1⟩

theorem inTurn_two {s : State} {a b : Instr} (ha : s.outOfTurn a = false) (hb : (after a s).outOfTurn b = false)
    (ea : exec a s = .next (after a s)) (eb : exec b (after a s) = .next (after b (after a s))) :
    TakenInTurn [a, b] s (after b (after a s)) := ⟨ha, _, ea, hb, _, eb, rfl⟩

theorem noReports_of {s : State} (p : Port) (h : s.inFlight = []) : NoReports s p :=
  fun x => by rw [h]; exact List.not_mem_nil

/-! ### WellFormed refuses -/

theorem test_wf_idleWindow : (Instr.idleWindow 0 [0xA5#8]).wellFormed = false := by decide
theorem test_wf_badFrame : (Instr.badFrame 0 [0x00#8]).wellFormed = false := by decide
theorem test_wf_replay : (Instr.replay 0 []).wellFormed = false := by decide
theorem test_wf_unknownCode : (Instr.unknownCodeFrame 0 [0x5A#8]).wellFormed = false := by decide
theorem test_wf_responseReady : (Instr.responseReady 0 .OK (List.replicate 25 0#8)).wellFormed = false := by decide
theorem test_wf_trunkProfile : (Instr.trunkProfileClaim .apply 0 { tprof with k := 17 }).wellFormed = false := by decide
theorem test_wf_channelProfile :
    (Instr.channelProfileClaim .apply 0 ⟨none, 0#4, 1000, some { pre with fillOn := 100 }⟩).wellFormed = false := by decide
theorem test_wf_binding : (Instr.bindingClaim .apply 0 (.ASSIST 0 150 0)).wellFormed = false := by decide
theorem test_wf_tripClaim : (Instr.tripClaim 0 0 2097152 false).wellFormed = false := by decide
theorem test_wf_tripAnswer : (Instr.tripClaimAnswer 0 0 2097152 false true).wellFormed = false := by decide
theorem test_wf_admissionClaim : (Instr.admissionClaim false 0 0 0 false).wellFormed = false := by decide
theorem test_wf_restated : (Instr.restatedReservation 0 1000 65600).wellFormed = false := by decide
theorem test_wf_entryAnswer : (Instr.queueEntryAnswer 0 .QUEUED (some 12)).wellFormed = false := by decide
theorem test_wf_flush : (Instr.queueFlush 0 2097152).wellFormed = false := by decide
theorem test_wf_flushClaim : (Instr.flushClaim 0 2097152).wellFormed = false := by decide
theorem test_wf_sample : (Instr.outputVoltageSample 0 65536).wellFormed = false := by decide
theorem test_wf_failure : (Instr.prechargeFailureClaim 0 .SHORT).wellFormed = false := by decide
theorem test_wf_pulse : (Instr.pulseCommand 0 0).wellFormed = false := by decide
theorem test_wf_lineClaim : (Instr.lineClaim 0 0 1000 8).wellFormed = false := by decide
theorem test_wf_accepts : (Instr.lineClaim 0 0 1000 7).wellFormed = true := by decide

/-! ### Frames written out by hand from Tables 11-1, 11-3 and 11-5 -/

/-- PING with tag 1, the worked check of R175. -/
theorem test_frame_ping :
    checkFrame [0xA5#8, 0x01#8, 0x0B#8, 0x00#8, 0xD7#8] = .request 0x01#8 0x0B#8 [] 0xD7#8
      ∧ decodeRequest req 0x0B#8 [] = some (.ping req) := by decide +kernel
/-- The EMPTY frame of R175. -/
theorem test_frame_empty : emptyFrame = [0x5A#8, 0x00#8, 0x03#8, 0x00#8, 0x14#8] := by decide +kernel
theorem test_decode_restate :
    decodeRequest req 0x16#8 [0x07#8, 0x00#8, 0x41#8] = some (.restate req 0x07#8 65#16) := by decide +kernel
theorem test_decode_claim :
    decodeRequest req 0x10#8 [0x04#8, 0x00#8, 0x14#8, 0x03#8, 0x02#8, 0x01#8, 0x0A#8]
      = some (.claim req 0x04#8 20#16 0x03#8 0x02#8 0x01#8 0x0A#8) := by decide +kernel
theorem test_decode_trunk_write :
    decodeRequest req 0x30#8 [0x00#8, 0x00#8, 0x64#8, 0x03#8, 0xE8#8, 0x0A#8, 0x02#8]
      = some (.trunkProfileWrite req ⟨0x00#8, 100#16, 1000#16, 0x0A#8, 0x02#8⟩) := by decide +kernel
theorem test_decode_propose_veto :
    decodeRequest req 0x38#8 [0x02#8, 0x03#8, 0x02#8, 0x05#8] = some (.propose req (.line ⟨0x03#8, .VETO 0x05#8⟩)) := by
  decide +kernel
theorem test_decode_short_payload : decodeRequest req 0x16#8 [0x07#8, 0x00#8] = none := by decide +kernel

/-! ### One step, with the numbers of the spec's tables and examples -/

/-- Table 1-4: 20,000 mA on a rating of 10,000 mA at 1,000 ms give 1,048 hu. -/
theorem test_heating_increment : heatingD 20000 10000 1000 = 1048 := by decide +kernel
/-- 12.2, interval 626 to 627: cooling by 1,024 hu at k = 10. -/
theorem test_cooling : cooled 1049264 10 = 1048240 := by decide +kernel
/-- 12.2, interval 626: WARM at 1,048,216 hu heated by 1,048 hu enters SHEDDING. -/
theorem test_shed_entry : nextTrunkState .WARM 1049264 = .SHEDDING := by decide +kernel
/-- R11: a TRIPPED trunk stays TRIPPED at 0 hu. -/
theorem test_tripped_stays : nextTrunkState .TRIPPED 0 = .TRIPPED := by decide +kernel
/-- R20: the limit itself is not above the limit (12.2: 10,000 mA on 5,000 mA at 100 %). -/
theorem test_overdraw_boundary : overLimit 10000 5000 100 = false ∧ overLimit 10001 5000 100 = true := by decide +kernel
/-- R21: 1,201 mA become 1,300 mA. -/
theorem test_overdraw_round : roundUp100 1201 = 1300 ∧ roundUp100 1200 = 1200 := by decide +kernel
/-- Table 1-3, R2: H after power-on reset. -/
theorem test_cold_start : ((after .powerOnReset live).trunk 0).heat = 393216 := by decide +kernel
/-- R2: NRST keeps H. -/
theorem test_nrst_keeps_heat :
    ((after .nrstReset (live.updTrunk 0 fun r => { r with heat := 7 })).trunk 0).heat = 7 := by decide +kernel
/-- R138: the counter goes from 65,535 to 1. -/
theorem test_counter_wraps : nextNumber 65535#16 = 1#16 ∧ nextNumber 1#16 = 2#16 := by decide +kernel
/-- R83: a difference of 99 mV has settled, one of 100 mV has not. -/
theorem test_settled : settledAt 24000 23901 = true ∧ settledAt 24000 23900 = false ∧ settledAt 100 200 = true := by
  decide +kernel
/-- R110: a negative voltage is 0, and a sample is rounded down and saturates. -/
theorem test_voltage_sample : voltageSample (-1) = 0 ∧ voltageSample 1999 = 1 ∧ voltageSample 70000000 = 65535 := by
  decide +kernel
/-- R31: CLAIM takes a FREE channel to IDLE. -/
theorem test_claim_idle : ((after (.claim req 0#8 10#16 3#8 0#8 0#8 0#8) live).chan 0).state = .IDLE := by decide +kernel
/-- R33: RELEASE of an ON channel returns its reservation. -/
theorem test_release_returns : ((after (.release req 0#8) (charged .ON)).trunk 0).reserved = 0 := by decide +kernel
/-- R49: a shed takes ON to SHED. -/
theorem test_shed_claim : ((after (.shedClaim 0 0) (charged .ON)).chan 0).state = .SHED := by decide +kernel
/-- R43: the third fault locks the channel out. -/
theorem test_third_fault : ((after (.shortDetectionTaken 0)
    ((charged .ON).updChan 0 fun r => { r with faultCount := 2 })).chan 0).lockedOut = true := by decide +kernel
/-- R16, R18: a completion sets the declared current also without the slot, with the service event of the trunk whose sum falls. -/
theorem test_completion_without_slot :
    let u := after (.completionClaim 0) (movedSince .FILL)
    (u.acct 0).reservation = 1000 ∧ (u.trunk 1).reserved = 1000 ∧ u.inFlight = [.serviceEvent 1, .completionAnswer 0 true] := by
  decide +kernel
/-- R17, R18: a restated decrease lowers the sum that it is charged against, with its service event. -/
theorem test_restated_on_charged_trunk :
    let u := after (.restatedReservation 0 1000 900) (movedSince .ON)
    (u.trunk 1).reserved = 900 ∧ (u.trunk 0).reserved = 0 ∧ u.inFlight = [.serviceEvent 1, .restatedReservationAnswer 0 true] := by
  decide +kernel
/-- R69: the wait-expiry claim takes QUEUED to IDLE and empties the queue. -/
theorem test_wait_expiry : (after (.waitExpiryClaim 0) queued).queue 0 = [] := by decide +kernel
/-- R70: the expiry of the wait limit marks the entry, so that no pass offers it. -/
theorem test_wait_limit_expiry :
    (after (.waitLimitExpiry 0) queued).queue 0 = [⟨0, 3, 0#32, none, none, true⟩] := by decide +kernel
/-- R70, R64: a pass does not offer a head whose wait limit ran out before, nor the entry behind it. -/
theorem test_expired_head_not_offered :
    (after (.serviceEvent 0) expiredHead).inFlight = [] ∧ (after (.serviceEvent 0) expiredHead).pass 0 = ⟨none, true⟩ := by
  decide +kernel
/-- R70: when it has left, the new head is offered: at the service event of the change of head, and after a flush claim at once. -/
theorem test_new_head_offered :
    (after (.serviceEvent 0) (after (.waitExpiryClaim 0) expiredHead)).inFlight.getLast? = some (.admissionClaim true 0 1 1000 false)
      ∧ (after (.flushClaim 0 9) expiredHead).inFlight.getLast? = some (.admissionClaim true 0 1 1000 false) := by decide +kernel
/-- R14: an admission above the headroom changes nothing. -/
theorem test_admission_headroom :
    ((after (.admissionClaim false 0 0 10001 false) live).trunk 0).reserved = 0
      ∧ ((after (.admissionClaim false 0 0 10000 false) live).trunk 0).reserved = 10000 := by decide +kernel
/-- R105: TRUNK CLEAR below COOL. -/
theorem test_trunk_clear : ((after (.trunkClear req 0#8)
    (live.updTrunk 0 fun r => { r with state := some .TRIPPED, latch := true, heat := 262143 })).trunk 0).state
      = some .NORMAL := by decide +kernel
/-- R168: the seventeenth notice is lost. -/
theorem test_notice_lost : ((after (.noticeCopyTaken .budgetUnit 0 ⟨.SHED, .channel 0, none, none⟩)
    (live.updPort 0 fun r => { r with queue := List.replicate 16 ⟨0#8, ⟨.SHED, .channel 0, none, none⟩⟩ })).port 0).lost
      = 1 := by decide +kernel
/-- R112, R113: a current at the hard-short limit is no short, one above it is. -/
theorem test_short_boundary :
    ((after (.shortDetection 0 1000) (charged .ON)).driver 0).shortHold = false
      ∧ ((after (.shortDetection 0 1001) (charged .ON)).driver 0).shortHold = true := by decide +kernel
/-- R126: a falling VETO line sends an inhibit claim. -/
theorem test_veto_falls :
    (after (.debounceExpiry 0) (lineWith (.VETO 5) (some true) false)).inFlight = [.inhibitClaim 0 5] := by decide +kernel
/-- R136: the lowest channel on an unconfigured trunk is named. -/
theorem test_close_incomplete : (after (.closeCommissioning req)
    (commission.updTrunk 0 fun r => { r with profile := none })).inFlight
      = [.responseReady 0 .INCOMPLETE [0#8, 0#8]] := by decide +kernel

/-- Table 1-5, at each level and one below it, cooled with k = 10 (R9). -/
theorem test_transitions :
    ∀ x ∈ [(TrunkState.NORMAL, 524799, TrunkState.NORMAL), (.NORMAL, 524800, .WARM), (.NORMAL, 1049600, .WARM),
        (.WARM, 524799, .NORMAL), (.WARM, 1049601, .SHEDDING), (.WARM, 1312000, .SHEDDING), (.WARM, 1312001, .TRIPPED),
        (.SHEDDING, 524799, .NORMAL), (.SHEDDING, 524800, .SHEDDING), (.SHEDDING, 1312001, .TRIPPED), (.TRIPPED, 1, .TRIPPED)],
      ((after (.budgetIntervalExpiry 0) (heated x.1 x.2.1 0 .IDLE)).trunk 0).state = some x.2.2 := by decide +kernel
/-- R8, R9: a current at the rating cools, one above it heats. -/
theorem test_heat_boundary :
    ((after (.budgetIntervalExpiry 0) (heated .NORMAL 2048 10000 .ON)).trunk 0).heat = 2046
      ∧ ((after (.budgetIntervalExpiry 0) (heated .NORMAL 2048 10001 .ON)).trunk 0).heat = 2049 := by decide +kernel
/-- R77: a start that was sent behind an abort of the same channel waits for it. -/
theorem test_start_waits :
    after (.start 0) (live.setInFlight [.abort 0, .start 0]) = live.setInFlight [.abort 0, .start 0] := by decide +kernel
/-- R87: the abort of a shed run waits until the queue has received its service event, and is then taken. -/
theorem test_abort_waits :
    let s := (charged .PROBE).setRun 0 (some ⟨0, .PROBE 1, none, some 5⟩)
    let shed := after (.shedClaim 0 0) s
    after (.abort 0) shed = shed ∧ shed.run 0 ≠ none
      ∧ (after (.abort 0) (after (.serviceEvent 0) (after (.serviceEvent 0) shed))).run 0 = none := by decide +kernel
/-- R71, R105: an entry that joined while the trunk was TRIPPED is flushed, with that trip's heat, also after a TRUNK CLEAR. -/
theorem test_flush_after_clear :
    let s := ((chIn .IDLE).updTrunk 0 fun r => { r with
      state := some .TRIPPED, latch := true, heat := 5, tripHeat := 1312001 }).setInHand 0 (some ⟨.port 0, .IDLE, .entry⟩)
    let cleared := after (.trunkClear ⟨1, 1#8, []⟩ 0#8) (after (.queueEntryClaim 0 .IDLE) s)
    (cleared.trunk 0).state = some .NORMAL
      ∧ .flushClaim 0 1312001 ∈ (after (.queueEntryAnswer 0 .QUEUED (some 0)) cleared).inFlight := by decide +kernel
/-- R71: an entry that joined before the trip is left to the trip's own flush. -/
theorem test_no_flush_at_answer :
    (after (.queueEntryAnswer 0 .QUEUED (some 0)) ((queued.updTrunk 0 fun r => { r with
      state := some .TRIPPED, latch := true }).setInHand 0 (some ⟨.port 0, .IDLE, .entry⟩))).inFlight
        = [.responseReady 0 .ACCEPTED [2#8, 0#8], .serviceEvent 0] := by decide +kernel
/-- R29, R163: the lapse claim of a port is taken before the OPEN claim sent behind it. -/
theorem test_open_behind_lapse : (after (.openClaim 0 2#16) (live.setInFlight [.lapseClaim 0, .openClaim 0 2#16])).inFlight
    = [.lapseClaim 0, .openClaim 0 2#16] := by decide +kernel
/-- R109: the mean over the sample period counts a reverse current as 0. -/
theorem test_mean_current : meanSample [3000000, -5000000] = 1500 ∧ meanSample [-1] = 0 ∧ meanSample [1999] = 1
    ∧ meanSample [70000000] = 65535 := by decide +kernel
/-- R110: the sample deferred by a pulse that an abort cut short is of the voltage at its end. -/
theorem test_cut_pulse : (after (.pulseEnd 0 12000000)
    (live.updSense fun b => { b with deferred := updAt b.deferred 0 fun _ => true })).inFlight
      = [.outputVoltageSample 0 12000] := by decide +kernel
/-- R130, R136: a trunk write taken before CLOSE COMMISSIONING counts in its check. -/
theorem test_close_counts_write : (after (.closeCommissioning req)
    ((commission.updTrunk 0 fun r => { r with profile := none }).setInFlight [.trunkProfileClaim (.write 1) 0 tprof])).config.phase
      = .SERVICE := by decide +kernel
/-- R46: a resume claim waits behind an inhibit claim that is held back. -/
theorem test_resume_waits : (after (.resumeClaim 1 0)
    (((chIn .IDLE).setInHand 0 (some ⟨.port 0, .IDLE, .admission⟩)).setHeldBack [.inhibitClaim 1 0])).heldBack
      = [.inhibitClaim 1 0, .resumeClaim 1 0] := by decide +kernel

/-- R88, R169: ENERGIZED is posted before a shed of the channel is answered, behind what is taken before the completion answer; a claim for
another channel does not wait. -/
theorem test_completion_before_shed :
    (after (.shedClaim 0 0) completing).inFlight
      = [.serviceEvent 1, .noticeCopyTaken .leaseManager 0 ⟨.ENERGIZED, .channel 0, none, some (.current 1000)⟩, .shedAnswer 0 0 true]
      ∧ (after (.shedClaim 0 5) completing).inFlight = completing.inFlight ++ [.shedAnswer 0 5 false] := by decide +kernel
/-- R145: the CLOSE report of a proposer is taken before a later request of its port, so READ PROPOSAL finds the slot empty. -/
theorem test_request_behind_report : (after (.readProposal ⟨1, 1#8, []⟩)
    ((proposed (.OPEN 5) (.lockout 0)).setInFlight [.sessionReport 1 .CLOSE])).config.slot = none := by decide +kernel
/-- R102 (log entry 22): an answer for a channel that only the second entry awaits ends that entry. -/
theorem test_second_trip : let s := live.updTrunk 0 fun r => { r with trips := [⟨5, [1]⟩, ⟨6, [0]⟩] };
    ((after (.tripClaimAnswer 0 0 6 false true) s).trunk 0).trips = [⟨5, [1]⟩]
      ∧ ((after (.tripClaimAnswer 0 2 6 false true) s).trunk 0).trips = [⟨5, [1]⟩, ⟨6, [0]⟩] := by decide +kernel

/-! ### Witnesses: states and operands that meet the hypotheses of each obligation -/

theorem witness_StepTakesFrontCommand : ({ live with pending := [.nrstReset] } : State).pending = .nrstReset :: [] := rfl

theorem witness_EmptyQueueStep :
    (State.reset.pending = [] ∧ State.reset.inReset = true)
      ∧ ((live.setInFlight [.start 0]).pending = [] ∧ (live.setInFlight [.start 0]).inReset = false
        ∧ (live.setInFlight [.start 0]).inFlight = .start 0 :: [])
      ∧ (live.inFlight = [] ∧ (live.updTrunk 0 fun r => { r with interval := 0 }).due = some (.budgetIntervalExpiry 0)
        ∧ live.due = none)
      ∧ (let s := (live.updDriver 3 fun d => { d with pulse := some 0 }).updPort 3 fun r => { r with timer := some 0 }
        s.due = some (.pulseEnd 3 0) ∧ dueRank (.pulseEnd 3 0) < dueRank (.supervisionExpiry 3))
      ∧ (let s := (runWith (.FILL (some 0)) none (some 0)).updSense fun b => { b with
          currentTimer := 0, deferred := updAt b.deferred 11 fun _ => true };
        s.due = some (.pulseEnd 11 0) ∧ s.sense.currentTimer = 0 ∧ s.run 0 = some ⟨0, .FILL (some 0), none, some 0⟩) := by
  decide +kernel

/-- A command is due and another is not, of every kind of timer: at 0 it is, one microsecond before it is not. -/
theorem witness_DueWhen :
    DueWhen (live.updDriver 0 fun d => { d with pulse := some 0 }) (.pulseEnd 0 0)
      ∧ ¬ DueWhen (live.updDriver 0 fun d => { d with pulse := some 1 }) (.pulseEnd 0 0)
      ∧ DueWhen (live.updChan 11 fun r => { r with onStable := some 0 }) (.onStableExpiry 11)
      ∧ DueWhen (live.updTrunk 2 fun r => { r with shedTimer := some 0 }) (.shedIntervalExpiry 2)
      ∧ DueWhen (lineWith .NONE none true) (.debounceExpiry 0)
      ∧ DueWhen (live.updQueue 0 fun _ => [⟨4, 3, 0#32, some 0, none, false⟩]) (.waitLimitExpiry 4)
      ∧ DueWhen (proposed (.OPEN 0) (.lockout 0)) .windowTimerExpiry ∧ ¬ DueWhen live (.start 0) :=
  ⟨⟨rfl, .inl rfl⟩, by rintro ⟨-, h | h⟩ <;> revert h <;> decide +kernel, rfl, rfl, rfl, ⟨0, _, List.mem_singleton.2 rfl, rfl, rfl⟩,
    ⟨_, rfl, rfl⟩, id⟩

theorem witness_EveryCommandIsTaken :
    (live.inReset = false ∧ ¬ InTurn (live.setInFlight [.abort 0, .start 0]) (.start 0))
      ∧ ¬ InTurn (live.setInFlight [.lapseClaim 0]) (.openClaim 0 2#16)
      ∧ InTurn (live.setInFlight [.lapseClaim 1]) (.openClaim 0 2#16)
      ∧ (let s := (charged .IDLE).setInFlight [.serviceEvent 0, .abort 0]
        ¬ InTurn s (.abort 0) ∧ InTurn s (.serviceEvent 0) ∧ InTurn ((charged .IDLE).setInFlight [.serviceEvent 1]) (.abort 0)
        ∧ s.inFlight = [] ++ .serviceEvent 0 :: [.abort 0] ∧ Instr.abort 0 ∉ ([] : List Instr) ∧ Instr.abort 0 ≠ .serviceEvent 0) := by
  unfold InTurn; decide +kernel

theorem witness_TakenBefore :
    TakenBefore live (.lapseClaim 0) (.openClaim 0 2#16) ∧ TakenBefore live (.serviceEvent 0) (.abort 0)
      ∧ TakenBefore ((live.updChan 0 fun r => { r with trunk := none }).setRun 2 (some ⟨0, .PROBE 1, none, none⟩))
        (.serviceEvent 2) (.abort 0) :=
  ⟨.inl ⟨by decide, rfl⟩, .inr ⟨0, 0, rfl, rfl, .inr rfl⟩, .inr ⟨2, 0, rfl, rfl, .inl ⟨_, rfl, rfl⟩⟩⟩

theorem witness_HeldResetStopsThePart :
    State.reset.inReset = true ∧ actsInReset (.start 0) = false ∧ actsInReset (.idleWindow 0 [0#8]) = false := by decide

theorem witness_ResetsAndRelease : State.reset.inReset = true ∧ live.inReset = false := by decide

theorem witness_UntakenAndIdleWindows :
    (windowOf (.turnaroundWindow 0 [0xA5#8]) = some (0, [0xA5#8]) ∧ live.inReset = false
        ∧ ((live.updPort 0 fun r => { r with selHeld := true }).port 0).selHeld = true
        ∧ ((live.updPort 0 fun r => { r with inHand := some ⟨1#8, 0#8⟩ }).port 0).inHand.isSome = true)
      ∧ ([] : List Byte).head? ≠ some 0xA5#8 ∧ WindowTaken live 0 :=
  ⟨by decide +kernel, by decide, by unfold WindowTaken; decide⟩

theorem witness_BadAndUnknownFrames :
    WindowTaken live 0 ∧ ([] : List Byte).length < 3 ∧ 24 < (([1#8, 0#8, 25#8] : List Byte).getD 2 0#8).toNat
      ∧ ([1#8, 0#8, 0#8] : List Byte).length < (([1#8, 0#8, 0#8] : List Byte).getD 2 0#8).toNat + 4
      ∧ (([1#8, 0x0B#8, 0#8, 0#8] : List Byte).getD 3 0#8 ≠ crc8 (([1#8, 0x0B#8, 0#8, 0#8] : List Byte).take 3))
      ∧ decodeRequest req 0xFF#8 [] = none ∧ (live.port 0).replayOf 1#8 (crc8 (covered 1#8 0xFF#8 [])) = none := by
  unfold WindowTaken; decide +kernel

theorem witness_ReplayAndNotOpen :
    (WindowTaken (live.updPort 0 fun r => { r with replay := some ⟨1#8, crc8 (covered 1#8 0x0B#8 []), [0#8]⟩ }) 0
      ∧ ((live.updPort 0 fun r => { r with replay := some ⟨1#8, crc8 (covered 1#8 0x0B#8 []), [0#8]⟩ }).port 0).replay
        = some ⟨1#8, crc8 (covered 1#8 0x0B#8 []), [0#8]⟩)
      ∧ Fresh (portIn .LAPSED) (.ping req) req ∧ anyPortState (.ping req) = false
      ∧ ((portIn .LAPSED).port req.port).state ≠ .LIVE :=
  ⟨⟨by unfold WindowTaken; decide, rfl⟩, fresh_of _ _ rfl rfl rfl rfl rfl, rfl, by decide⟩

theorem witness_DecodeOfEncode : encodeRequest (.ping req) = some (req, 0x0B#8, []) := rfl

theorem witness_RequestIsItsWindow :
    encodeRequest (.restate req 7#8 65#16) = some (req, 0x16#8, [0x07#8, 0x00#8, 0x41#8]) := by decide

theorem witness_ResponseReady :
    live.inReset = false ∧ ((live.updPort 0 fun r => { r with inHand := some ⟨1#8, 0#8⟩ }).port 0).inHand = some ⟨1#8, 0#8⟩ := by
  decide

theorem witness_Sessions :
    (Fresh live (.openPort req 0#8) req ∧ (live.port req.port).state = .LIVE)
      ∧ (Fresh (portIn .DOWN) (.openPort req 255#8) req ∧ ((portIn .DOWN).port req.port).state ≠ .LIVE)
      ∧ Passed live (.closePort req) req
      ∧ (live.inReset = false ∧ (live.port 0).state = .LIVE ∧ (live.port 0).timer.isSome = true
        ∧ ((portIn .LAPSED).port 0).state ≠ .LIVE) :=
  ⟨⟨fresh_of _ _ rfl rfl rfl rfl rfl, rfl⟩, ⟨fresh_of _ _ rfl rfl rfl rfl rfl, by decide⟩, passed_of _ _ rfl rfl rfl, by decide⟩

theorem witness_PingAndReadIdent :
    Fresh live (.ping req) req ∧ Fresh (portIn .DOWN) (.readIdent req) req
      ∧ ((live.port req.port).state = .LIVE ∧ (live.port req.port).period = some 10 ∧ 10 ≠ 0) :=
  ⟨fresh_of _ _ rfl rfl rfl rfl rfl, fresh_of _ _ rfl rfl rfl rfl rfl, by decide⟩

theorem witness_StatusReads :
    (Passed live (.readPort req 3#8) req ∧ 3#8 = BitVec.ofNat 8 (3 : Port).val ∧ 4 ≤ (4#8).toNat)
      ∧ (Passed live (.readChannel req 11#8) req ∧ TakenAtOnce live (.readChannel req 11#8)
        ∧ 11#8 = BitVec.ofNat 8 (11 : Channel).val ∧ 12 ≤ (12#8).toNat)
      ∧ (Passed live (.readTrunk req 2#8) req ∧ 2#8 = BitVec.ofNat 8 (2 : Trunk).val ∧ 3 ≤ (3#8).toNat)
      ∧ Passed live (.readProposal req) req ∧ NoReports live req.port
      ∧ Passed (live.setInFlight [.sessionReport 0 .LAPSE, .sessionReport 0 .OPEN]) (.readProposal req) req :=
  ⟨⟨passed_of _ _ rfl rfl rfl, rfl, by decide⟩,
    ⟨passed_of _ _ rfl rfl rfl, atOnce_of (by decide +kernel) rfl, rfl, by decide⟩,
    ⟨passed_of _ _ rfl rfl rfl, rfl, by decide⟩, passed_of _ _ rfl rfl rfl, noReports_of _ rfl, passed_of _ _ rfl rfl rfl⟩

theorem witness_ReadNotice :
    (Passed live (.readNotice req) req ∧ (live.port req.port).queue = [])
      ∧ ((live.updPort 0 fun r => { r with queue := [⟨0#8, ⟨.SHED, .channel 0, none, none⟩⟩] }).port 0).queue
        = [⟨0#8, ⟨.SHED, .channel 0, none, none⟩⟩]
      ∧ Fresh (portIn .LAPSED) (.readNotice req) req ∧ ((portIn .LAPSED).port req.port).state ≠ .LIVE :=
  ⟨⟨passed_of _ _ rfl rfl rfl, rfl⟩, rfl, fresh_of _ _ rfl rfl rfl rfl rfl, by decide⟩

theorem witness_NoticeCopyTaken :
    live.inReset = false ∧ InTurn live (.noticeCopyTaken .budgetUnit 0 ⟨.SHED, .channel 0, none, none⟩) := ⟨rfl, inTurn_of rfl⟩

theorem witness_LeaseRequestRefusals :
    leaseRequestOf (.release req 0#8) = some (req, 0#8)
      ∧ (Passed commission (.release req 0#8) req ∧ TakenAtOnce commission (.release req 0#8)
        ∧ commission.config.phase = .COMMISSION)
      ∧ (Passed live (.release req 12#8) req ∧ TakenAtOnce live (.release req 12#8) ∧ live.config.phase = .SERVICE
        ∧ 12 ≤ (12#8).toNat)
      ∧ (Passed live (.release req 0#8) req ∧ TakenAtOnce live (.release req 0#8) ∧ (live.chan 0).state = .FREE)
      ∧ (Passed (chIn .ON) (.release ⟨1, 1#8, []⟩ 0#8) ⟨1, 1#8, []⟩ ∧ TakenAtOnce (chIn .ON) (.release ⟨1, 1#8, []⟩ 0#8)
        ∧ ((chIn .ON).chan 0).state ≠ .FREE ∧ (chIn .ON).holder 0 ≠ some (.port 1 ((chIn .ON).viewOf 1).epoch))
      ∧ (Passed (chIn .ON) (.restate ⟨1, 1#8, []⟩ 0#8 655#16) ⟨1, 1#8, []⟩ ∧ Passed live (.restate req 0#8 1#16) req
        ∧ TakenAtOnce (chIn .ON) (.restate ⟨1, 1#8, []⟩ 0#8 655#16) ∧ 1 ≤ (1#16).toNat ∧ (655#16).toNat ≤ 655) :=
  ⟨rfl, ⟨passed_of _ _ rfl rfl rfl, atOnce_of (by decide +kernel) rfl, rfl⟩,
    ⟨passed_of _ _ rfl rfl rfl, atOnce_of (by decide +kernel) rfl, rfl, by decide⟩,
    ⟨passed_of _ _ rfl rfl rfl, atOnce_of (by decide +kernel) rfl, rfl⟩,
    ⟨passed_of _ _ rfl rfl rfl, atOnce_of (by decide +kernel) rfl, by decide +kernel, by decide +kernel⟩,
    ⟨passed_of _ _ rfl rfl rfl, passed_of _ _ rfl rfl rfl, atOnce_of (by decide +kernel) rfl, by decide⟩⟩

theorem witness_ClaimRequest :
    (Passed live (.claim req 0#8 655#16 7#8 0#8 0#8 0#8) req ∧ TakenAtOnce live (.claim req 0#8 655#16 7#8 0#8 0#8 0#8)
      ∧ live.config.phase = .SERVICE ∧ 1 ≤ (655#16).toNat ∧ (655#16).toNat ≤ 655 ∧ (7#8).toNat ≤ 7)
      ∧ (Passed live (.claim req 0#8 656#16 0#8 0#8 0#8 0#8) req ∧ TakenAtOnce live (.claim req 0#8 656#16 0#8 0#8 0#8 0#8)
        ∧ ¬ (656#16).toNat ≤ 655)
      ∧ (Passed live (.claim req 0#8 1#16 0#8 2#8 3#8 0#8) req ∧ 3#8 = BitVec.ofNat 8 (3 : Port).val ∧ (3 : Port) ≠ req.port
        ∧ live.permits 0 3 = true) :=
  ⟨⟨passed_of _ _ rfl rfl rfl, atOnce_of (by decide +kernel) rfl, rfl, by decide, by decide, by decide⟩,
    ⟨passed_of _ _ rfl rfl rfl, atOnce_of (by decide +kernel) rfl, by decide⟩,
    ⟨passed_of _ _ rfl rfl rfl, rfl, by decide, by decide +kernel⟩⟩

theorem witness_ReleaseDeEnergizeClearFault :
    ((charged .ON).config.phase = .SERVICE ∧ ((charged .ON).chan 0).state ≠ .FREE
      ∧ (charged .ON).holder 0 = some (.port req.port ((charged .ON).viewOf req.port).epoch))
      ∧ Passed (charged .ON) (.release req 0#8) req ∧ TakenAtOnce (charged .ON) (.release req 0#8)
      ∧ Passed (charged .ON) (.deEnergize req 0#8) req ∧ TakenAtOnce (charged .ON) (.deEnergize req 0#8)
      ∧ Passed (chIn .FAULTED) (.clearFault req 0#8) req ∧ TakenAtOnce (chIn .FAULTED) (.clearFault req 0#8)
      ∧ ((chIn .FAULTED).chan 0).state = .FAULTED :=
  ⟨by decide +kernel, passed_of _ _ rfl rfl rfl, atOnce_of (by decide +kernel) rfl, passed_of _ _ rfl rfl rfl,
    atOnce_of (by decide +kernel) rfl, passed_of _ _ rfl rfl rfl, atOnce_of (by decide +kernel) rfl, rfl⟩

theorem witness_AdoptRequest :
    (Passed (chIn .ON) (.adopt ⟨1, 1#8, []⟩ 0#8) ⟨1, 1#8, []⟩ ∧ TakenAtOnce (chIn .ON) (.adopt ⟨1, 1#8, []⟩ 0#8)
      ∧ (chIn .ON).config.phase = .SERVICE ∧ ((chIn .ON).chan 0).trunk ≠ none ∧ (chIn .ON).permits 0 1 = true
      ∧ ((chIn .ON).viewOf 0).standing ≠ .LAPSED)
      ∧ (let s := (chIn .ON).updView 0 fun v => { v with standing := .LAPSED }
        Passed s (.adopt ⟨1, 1#8, []⟩ 0#8) ⟨1, 1#8, []⟩ ∧ TakenAtOnce s (.adopt ⟨1, 1#8, []⟩ 0#8)
          ∧ (s.chan 0).lease = some lease ∧ lease.holder = .port 0 1#16 ∧ (s.viewOf 0).standing = .LAPSED)
      ∧ ((live.updChan 0 fun r => { r with trunk := none }).chan 0).trunk = none :=
  ⟨⟨passed_of _ _ rfl rfl rfl, atOnce_of (by decide +kernel) rfl, rfl, by decide +kernel, by decide +kernel, by decide +kernel⟩,
    ⟨passed_of _ _ rfl rfl rfl, atOnce_of (by decide +kernel) rfl, rfl, rfl, by decide +kernel⟩, rfl⟩

theorem witness_RestateRequest :
    (Passed (chIn .ON) (.restate req 0#8 0#16) req ∧ TakenAtOnce (chIn .ON) (.restate req 0#8 0#16)
      ∧ (chIn .ON).config.phase = .SERVICE ∧ (0#16).toNat = 0)
      ∧ (Passed (chIn .ON) (.restate req 0#8 655#16) req ∧ TakenAtOnce (chIn .ON) (.restate req 0#8 655#16)
        ∧ 1 ≤ (655#16).toNat ∧ (655#16).toNat ≤ 655 ∧ ((chIn .ON).chan 0).state ≠ .FREE
        ∧ ((chIn .ON).chan 0).lease = some lease ∧ lease.holder = .port 0 ((chIn .ON).viewOf 0).epoch
        ∧ ((chIn .ON).chan 0).trunk = some 0)
      ∧ (Passed queued (.restate req 0#8 1#16) req ∧ TakenAtOnce queued (.restate req 0#8 1#16)
        ∧ (queued.chan 0).state = .QUEUED)
      ∧ (Passed (inHandAt .admission) (.restate req 0#8 1#16) req ∧ (inHandAt .admission).inHand 0 ≠ none)
      ∧ (∀ k ∈ [PassStage.asked, .sent], let s := queued.updPass 0 fun _ => ⟨some ⟨0, 1000, k⟩, false⟩;
        s.inReset = false ∧ s.port 0 = portLive ∧ (s.pass 0).claim = some ⟨0, 1000, k⟩ ∧ k ≠ .settled) :=
  ⟨⟨passed_of _ _ rfl rfl rfl, atOnce_of (by decide +kernel) rfl, rfl, rfl⟩,
    ⟨passed_of _ _ rfl rfl rfl, atOnce_of (by decide +kernel) rfl, by decide +kernel⟩,
    ⟨passed_of _ _ rfl rfl rfl, atOnce_of (by decide +kernel) rfl, rfl⟩,
    ⟨passed_of _ _ rfl rfl rfl, by decide +kernel⟩, by decide +kernel⟩

theorem witness_RestatedReservation :
    ((charged .ON).inReset = false ∧ ChargedOn (charged .ON) 0 0 ∧ ChargedOn (movedSince .ON) 0 1 ∧ ChargedOn (chIn .ON) 0 0
      ∧ ((charged .ON).trunk 0).profile = some tprof ∧ 0 < 10000 ∧ ¬ (10000 ≤ 1000)
      ∧ ((charged .ON).trunk 0).reserved + 10000 ≤ tprof.rating + ((charged .ON).acct 0).reservation)
      ∧ (((charged .ON).updChan 0 fun r => { r with restating := some ⟨0, 2000⟩ }).heldBack = []
        ∧ (((charged .ON).updChan 0 fun r => { r with restating := some ⟨0, 2000⟩ }).chan 0).restating = some ⟨0, 2000⟩
        ∧ ((charged .ON).chan 0).lease = some lease)
      ∧ (let s := (charged .ON).updChan 0 fun r => { r with restating := some ⟨0, 2000⟩ }
        (leaseChannel (.shedClaim 0 0) = some 0 ∧ encodeRequest (.shedClaim 0 0) = none ∧ s.inReset = false)
          ∧ leaseChannel (.release ⟨1, 1#8, []⟩ 0#8) = some 0 ∧ Passed s (.release ⟨1, 1#8, []⟩ 0#8) ⟨1, 1#8, []⟩
          ∧ (s.chan 0).restating ≠ none ∧ s.heldBack = [] ∧ InTurn s (.shedClaim 0 0))
      ∧ ((holding (chIn .ON) (.release req 0#8)).heldBack = .release req 0#8 :: []
        ∧ TakenAtOnce ((holding (chIn .ON) (.release req 0#8)).setHeldBack []) (.release req 0#8))
      ∧ (let u := holding (inHandAt .admission) (.restate req 0#8 1#16)
        u.heldBack = [.restate req 0#8 1#16] ∧ (u.setHeldBack []).leaseBlocked (.restate req 0#8 1#16) = true)
      ∧ (leaseRequestOf (.release req 0#8) ≠ none ∧ Passed (chIn .ON) (.release req 0#8) req)
      ∧ (encodeRequest (.lapseClaim 0) = none ∧ sessionPort (.lapseClaim 0) ≠ none ∧ ClaimTaken (chIn .ON) (.lapseClaim 0)
        ∧ leaseChannel (.shedClaim 0 0) ≠ none ∧ ClaimTaken (chIn .ON) (.shedClaim 0 0))
      ∧ (let u := holding completing (.shedClaim 0 0)
        u.inReset = false ∧ u.heldBack = .shedClaim 0 0 :: [] ∧ (u.setHeldBack []).leaseBlocked (.shedClaim 0 0) = false
          ∧ TakenFirst u (.shedClaim 0 0) u.inFlight [.serviceEvent 0, .abort 1, .completionAnswer 0 true]) :=
  ⟨⟨rfl, .inl rfl, .inl rfl, .inr ⟨rfl, rfl, rfl⟩, by decide +kernel⟩, by decide +kernel, ⟨⟨rfl, rfl, rfl⟩, rfl, passed_of _ _ rfl rfl rfl, by decide +kernel, rfl, inTurn_of rfl⟩,
    ⟨rfl, atOnce_of (by decide +kernel) rfl⟩, by decide +kernel, ⟨by decide, passed_of _ _ rfl rfl rfl⟩,
    ⟨rfl, by decide, claim_of rfl (by decide +kernel) rfl, by decide, claim_of rfl (by decide +kernel) rfl⟩,
    rfl, rfl, by decide +kernel, (takenFirst_iff _ _ _ _).2 (by decide +kernel)⟩

/-- A completion answer of another channel is in flight, and a claim and a request are taken at once all the same. -/
theorem witness_TakenAtOnce :
    TakenAtOnce completing (.shedClaim 0 5) ∧ TakenAtOnce completing (.lapseClaim 1) ∧ ¬ TakenAtOnce completing (.lapseClaim 0) :=
  ⟨⟨by decide +kernel, fun c h hc => by
      rcases h with h | ⟨p, h, _⟩
      · cases h; revert hc; decide
      · cases h⟩,
    ⟨by decide +kernel, fun c h hc => by
      rcases h with h | ⟨p, h, h1⟩
      · cases h
      · cases h; revert hc h1; revert c; decide +kernel⟩,
    fun h => h.2 0 (.inr ⟨0, rfl, by decide +kernel⟩) (by decide)⟩

/-- Something is held back for each reason, and something for none. -/
theorem witness_HeldBackBecause :
    HeldBackBecause ((charged .ON).updChan 0 fun r => { r with restating := some ⟨0, 2000⟩ }) (.closeClaim 0)
      ∧ HeldBackBecause (holding live (.release req 0#8)) (.lapseClaim 0)
      ∧ HeldBackBecause (holding live (.inhibitClaim 1 0)) (.resumeClaim 1 0)
      ∧ HeldBackBecause (queued.updPass 0 fun _ => ⟨some ⟨0, 1000, .asked⟩, false⟩) (.restate req 0#8 1#16)
      ∧ HeldBackBecause ((chIn .SHED).setInHand 0 (some ⟨.port 0, .SHED, .admission⟩)) (.inhibitClaim 1 0)
      ∧ (charged .ON).leaseBlocked (.closeClaim 0) = false :=
  ⟨.inl ⟨0, by decide +kernel, .inr ⟨0, rfl, by decide +kernel⟩⟩,
    .inr (.inl ⟨0, rfl, _, List.mem_singleton.2 rfl, .inl (by decide +kernel)⟩),
    .inr (.inr (.inl ⟨0, rfl, _, List.mem_singleton.2 rfl, rfl⟩)),
    .inr (.inr (.inr (.inl ⟨req, 0, 1#16, rfl, .inr ⟨0, _, rfl, rfl, by decide⟩⟩))),
    .inr (.inr (.inr (.inr ⟨1, 0, rfl, by decide +kernel, .inr rfl⟩))), by decide +kernel⟩

theorem witness_OpenClaimRestampsLeases : ClaimTaken live (.openClaim 0 2#16) ∧ (3 : Port) ≠ 0 :=
  ⟨claim_of rfl (by decide +kernel) rfl, by decide⟩

theorem witness_LapseAndCloseClaims :
    (ClaimTaken (charged .ON) (.lapseClaim 0) ∧ (charged .ON).holderPort 0 = some 0 ∧ (charged .ON).holderPort 1 ≠ some 0
      ∧ ((charged .ON).chan 0).lease = some lease ∧ lease.orphan = some .KEEP)
      ∧ (let s := (charged .ON).updChan 0 fun r => { r with lease := some { lease with orphan := some (.HAND 1) } }
        ClaimTaken s (.lapseClaim 0) ∧ s.holderPort 0 = some 0 ∧ (1 : Port) ≠ 0 ∧ (s.viewOf 1).standing = .LIVE)
      ∧ (let s := (charged .ON).updChan 0 fun r => { r with lease := some { lease with orphan := some .DROP } }
        ClaimTaken s (.lapseClaim 0) ∧ s.holderPort 0 = some 0 ∧ some Orphan.DROP ≠ some .KEEP
          ∧ ∀ q, some Orphan.DROP = some (.HAND q) → q = 0 ∨ (s.viewOf q).standing ≠ .LIVE)
      ∧ ClaimTaken (charged .ON) (.closeClaim 0)
      ∧ (∀ st ∈ [ChanState.ON, .PROBE], let s := (charged st).updChan 0 fun r => { r with lease := some { lease with orphan := some .DROP } };
        lapseEnds s 0 0 = true ∧ closeEnds s 0 0 = true ∧ lapseEnds s 0 1 = false ∧ isDriven (s.chan 0).state = true
          ∧ (s.acct 0).charged = some 0 ∧ (s.chan 0).lockedOut = false)
      ∧ (closeEnds queued 0 0 = true ∧ (queued.queue 0).head?.map (·.channel) = some 0 ∧ (queued.chan 0).trunk = some 0) :=
  ⟨⟨claim_of rfl (by decide +kernel) rfl, by decide +kernel⟩, ⟨claim_of rfl (by decide +kernel) rfl, by decide +kernel⟩,
    ⟨claim_of rfl (by decide +kernel) rfl, by decide +kernel, by decide, by intro q h; simp at h⟩,
    claim_of rfl (by decide +kernel) rfl, by decide +kernel, by decide +kernel⟩

theorem witness_ShedAndTripClaims :
    ClaimTaken (charged .ON) (.shedClaim 0 0) ∧ isDriven ((charged .ON).chan 0).state = true
      ∧ ClaimTaken (charged .PROBE) (.tripClaim 0 0 1310720 false) ∧ ClaimTaken live (.tripClaim 0 0 0 true)
      ∧ isDriven (live.chan 0).state = false :=
  ⟨claim_of rfl (by decide +kernel) rfl, by decide +kernel, claim_of rfl (by decide +kernel) rfl,
    claim_of rfl (by decide +kernel) rfl, by decide +kernel⟩

theorem witness_QueueEntryAndWithholdClaims :
    ((chIn .IDLE).chan 0).trunk = some 0 ∧ ((chIn .IDLE).chan 0).lease = some lease ∧ Found.IDLE ≠ .QUEUED
      ∧ ClaimTaken (chIn .IDLE) (.queueEntryClaim 0 .IDLE) ∧ ((chIn .IDLE).queue 0).Pairwise (fun a b => b.priority ≤ a.priority)
      ∧ (∀ e ∈ (chIn .IDLE).queue 0, e.channel ≠ 0) ∧ ((chIn .IDLE).chan 0).state = foundState .IDLE
      ∧ ClaimTaken (chIn .SHED) (.withholdClaim 0 .SHED) ∧ ((chIn .SHED).chan 0).state = foundState .SHED
      ∧ (let s := heated .TRIPPED 5 0 .IDLE
        ClaimTaken s (.queueEntryClaim 0 .IDLE) ∧ (s.trunk 0).state = some .TRIPPED ∧ s.queue 0 = [])
      ∧ (ClaimTaken live (.queueEntryClaim 0 .IDLE) ∧ ClaimTaken live (.withholdClaim 0 .SHED) ∧ (live.chan 0).lease = none
        ∧ (live.chan 0).state ≠ foundState .IDLE ∧ (live.chan 0).state ≠ foundState .SHED) :=
  ⟨rfl, rfl, by decide, claim_of rfl (by decide +kernel) rfl, by decide +kernel, by decide +kernel, rfl,
    claim_of rfl (by decide +kernel) rfl, rfl, ⟨claim_of rfl (by decide +kernel) rfl, rfl, rfl⟩,
    claim_of rfl (by decide +kernel) rfl, claim_of rfl (by decide +kernel) rfl, by decide +kernel⟩

theorem witness_AdmitClaim :
    (ClaimTaken (charged .IDLE) (.admitClaim 0 0 .IDLE 0#32 1000) ∧ (charged .IDLE).heldBack = []
      ∧ ((charged .IDLE).chan 0).state = foundState .IDLE)
      ∧ (ClaimTaken queued (.admitClaim 0 0 .QUEUED 0#32 1000) ∧ queued.heldBack = [] ∧ (queued.chan 0).state = foundState .QUEUED)
      ∧ (ClaimTaken live (.admitClaim 0 0 .SHED 0#32 1000) ∧ (live.chan 0).state ≠ foundState .SHED) :=
  ⟨⟨claim_of rfl (by decide +kernel) rfl, rfl, rfl⟩, ⟨claim_of rfl (by decide +kernel) rfl, rfl, rfl⟩,
    ⟨claim_of rfl (by decide +kernel) rfl, by decide +kernel⟩⟩

theorem witness_QueueUpkeep :
    (queued.chan 0).trunk = some 0 ∧ ClaimTaken queued (.waitExpiryClaim 0) ∧ ClaimTaken queued (.flushClaim 0 1310720)
      ∧ queued.inReset = false ∧ QueuesOk queued ∧ (⟨0, 3, 0#32, some 10000, none, false⟩ : Entry) ∈ queued.queue 0
      ∧ (∀ t, ∀ e ∈ live.queue t, e.channel = 0 → e.timer = none)
      ∧ (ClaimTaken expiredHead (.flushClaim 0 1310720) ∧ (expiredHead.chan 0).state = .QUEUED
        ∧ (expiredHead.chan 0).trunk = some 0 ∧ expiredHead.pass 0 = ⟨none, true⟩) :=
  ⟨rfl, claim_of rfl (by decide +kernel) rfl, claim_of rfl (by decide +kernel) rfl, rfl, by unfold QueuesOk; decide +kernel,
    by decide +kernel, by decide +kernel, claim_of rfl (by decide +kernel) rfl, rfl, rfl, rfl⟩

theorem witness_AdvanceAndCompletionClaims :
    ClaimTaken (charged .PROBE) (.advanceClaim 0) ∧ ((charged .PROBE).chan 0).state = .PROBE
      ∧ ClaimTaken (charged .FILL) (.completionClaim 0) ∧ ((charged .FILL).chan 0).state = .FILL
      ∧ ((charged .FILL).chan 0).lease = some lease ∧ 0 < lease.declared ∧ ChargedOn (charged .FILL) 0 0
      ∧ ((charged .FILL).trunk 0).slot = some 0 ∧ (ClaimTaken (movedSince .FILL) (.completionClaim 0)
        ∧ ChargedOn (movedSince .FILL) 0 1 ∧ ((movedSince .FILL).trunk 1).slot ≠ some 0) ∧ ClaimTaken live (.completionClaim 0) ∧ (live.chan 0).state ≠ .FILL :=
  ⟨claim_of rfl (by decide +kernel) rfl, rfl, claim_of rfl (by decide +kernel) rfl, rfl, rfl, by decide, .inl rfl, rfl,
    ⟨claim_of rfl (by decide +kernel) rfl, .inl rfl, by decide +kernel⟩, claim_of rfl (by decide +kernel) rfl, by decide +kernel⟩

theorem witness_FaultsTaken :
    ClaimTaken (charged .PROBE) (.prechargeFailureClaim 0 .PRECHARGE_SHORT)
      ∧ ClaimTaken (charged .FILL) (.prechargeFailureClaim 0 .PRECHARGE_TIMEOUT)
      ∧ ClaimTaken (charged .ON) (.shortDetectionTaken 0) ∧ isDriven ((charged .ON).chan 0).state = true :=
  ⟨claim_of rfl (by decide +kernel) rfl, claim_of rfl (by decide +kernel) rfl, claim_of rfl (by decide +kernel) rfl,
    by decide +kernel⟩

theorem witness_LineUnitClaims :
    (ClaimTaken live (.lineClaim 0 0 1000 3) ∧ (live.chan 0).state = .FREE)
      ∧ (let s := (chIn .ON).updChan 0 fun r => { r with lease := some ⟨.line 0, none, 1000, 3, 0⟩ }
        ClaimTaken s (.lineRelease 0 0) ∧ s.holder 0 = some (.line 0) ∧ ClaimTaken s (.inhibitClaim 1 0))
      ∧ (ClaimTaken (chIn .INHIBITED) (.resumeClaim 1 0) ∧ ((chIn .INHIBITED).chan 0).state = .INHIBITED
        ∧ (chIn .INHIBITED).holder 0 = some (.port 0 1#16))
      ∧ (∀ s ∈ [live, queued, charged .PROBE, charged .FILL, chIn .SHED, chIn .FAULTED],
        s.inReset = false ∧ s.inFlight = [] ∧ s.leaseBlocked (.inhibitClaim 1 0) = false)
      ∧ (∀ st ∈ [ChanState.IDLE, .SHED], let s := (chIn st).setInHand 0 (some ⟨.port 0, .IDLE, .admission⟩);
        s.inReset = false ∧ s.inHand 0 ≠ none ∧ s.outOfTurn (.inhibitClaim 1 0) = false)
      ∧ (let u := holding ((chIn .ON).setInHand 0 (some ⟨.port 0, .IDLE, .admitted⟩)) (.inhibitClaim 1 0)
        u.heldBack = [.inhibitClaim 1 0] ∧ u.inHand 0 ≠ none) :=
  ⟨⟨claim_of rfl (by decide +kernel) rfl, rfl⟩,
    ⟨claim_of rfl (by decide +kernel) rfl, rfl, claim_of rfl (by decide +kernel) rfl⟩,
    ⟨claim_of rfl (by decide +kernel) rfl, rfl, rfl⟩, by decide +kernel, by decide +kernel, by decide +kernel⟩

theorem witness_ProfileLockoutAndOnStable :
    (ClaimTaken commission (.channelProfileClaim (.write 0) 0 defaultProfile) ∧ (commission.chan 0).state = .FREE)
      ∧ ClaimTaken live (.channelProfileClaim .apply 0 defaultProfile) ∧ ClaimTaken live (.lockoutReleaseClaim 0)
      ∧ live.inReset = false :=
  ⟨⟨claim_of rfl (by decide +kernel) rfl, rfl⟩, claim_of rfl (by decide +kernel) rfl, claim_of rfl (by decide +kernel) rfl, rfl⟩

theorem witness_EnergizeChecks :
    (Passed commission (.energize req 0#8) req ∧ commission.config.phase = .COMMISSION)
      ∧ (Passed live (.energize req 12#8) req ∧ live.config.phase = .SERVICE ∧ 12 ≤ (12#8).toNat)
      ∧ (Passed (inHandAt .admission) (.energize req 0#8) req ∧ (inHandAt .admission).energizeBlocked 0 = true)
      ∧ (Passed live (.energize req 0#8) req ∧ live.energizeBlocked 0 = false ∧ (live.chan 0).state = .FREE)
      ∧ (Passed (chIn .FAULTED) (.energize req 0#8) req ∧ (chIn .FAULTED).energizeBlocked 0 = false
        ∧ (chIn .FAULTED).holder 0 = some (.port 0 ((chIn .FAULTED).viewOf 0).epoch))
      ∧ (Passed (chIn .ON) (.energize ⟨1, 1#8, []⟩ 0#8) ⟨1, 1#8, []⟩ ∧ ((chIn .ON).chan 0).state ≠ .FREE
        ∧ (chIn .ON).holder 0 ≠ some (.port 1 ((chIn .ON).viewOf 1).epoch))
      ∧ (live.inReset = false ∧ live.holder 0 ≠ some (.line 0))
      ∧ (∀ st ∈ [ChanState.FAULTED, .QUEUED, .PROBE, .FILL, .ON, .INHIBITED], let s := chIn st;
        s.inReset = false ∧ s.energizeBlocked 0 = false ∧ s.holder 0 = some (.port 0 1#16) ∧ (s.chan 0).state = st)
      ∧ (let s := live.updPass 2 fun _ => ⟨some ⟨11, 1000, .asked⟩, false⟩
        s.energizeBlocked 11 = true ∧ s.energizeBlocked 0 = false ∧ s.inReset = false ∧ s.inHand 11 = none) :=
  ⟨⟨passed_of _ _ rfl rfl rfl, rfl⟩, ⟨passed_of _ _ rfl rfl rfl, rfl, by decide⟩,
    ⟨passed_of _ _ rfl rfl rfl, by decide +kernel⟩, ⟨passed_of _ _ rfl rfl rfl, by decide +kernel⟩,
    ⟨passed_of _ _ rfl rfl rfl, by decide +kernel⟩, ⟨passed_of _ _ rfl rfl rfl, by decide +kernel⟩, by decide +kernel,
    by decide +kernel, by decide +kernel⟩

theorem witness_EnergizeArrival :
    ((chIn .IDLE).chan 0).trunk = some 0 ∧ ((chIn .IDLE).trunk 0).profile = some tprof ∧ Found.IDLE ≠ .QUEUED
      ∧ ((chIn .IDLE).chan 0).state = foundState .IDLE ∧ (chIn .IDLE).energizeBlocked 0 = false
      ∧ Passed (chIn .IDLE) (.energize req 0#8) req ∧ (chIn .IDLE).config.phase = .SERVICE
      ∧ (chIn .IDLE).holder 0 = some (.port 0 ((chIn .IDLE).viewOf 0).epoch) ∧ (chIn .IDLE).inReset = false
      ∧ (live.profile 0).precharge = none ∧ ((runWith (.PROBE 1) none none).profile 0).precharge = some pre :=
  ⟨rfl, rfl, by decide, rfl, by decide +kernel, passed_of _ _ rfl rfl rfl, rfl, rfl, rfl, rfl, rfl⟩

/-- The other branches of the same statement: a TRIPPED trunk, a need above the rating, permission withheld, a queue that is not
empty. Each holds of a port's ENERGIZE and of the Line Unit's. -/
theorem witness_EnergizeArrival_branches :
    (let s := heated .TRIPPED 1310720 0 .IDLE;
      s.inReset = false ∧ s.port 0 = portLive ∧ s.energizeBlocked 0 = false ∧ s.holder 0 = some (.port 0 1#16)
        ∧ (s.trunk 0).state = some .TRIPPED)
    ∧ (let s := (chIn .IDLE).updChan 0 fun r => { r with lease := some { lease with declared := 10001 } };
      s.inReset = false ∧ s.port 0 = portLive ∧ s.energizeBlocked 0 = false ∧ s.holder 0 = some (.port 0 1#16)
        ∧ (s.trunk 0).state ≠ some .TRIPPED ∧ tprof.rating < s.need 0)
    ∧ (let s := (chIn .SHED).updLine 0 fun r => { r with binding := .VETO 0, level := some false };
      s.inReset = false ∧ s.port 0 = portLive ∧ s.energizeBlocked 0 = false ∧ s.holder 0 = some (.port 0 1#16)
        ∧ s.need 0 ≤ tprof.rating ∧ s.withheld 0 = true)
    ∧ (let s := (chIn .IDLE).updQueue 0 fun _ => [⟨1, 3, 0#32, none, none, false⟩];
      s.inReset = false ∧ s.port 0 = portLive ∧ s.energizeBlocked 0 = false ∧ s.holder 0 = some (.port 0 1#16)
        ∧ s.withheld 0 = false ∧ s.queue 0 ≠ [])
    ∧ (let s := (chIn .IDLE).updChan 0 fun r => { r with lease := some ⟨.line 2, none, 10000, 3, 0⟩ };
      s.inReset = false ∧ s.energizeBlocked 0 = false ∧ s.holder 0 = some (.line 2) ∧ s.need 0 ≤ tprof.rating) := by
  decide +kernel

theorem witness_EnergizeAnswers :
    ((inHandAt .admission).inReset = false ∧ (inHandAt .admission).inHand 0 = some ⟨.port 0, .IDLE, .admission⟩)
      ∧ (NothingHeld (inHandAt .entry) ∧ ((inHandAt .entry).chan 0).trunk = some 0
        ∧ (inHandAt .entry).inHand 0 = some ⟨.port 0, .IDLE, .entry⟩)
      ∧ (NothingHeld (inHandAt .withhold) ∧ (inHandAt .withhold).inHand 0 = some ⟨.port 0, .IDLE, .withhold⟩)
      ∧ (NothingHeld (inHandAt .admitted) ∧ Found.IDLE ≠ .QUEUED
        ∧ (inHandAt .admitted).inHand 0 = some ⟨.port 0, .IDLE, .admitted⟩)
      ∧ ((holding live (.release req 0#8)).waiting = [] ∧ (holding live (.release req 0#8)).heldBack ≠ []
        ∧ (live.setWaiting [.energize req 0#8]).heldBack = [] ∧ (live.setWaiting [.energize req 0#8]).waiting ≠ [])
      ∧ (let u := (holding (chIn .IDLE) (.release req 0#8)).setWaiting [.energize ⟨1, 1#8, []⟩ 0#8]
        u.heldBack ≠ [] ∧ u.waiting ≠ [] ∧ u.admissionSettled.inFlight
          = [.freeReport 0, .responseReady 0 .OK [], .responseReady 1 .STATE [0#8, 0xFF#8]])
      ∧ (let s := (inHandAt .entry).updQueue 0 fun _ => [⟨1, 3, 0#32, none, none, false⟩, ⟨0, 3, 1#32, none, some 1312001, false⟩]
        flushHeat (s.queue 0) 0 = some 1312001 ∧ flushHeat (s.queue 0) 1 = none ∧ (s.chan 0).trunk = some 0
          ∧ s.inHand 0 = some ⟨.port 0, .IDLE, .entry⟩)
      ∧ Passed (inHandAt .entry) (.energize req 0#8) req :=
  ⟨⟨rfl, rfl⟩, ⟨⟨rfl, rfl⟩, rfl, rfl⟩, ⟨⟨rfl, rfl⟩, rfl⟩, ⟨⟨rfl, rfl⟩, by decide, rfl⟩, ⟨rfl, by decide, rfl, by decide⟩,
    by decide +kernel, by decide +kernel, passed_of _ _ rfl rfl rfl⟩

theorem witness_ServicePass :
    (live.inReset = false ∧ live.pass 0 = ⟨none, false⟩ ∧ live.queue 0 = [] ∧ queued.pass 0 = ⟨none, false⟩
      ∧ queued.queue 0 = ⟨0, 3, 0#32, some 10000, none, false⟩ :: [])
      ∧ (expiredHead.pass 0 = ⟨none, true⟩ ∧ (expiredHead.queue 0).head?.map (·.expired) = some true
        ∧ ((after (.waitExpiryClaim 0) expiredHead).queue 0).map (fun e => (e.channel, e.expired)) = [(1, false)])
      ∧ ((queued.updPass 0 fun _ => ⟨some ⟨0, 1000, .asked⟩, true⟩).pass 0 = ⟨some ⟨0, 1000, .asked⟩, true⟩
        ∧ NothingHeld (queued.updPass 0 fun _ => ⟨some ⟨0, 1000, .asked⟩, true⟩))
      ∧ ((live.updPass 0 fun _ => ⟨some ⟨0, 1000, .settled⟩, false⟩).pass 0 = ⟨some ⟨0, 1000, .settled⟩, false⟩
        ∧ PassStage.settled ≠ .asked ∧ NothingHeld (live.updPass 0 fun _ => ⟨some ⟨0, 1000, .settled⟩, false⟩)) :=
  ⟨⟨rfl, rfl, rfl, rfl, rfl⟩, ⟨rfl, rfl, by decide +kernel⟩, ⟨rfl, rfl, rfl⟩, ⟨rfl, by decide, rfl, rfl⟩⟩

theorem witness_HeatStep :
    live.inReset = false ∧ (live.trunk 0).profile = some tprof ∧ tprof.rating < 12 * 65535 ∧ (live.trunk 0).heat ≤ 2097151
      ∧ ((live.updTrunk 0 fun r => { r with profile := none }).trunk 0).profile = none
      ∧ (heated .NORMAL 2048 10000 .ON).trunkCurrent 0 = tprof.rating
      ∧ (heated .NORMAL 2097151 10001 .ON).trunkCurrent 0 = tprof.rating + 1 := by decide +kernel

theorem witness_TrunkTransition :
    (∀ st ∈ [TrunkState.NORMAL, .WARM, .SHEDDING, .TRIPPED], let s := heated st 524288 0 .ON;
      s.inReset = false ∧ (s.trunk 0).profile = some tprof ∧ (s.trunk 0).state = some st)
    ∧ (∀ x ∈ [(TrunkState.NORMAL, 524799, 524287), (.WARM, 524800, 524288), (.WARM, 1049600, 1048575), (.WARM, 1049601, 1048576),
        (.SHEDDING, 1312000, 1310719), (.SHEDDING, 1312001, 1310720)],
      ((after (.budgetIntervalExpiry 0) (heated x.1 x.2.1 0 .ON)).trunk 0).heat = x.2.2)
    ∧ drivenChannels (heated .SHEDDING 1312001 0 .ON) 0 = [0] ∧ drivenChannels (heated .SHEDDING 1312001 0 .IDLE) 0 = []
    ∧ trunkPorts (heated .SHEDDING 1312001 0 .IDLE) 0 = [0]
    ∧ (((heated .WARM 1049601 0 .ON).updTrunk 0 fun r => { r with shedInHand := some ⟨0, 5, true⟩ }).trunk 0).shedInHand
      = some ⟨0, 5, true⟩ := by decide +kernel

theorem witness_OverdrawCheck :
    live.inReset = false ∧ (live.trunk 0).profile = some tprof ∧ (live.trunk 0).state = some .NORMAL
      ∧ nextTrunkState .NORMAL ((live.trunk 0).nextHeat (live.trunkCurrent 0)) = .NORMAL
      ∧ ((charged .ON).chan 0).trunk = some 0 ∧ ((charged .ON).chan 0).state = .ON
      ∧ (∀ n ∈ [0, 14, 15], let s := (heated .NORMAL 0 1201 .ON).updAcct 0 fun a => { a with runCount := n };
        (s.acct 0).reservation * (100 + tprof.margin) < s.sense.current[(0 : Channel)] * 100 ∧ (s.acct 0).runCount = n)
      ∧ (let s := heated .NORMAL 0 1200 .ON
        s.sense.current[(0 : Channel)] * 100 ≤ (s.acct 0).reservation * (100 + tprof.margin))
      ∧ ((movedSince .ON).acct 0).charged.getD 0 = 1
      ∧ nextTrunkState .NORMAL (((heated .NORMAL 524800 1201 .ON).trunk 0).nextHeat 1201) = .WARM := by decide +kernel

theorem witness_Shedding :
    (let s := (charged .ON).updTrunk 0 (fun r => { r with state := some .SHEDDING, shedTimer := some 0, lastShed := some 0 });
      s.inReset = false ∧ (s.trunk 0).state = some .SHEDDING ∧ (s.trunk 0).shedTimer = some 0
        ∧ (s.trunk 0).lastShed = some 0 ∧ (s.trunk 0).shedInHand = none ∧ s.candidate 0 = some 0)
      ∧ (live.trunk 0).state ≠ some .SHEDDING ∧ live.candidate 0 = none
      ∧ (let s := live.updTrunk 0 (fun r => { r with state := some .SHEDDING, shedInHand := some ⟨0, 5, true⟩ });
        (s.trunk 0).shedInHand = some ⟨0, 5, true⟩ ∧ (s.trunk 0).owed = [] ∧ (s.trunk 0).state = some .SHEDDING)
      ∧ (∀ current ∈ [true, false], let s := (heated .SHEDDING 1048576 0 .ON).updTrunk 0 fun r => { r with
          shedInHand := some ⟨0, 5, current⟩, owed := [7] };
        s.inReset = false ∧ (s.trunk 0).state = some .SHEDDING ∧ (s.trunk 0).shedTimer = some 0
          ∧ (s.trunk 0).lastShed = some 1048576 ∧ (s.trunk 0).shedInHand = some ⟨0, 5, current⟩)
      ∧ (((heated .TRIPPED 1310720 0 .ON).updTrunk 0 fun r => { r with shedInHand := some ⟨0, 5, false⟩ }).trunk 0).state
        ≠ some .SHEDDING
      ∧ (let s := ((charged .ON).updChan 0 fun r => { r with stamp := some 4294967295#32 }).setAdmissions 1#32
        (s.chan 0).stamp = some 4294967295#32 ∧ s.age 0 = 2) := by
  decide +kernel

theorem witness_TripAnswersAndConfirmation :
    let s := live.updTrunk 0 fun r => { r with trips := [⟨5, [0, 1]⟩, ⟨6, [2]⟩] };
    s.inReset = false
      ∧ ((s.trunk 0).trips = [] ++ ⟨5, [0, 1]⟩ :: [⟨6, [2]⟩] ∧ (0 : Channel) ∈ [(0 : Channel), 1] ∧ [(0 : Channel), 1].erase 0 ≠ [])
      ∧ ((s.trunk 0).trips = [⟨5, [0, 1]⟩] ++ ⟨6, [2]⟩ :: [] ∧ (∀ x ∈ [(⟨5, [0, 1]⟩ : Trip)], 2 ∉ x.awaited)
        ∧ (2 : Channel) ∈ [(2 : Channel)] ∧ [(2 : Channel)].erase 2 = [])
      ∧ (∀ x ∈ (s.trunk 0).trips, 3 ∉ x.awaited) := by decide +kernel

theorem witness_ReservationClaims :
    (live.inReset = false ∧ (live.acct 0).charged = none ∧ 0 < 10000)
      ∧ ((charged .ON).acct 0).charged = some 0
      ∧ (((charged .ON).trunk 0).slot = some 0 ∧ ((charged .ON).chan 0).lease = some lease ∧ 0 < lease.declared)
      ∧ (((charged .ON).updTrunk 0 fun r => { r with slot := none }).trunk 0).slot ≠ some 0
      ∧ ((chIn .ON).inReset = false ∧ ((chIn .ON).acct 0).charged = none) := by decide +kernel

theorem witness_TrunkProfileClaim :
    (charged .ON).inReset = false ∧ ({ tprof with rating := 999 } : TrunkProfile).rating < ((charged .ON).trunk 0).reserved
      ∧ ((charged .ON).trunk 0).reserved ≤ ({ tprof with rating := 1000 } : TrunkProfile).rating
      ∧ ((charged .ON).trunk 0).profile.isSome = true
      ∧ ((live.updTrunk 0 fun r => { r with profile := none }).trunk 0).profile = none
      ∧ (∀ o ∈ [Origin.write 0, .apply], (charged .ON).outOfTurn (.trunkProfileClaim o 0 tprof) = false)
      ∧ ((heated .NORMAL 1048576 0 .ON).trunk 0).state ≠ some .SHEDDING := by decide +kernel

theorem witness_TrunkClear :
    Passed live (.trunkClear req 3#8) req ∧ 3 ≤ (3#8).toNat
      ∧ Passed live (.trunkClear req (BitVec.ofNat 8 (2 : Trunk).val)) req :=
  ⟨passed_of _ _ rfl rfl rfl, by decide, passed_of _ _ rfl rfl rfl⟩

theorem runOf_witness (phase : RunPhase) (pending : Option RunClaim) (us : Option Nat) :
    RunOf (runWith phase pending us) 0 0 ⟨0, phase, pending, us⟩ := by
  refine ⟨rfl, rfl, fun u h => ?_⟩
  match u with
  | 0 => rfl
  | 1 => exact absurd h (Option.some_ne_none _).symm
  | 2 => exact absurd h (Option.some_ne_none _).symm

theorem noPending_of {phase : RunPhase} {pending : Option RunClaim} {us : Option Nat} {k : RunClaim}
    (hk : (pending == some k) = false) (u : Trunk) (r : Run) (h : (runWith phase pending us).run u = some r) (_ : r.channel = 0) :
    r.pending ≠ some k := by
  match u with
  | 0 => cases h; simpa using hk
  | 1 => exact absurd h (Option.some_ne_none _).symm
  | 2 => exact absurd h (Option.some_ne_none _).symm

theorem witness_ProbePhase :
    (runWith (.PROBE 4) none (some 0)).inReset = false ∧ ((runWith (.PROBE 4) none (some 0)).profile 0).precharge = some pre
      ∧ ((runWith (.PROBE 4) none (some 0)).chan 0).trunk = some 0
      ∧ (runWith (.PROBE 4) none (some 0)).run 0 = some ⟨0, .PROBE 4, none, some 0⟩
      ∧ (∀ d n us, live.run 0 ≠ some ⟨d, .PROBE n, none, some us⟩)
      ∧ RunOf (runWith (.PROBE 4) (some .ADVANCE) none) 0 0 ⟨0, .PROBE 4, some .ADVANCE, none⟩
      ∧ InTurn (runWith (.PROBE 4) none (some 0)) (.start 0)
      ∧ (∀ b, InTurn (runWith (.PROBE 4) (some .ADVANCE) none) (.advanceAnswer 0 b))
      ∧ (∀ b, InTurn (runWith (.PROBE 1) none (some 9)) (.advanceAnswer 0 b))
      ∧ (∀ u r, (runWith (.PROBE 1) none (some 9)).run u = some r → r.channel = 0 → r.pending ≠ some .ADVANCE)
      ∧ (InTurn live (.start 0) ∧ ((live.updChan 0 fun r => { r with trunk := none }).chan 0).trunk = none
        ∧ (live.profile 0).precharge = none)
      ∧ (live.setRun 0 (some ⟨0, .PROBE 1, none, some 0⟩)).run 0 = some ⟨0, .PROBE 1, none, some 0⟩ :=
  ⟨rfl, rfl, rfl, rfl, fun _ _ _ h => Option.some_ne_none _ h.symm, runOf_witness _ _ _, inTurn_of rfl, fun _ => inTurn_of rfl,
    fun _ => inTurn_of rfl, noPending_of rfl, ⟨inTurn_of rfl, rfl, rfl⟩, rfl⟩

theorem witness_FillPhase :
    (runWith (.FILL (some 9)) none (some 0)).inReset = false
      ∧ ((runWith (.FILL (some 9)) none (some 0)).profile 0).precharge = some pre
      ∧ (runWith (.FILL (some 9)) none (some 0)).run 0 = some ⟨0, .FILL (some 9), none, some 0⟩
      ∧ (∀ d timer us, live.run 0 ≠ some ⟨d, .FILL timer, none, some us⟩)
      ∧ RunOf (runWith (.FILL (some 9)) none (some 0)) 0 0 ⟨0, .FILL (some 9), none, some 0⟩
      ∧ (∀ u timer us, live.run u ≠ some ⟨0, .FILL timer, none, us⟩)
      ∧ (∀ d us period, live.run 0 ≠ some ⟨d, .FILL (some us), none, period⟩)
      ∧ ((live.profile 0).precharge = none
        ∧ (live.setRun 0 (some ⟨0, .FILL none, none, some 0⟩)).run 0 = some ⟨0, .FILL none, none, some 0⟩) :=
  ⟨rfl, rfl, rfl, fun _ _ _ h => Option.some_ne_none _ h.symm, runOf_witness _ _ _,
    fun u _ _ h => by match u with | 0 | 1 | 2 => exact Option.some_ne_none _ h.symm,
    fun _ _ _ h => Option.some_ne_none _ h.symm, rfl, rfl⟩

theorem witness_RunEnds :
    live.inReset = false ∧ RunOf (runWith (.FILL none) (some .COMPLETION) none) 0 0 ⟨0, .FILL none, some .COMPLETION, none⟩
      ∧ RunOf (runWith (.FILL none) (some .FAILURE) none) 0 0 ⟨0, .FILL none, some .FAILURE, none⟩
      ∧ (∀ u, (live.run u).map (·.channel) ≠ some 0)
      ∧ (∀ i, InTurn (runWith (.FILL none) (some .COMPLETION) none) i ∧ InTurn (runWith (.FILL none) (some .FAILURE) none) i
        ∧ InTurn live i)
      ∧ (∀ u x, (runWith (.PROBE 1) none (some 9)).run u = some x → x.channel = 0 → x.pending ≠ some .COMPLETION)
      ∧ (∀ u x, (runWith (.PROBE 1) none (some 9)).run u = some x → x.channel = 0 → x.pending ≠ some .FAILURE)
      ∧ (∀ i, InTurn (runWith (.PROBE 1) none (some 9)) i)
      ∧ (let i := Instr.shedClaim 0 0
        encodeRequest i = none ∧ leaseChannel i ≠ none ∧ completing.inReset = false ∧ completing.outOfTurn i = false
          ∧ completing.leaseBlocked i = false
          ∧ TakenFirst completing i (completing.arrive i).inFlight [.serviceEvent 0, .abort 1, .completionAnswer 0 true])
      ∧ (let i := Instr.release req 0#8
        leaseRequestOf i ≠ none ∧ Passed completing i req ∧ completing.leaseBlocked i = false
          ∧ TakenFirst completing i completing.inFlight [.serviceEvent 0, .abort 1, .completionAnswer 0 true])
      ∧ (let i := Instr.lapseClaim 0
        sessionPort i ≠ none ∧ completing.outOfTurn i = false ∧ completing.leaseBlocked i = false
          ∧ TakenFirst completing i (completing.arrive i).inFlight [.serviceEvent 0, .abort 1, .completionAnswer 0 true]) :=
  ⟨rfl, runOf_witness _ _ _, runOf_witness _ _ _, by decide +kernel, fun _ => ⟨inTurn_of rfl, inTurn_of rfl, inTurn_of rfl⟩,
    noPending_of rfl, noPending_of rfl, fun _ => inTurn_of rfl,
    ⟨rfl, by decide, rfl, by decide +kernel, by decide +kernel, (takenFirst_iff _ _ _ _).2 (by decide +kernel)⟩,
    ⟨by decide, passed_of _ _ rfl rfl rfl, by decide +kernel, (takenFirst_iff _ _ _ _).2 (by decide +kernel)⟩,
    by decide, by decide +kernel, by decide +kernel, (takenFirst_iff _ _ _ _).2 (by decide +kernel)⟩

theorem witness_Samples :
    live.inReset = false ∧ (live.driver 0).pulse = none
      ∧ ((live.updDriver 0 fun d => { d with pulse := some 5 }).driver 0).pulse ≠ none := by decide +kernel

theorem witness_PulsesAndShorts :
    (charged .FILL).inReset = false ∧ isPulsing ((charged .FILL).chan 0).state = true ∧ ((charged .FILL).driver 0).pulse = none
      ∧ ((charged .FILL).driver 0).shortHold = false
      ∧ (∀ t, ((charged .FILL).profile 0).trunk = some t → ((charged .FILL).trunk t).state ≠ some .TRIPPED)
      ∧ isPulsing (live.chan 0).state = false ∧ isDriven ((charged .FILL).chan 0).state = true
      ∧ ((charged .FILL).profile 0).limit < 1001
      ∧ (((charged .FILL).updDriver 0 fun d => { d with pulse := some 5 }).driver 0).pulse ≠ none
      ∧ (∀ d ∈ [false, true], ∀ p ∈ [none, some 5],
        let s := ((charged .FILL).updDriver 0 fun d => { d with pulse := p }).updSense fun b => { b with
          deferred := updAt b.deferred 0 fun _ => d };
        s.sense.deferred[(0 : Channel)] = d ∧ (s.driver 0).pulse = p ∧ s.switchClosed 0 = p.isSome)
      ∧ (charged .ON).switchClosed 0 = true ∧ (heated .TRIPPED 1310720 0 .ON).switchClosed 0 = false := by decide +kernel

theorem witness_LineLevels :
    (∀ s ∈ [lineWith .NONE none true, lineWith (.ASSIST 0 1000 3) (some false) true, lineWith (.VETO 0) none true],
        s.inReset = false ∧ (s.line 0).debounce ≠ none ∧ s.config.phase = .SERVICE ∧ (s.line 0).raw = true
          ∧ (s.line 0).level ≠ some true ∧ (s.line 0).leaseHeld = false ∧ (s.line 0).claim = none)
      ∧ (∀ s ∈ [lineWith .NONE (some true) false, lineWith (.ASSIST 0 1000 3) (some true) false,
          lineWith (.VETO 0) (some true) false], s.inReset = false ∧ (s.line 0).debounce ≠ none ∧ s.config.phase = .SERVICE
          ∧ (s.line 0).raw = false ∧ (s.line 0).level = some true)
      ∧ (commission.config.phase = .COMMISSION ∧ (live.line 0).debounce = none) := by decide +kernel

theorem witness_LineLevels_veto :
    VetoedByAnother (live.updLine 1 fun r => { r with binding := .VETO 0 }) 0 0 ∧ ¬ VetoedByAnother live 0 0 :=
  ⟨⟨1, by decide, rfl, by decide +kernel⟩, by rintro ⟨k, _, h, _⟩; revert h; revert k; decide +kernel⟩

theorem witness_LineAnswers :
    (let s := (lineWith (.ASSIST 0 1000 3) (some true) true).updLine 0 (fun r => { r with claim := some .CLAIM });
      s.inReset = false ∧ (s.line 0).binding = .ASSIST 0 1000 3 ∧ (s.line 0).claim = some .CLAIM
        ∧ (s.line 0).claim ≠ some .RELEASE)
      ∧ (∀ c cur prio, (live.line 0).binding ≠ .ASSIST c cur prio) :=
  ⟨by decide +kernel, fun _ _ _ h => by cases h⟩

theorem witness_ReportsAndBindingClaim :
    live.inReset = false
      ∧ ((live.updLine 0 fun r => { r with leaseHeld := true }).line 0).leaseHeld = true
      ∧ ((live.line 0).leaseHeld = false ∧ (live.line 0).claim = none ∧ live.config.phase = .SERVICE
        ∧ commission.config.phase = .COMMISSION)
      ∧ (((lineWith (.VETO 0) none false).line 0).binding = .VETO 0 ∧ ((lineWith (.VETO 0) none false).line 0).level ≠ some true)
      ∧ ((live.line 0).binding = .NONE)
      ∧ (∀ o ∈ [Origin.write 0, .apply], live.outOfTurn (.bindingClaim o 0 (.VETO 0)) = false) := by decide +kernel

theorem witness_WritesAndClose :
    (Passed live (.closeCommissioning req) req ∧ NoReports live req.port ∧ live.config.phase = .SERVICE)
      ∧ (Passed commission (.propose req (.lockout 0#8)) req ∧ NoReports commission req.port
        ∧ commission.config.phase = .COMMISSION)
      ∧ Passed commission (.trunkProfileWrite req ⟨0#8, 10#16, 10#16, 4#8, 1#8⟩) req
      ∧ Passed commission (.channelProfileWrite req ⟨0#8, 3#8, 0#8, 10#16, none⟩) req
      ∧ Passed commission (.lineBindingWrite req ⟨3#8, .NONE⟩) req
      ∧ Passed commission (.closeCommissioning req) req
      ∧ (∀ c t, ¬ ((commission.profile c).trunk = some t ∧ (commission.trunk t).profile = none))
      ∧ (let s := commission.updTrunk 0 fun r => { r with profile := none }
        Passed s (.closeCommissioning req) req ∧ NoReports s req.port
          ∧ (s.profile 0).trunk = some 0 ∧ (s.trunk 0).profile = none)
      ∧ commission.inFlight.filter isWriteClaim = []
      ∧ (let s := commission.setInFlight [.trunkProfileClaim (.write 1) 0 tprof, .channelProfileClaim (.write 2) 0 defaultProfile]
        Passed s (.closeCommissioning req) req ∧ s.inFlight.filter isWriteClaim = s.inFlight
          ∧ ∃ v, TakenInTurn s.inFlight (taken s (.closeCommissioning req) req) v ∧ v.config.phase = .COMMISSION
            ∧ (v.chan 0).trunk = none)
      ∧ (Passed (commission.setInFlight [.sessionReport 0 .OPEN]) (.closeCommissioning req) req
        ∧ Passed (commission.setInFlight [.sessionReport 0 .OPEN]) (.lineBindingWrite req ⟨3#8, .NONE⟩) req) :=
  ⟨⟨passed_of _ _ rfl rfl rfl, noReports_of _ rfl, rfl⟩, ⟨passed_of _ _ rfl rfl rfl, noReports_of _ rfl, rfl⟩,
    passed_of _ _ rfl rfl rfl, passed_of _ _ rfl rfl rfl, passed_of _ _ rfl rfl rfl, passed_of _ _ rfl rfl rfl,
    by decide +kernel, ⟨passed_of _ _ rfl rfl rfl, noReports_of _ rfl, by decide +kernel⟩, rfl,
    ⟨passed_of _ _ rfl rfl rfl, by decide +kernel, _,
      inTurn_two (by decide +kernel) (by decide +kernel) rfl rfl, by decide +kernel, by decide +kernel⟩,
    passed_of _ _ rfl rfl rfl, passed_of _ _ rfl rfl rfl⟩

theorem witness_ProposeRequest :
    Passed live (.propose req (.lockout 11#8)) req ∧ NoReports live req.port ∧ live.config.phase = .SERVICE
      ∧ trunkProfileOf ⟨2#8, 2500#16, 10#16, 16#8, 10#8⟩ = some (2, ⟨250000, 10, 16, 100⟩)
      ∧ lineBindingOf ⟨3#8, .ASSIST 11#8 655#16 7#8⟩ = some (3, .ASSIST 11 65500 7)
      ∧ (proposalOf (.lockout 11#8) = some (.lockout 11) ∧ proposalOf (.lockout 12#8) = none
        ∧ channelProfileOf ⟨11#8, 3#8, 15#8, 655#16, none⟩ = some (11, ⟨none, 15#4, 65500, none⟩)
        ∧ channelProfileOf ⟨0#8, 2#8, 0#8, 10#16, none⟩ = some (0, ⟨some 2, 0#4, 1000, none⟩)
        ∧ channelProfileOf ⟨0#8, 4#8, 0#8, 10#16, none⟩ = none ∧ channelProfileOf ⟨0#8, 0#8, 16#8, 10#16, none⟩ = none
        ∧ channelProfileOf ⟨0#8, 0#8, 0#8, 9#16, none⟩ = none ∧ channelProfileOf ⟨0#8, 0#8, 0#8, 656#16, none⟩ = none)
      ∧ (prechargeOf ⟨1#16, 4#8, 1#8, 4#8, 1#8, 1#8, 49#8, 1#8⟩ = some ⟨100, 2000, 1, 4, 1, 50, 49, 10000⟩
        ∧ prechargeOf ⟨655#16, 16#8, 255#8, 40#8, 15#8, 80#8, 255#8, 255#8⟩ = some ⟨65500, 8000, 255, 40, 15, 4000, 255, 2550000⟩
        ∧ prechargeOf ⟨1#16, 4#8, 1#8, 4#8, 1#8, 1#8, 50#8, 1#8⟩ = none
        ∧ prechargeOf ⟨1#16, 4#8, 1#8, 41#8, 1#8, 1#8, 1#8, 1#8⟩ = none)
      ∧ Passed (live.setInFlight [.sessionReport 0 .OPEN]) (.propose req (.lockout 11#8)) req :=
  ⟨passed_of _ _ rfl rfl rfl, noReports_of _ rfl, rfl, by decide +kernel, by decide +kernel, by decide +kernel, by decide +kernel,
    passed_of _ _ rfl rfl rfl⟩

theorem witness_ConcurAndWithdraw :
    (Passed commission (.concur req 1#16) req ∧ NoReports commission req.port ∧ commission.config.phase = .COMMISSION)
      ∧ (Passed live (.concur req 0#16) req ∧ Passed live (.withdraw req 1#16) req ∧ live.config.phase = .SERVICE
        ∧ (∀ us q body, live.config.slot ≠ some ⟨.OPEN us, 1#16, q, body⟩))
      ∧ (let s := proposed (.OPEN 1) (.lockout 0)
        Passed s (.concur req 1#16) req ∧ Passed s (.concur ⟨1, 1#8, []⟩ 1#16) ⟨1, 1#8, []⟩
          ∧ Passed s (.withdraw req 1#16) req ∧ Passed s (.withdraw ⟨1, 1#8, []⟩ 1#16) ⟨1, 1#8, []⟩ ∧ NoReports s 1
          ∧ s.config.phase = .SERVICE ∧ s.config.slot = some ⟨.OPEN 1, 1#16, 1, .lockout 0⟩ ∧ (1 : Port) ≠ req.port
          ∧ ¬ OwnConditionFails s (.lockout 0))
      ∧ OwnConditionFails (live.updTrunk 0 fun r => { r with profile := none }) (.channel 0 ⟨some 0, 0#4, 1000, none⟩)
      ∧ (Passed (live.setInFlight [.sessionReport 0 .OPEN]) (.concur req 1#16) req
        ∧ Passed (live.setInFlight [.sessionReport 0 .OPEN]) (.withdraw req 1#16) req) :=
  ⟨⟨passed_of _ _ rfl rfl rfl, noReports_of _ rfl, rfl⟩,
    ⟨passed_of _ _ rfl rfl rfl, passed_of _ _ rfl rfl rfl, rfl, fun _ _ _ h => Option.some_ne_none _ h.symm⟩,
    ⟨passed_of _ _ rfl rfl rfl, passed_of _ _ rfl rfl rfl, passed_of _ _ rfl rfl rfl, passed_of _ _ rfl rfl rfl,
      noReports_of _ rfl, rfl, rfl, by decide, by rintro ⟨c, new, t, h, _⟩; cases h⟩,
    ⟨0, _, 0, rfl, rfl, rfl⟩, passed_of _ _ rfl rfl rfl, passed_of _ _ rfl rfl rfl⟩

theorem witness_ProposalEnds :
    (proposed (.OPEN 0) (.lockout 0)).inReset = false
      ∧ (proposed (.OPEN 0) (.lockout 0)).config.slot = some ⟨.OPEN 0, 1#16, 1, .lockout 0⟩
      ∧ (∀ us n q body, live.config.slot ≠ some ⟨.OPEN us, n, q, body⟩)
      ∧ (proposed (.APPLYING 0) (.trunk 0 tprof)).config.slot = some ⟨.APPLYING 0, 1#16, 1, .trunk 0 tprof⟩
      ∧ (∀ change, InTurn (proposed (.OPEN 0) (.lockout 0)) (.sessionReport 1 change))
      ∧ (∀ x ∈ [(SessionChange.LAPSE, WithdrawCause.LAPSE), (.CLOSE, .CLOSE)],
        (x.1 = .LAPSE ∧ x.2 = .LAPSE) ∨ (x.1 = .CLOSE ∧ x.2 = .CLOSE)) :=
  ⟨rfl, rfl, fun _ _ _ _ h => Option.some_ne_none _ h.symm, rfl, fun _ => inTurn_of rfl, by decide⟩

theorem witness_OnlyTheseChange :
    exec (.start 0) live = .next (after (.start 0) live) ∧ Instr.start 0 ≠ .powerOnReset ∧ live.config.phase = .SERVICE
      ∧ windowOf (.start 0) = none
      ∧ ((live.updTrunk 0 fun r => { r with latch := true }).trunk 0).latch = true
      ∧ ((live.updChan 0 fun r => { r with lockedOut := true }).chan 0).lockedOut = true ∧ live.heldBack = [] :=
  ⟨rfl, by decide, rfl, rfl, rfl, rfl, rfl⟩

/-- TRUNK CLEAR carries it; a command that is no window, and the window of a PING, do not. -/
theorem witness_carriesTrunkClear :
    carriesTrunkClear (.trunkClear req 2#8) 2 ∧ ¬ carriesTrunkClear (.start 0) 2 ∧ ¬ carriesTrunkClear (.ping req) 2 := by
  refine ⟨⟨0, requestFrame 1#8 0x20#8 [2#8], 1#8, 0x20#8, [2#8], crc8 (covered 1#8 0x20#8 [2#8]), req, by decide +kernel,
    by decide +kernel, by decide +kernel⟩, ?_, ?_⟩
  · rintro ⟨p, bytes, tag, code, payload, crc, r, h, _⟩
    cases h
  · rintro ⟨p, bytes, tag, code, payload, crc, r, h, h1, h2⟩
    have e : checkFrame [0xA5#8, 0x01#8, 0x0B#8, 0x00#8, 0xD7#8] = .request 0x01#8 0x0B#8 [] 0xD7#8 := by decide +kernel
    have w : windowOf (.ping req) = some (0, [0xA5#8, 0x01#8, 0x0B#8, 0x00#8, 0xD7#8]) := by decide +kernel
    rw [w] at h; cases h
    rw [e] at h1; cases h1
    cases h2

/-- The invariants hold in a part in service with CH0 ON, so what every step keeps is not empty. -/
theorem witness_StepKeeps :
    (∀ t, trunkOk (live.trunk t)) ∧ AccountsOk live ∧ PortsOk live ∧ SlotOk live ∧ ChannelsOk live ∧ QueuesOk live
      ∧ LinesOk live := by
  refine ⟨?_, ?_, ?_, ?_, ?_, ?_, ?_⟩
  · unfold trunkOk; decide +kernel
  · unfold AccountsOk booked; decide +kernel
  · unfold PortsOk portOk; decide +kernel
  · exact ⟨by decide +kernel, fun x h => absurd h.symm (Option.some_ne_none x)⟩
  · unfold ChannelsOk chanOk; decide +kernel
  · unfold QueuesOk; decide +kernel
  · intro l
    have h : (live.line l).overruled = false ∧ (live.line l).leaseHeld = false ∧ (live.line l).claim = none := by
      revert l; decide +kernel
    refine ⟨⟨fun _ => h, ?_⟩, ?_⟩ <;> clear h <;> revert l <;> decide +kernel

end Sys2Proof.Tests
end

/-! The heat of the trunks at a budget interval expiry (R6, R8, R9): part 1 of the expiry sets the heat of its own trunk, and
neither the transition nor the overdraw check touches the heat of any trunk. -/

namespace Sys2Proof.Machine

/-! ### The heating and cooling arithmetic (R8, R9) -/

theorem heated_le_ceiling (h i ir tNom : Nat) : heated h i ir tNom ≤ Config.ceiling := Nat.min_le_left _ _

theorem cooled_le (h k : Nat) : cooled h k ≤ h := Nat.sub_le _ _

theorem heated_eq (h i ir tNom : Nat) :
    heated h i ir tNom = min 2097151 (h + max 1 ((i ^ 2 - ir ^ 2) * 2 ^ 20 / (3 * ir ^ 2 * tNom))) := by
  simp only [heated, heatingD, Config.ceiling, sq]

theorem TrunkRec.nextHeat_of_above {r : TrunkRec} {p : TrunkProfile} {i : Nat} (hp : r.profile = some p)
    (hi : p.rating < i) : r.nextHeat i = heated r.heat i p.rating p.tNom := by
  simp [TrunkRec.nextHeat, hp, hi]

theorem TrunkRec.nextHeat_of_not_above {r : TrunkRec} {p : TrunkProfile} {i : Nat} (hp : r.profile = some p)
    (hi : i ≤ p.rating) : r.nextHeat i = cooled r.heat p.k := by
  simp [TrunkRec.nextHeat, hp, hi]

theorem TrunkRec.nextHeat_of_unconfigured {r : TrunkRec} {i : Nat} (hp : r.profile = none) :
    r.nextHeat i = cooled r.heat 10 := by
  simp [TrunkRec.nextHeat, hp]

/-- Heating saturates at CEILING and cooling only lowers H, so H stays within its range (R9). -/
theorem TrunkRec.nextHeat_le_ceiling {r : TrunkRec} (i : Nat) (h : r.heat ≤ Config.ceiling) :
    r.nextHeat i ≤ Config.ceiling := by
  unfold TrunkRec.nextHeat
  split
  · split
    · exact heated_le_ceiling _ _ _ _
    · exact (cooled_le _ _).trans h
  · exact (cooled_le _ _).trans h

/-! ### Part 1 of the expiry sets one heat -/

theorem State.heatStep_heat_self (s : State) (t : Trunk) :
    ((s.heatStep t).trunk t).heat = (s.trunk t).nextHeat (s.trunkCurrent t) := by
  simp [State.heatStep]

theorem State.heatStep_heat_ne (s : State) {t v : Trunk} (h : v ≠ t) :
    ((s.heatStep t).trunk v).heat = (s.trunk v).heat := by
  simp only [State.heatStep]
  rw [State.updTrunk_ne _ _ _ _ h]

/-! ### Parts 2 and 3 of the expiry leave every heat -/

/-- An update of a trunk record that keeps its heat keeps the heat of every trunk. -/
@[simp] theorem State.updTrunk_heat (s : State) (t v : Trunk) {f : TrunkRec → TrunkRec} (hf : ∀ r, (f r).heat = r.heat) :
    ((s.updTrunk t f).trunk v).heat = (s.trunk v).heat := by
  rw [State.updTrunk_get]
  split
  · next h => rw [hf, h]
  · rfl

/-- Where the trunk records stand, each trunk reads as before. -/
theorem State.trunk_congr {s u : State} (h : u.trunks = s.trunks) (v : Trunk) : u.trunk v = s.trunk v :=
  congrArg (fun x : Vector TrunkRec 3 => x[v]) h

@[simp] theorem State.openSwitches_trunk (s : State) (t v : Trunk) : (s.openSwitches t).trunk v = s.trunk v :=
  State.trunk_congr (by simp) v

@[simp] theorem State.postTripped_trunk (s : State) (t v : Trunk) (heat : Nat) :
    (s.postTripped t heat).trunk v = s.trunk v :=
  State.trunk_congr (by simp) v

@[simp] theorem State.charge_heat (s : State) (c : Channel) (t v : Trunk) (mA : Nat) :
    ((s.charge c t mA).trunk v).heat = (s.trunk v).heat := by
  unfold State.charge
  cases (s.acct c).charged with
  | none => simp
  | some u =>
    dsimp only
    (repeat' split) <;> simp

@[simp] theorem State.makeShed_heat (s : State) (t v : Trunk) (heat : Nat) :
    ((s.makeShed t heat).trunk v).heat = (s.trunk v).heat := by
  unfold State.makeShed
  split
  · simp
  · split <;> simp

@[simp] theorem State.trip_heat (s : State) (t v : Trunk) : ((s.trip t).trunk v).heat = (s.trunk v).heat := by
  have claims (u : State) (l : List Channel) (heat : Nat) :
      (l.foldl (fun s c => s.send (.tripClaim t c heat false)) u).trunk v = u.trunk v :=
    foldl_frame (State.trunk · v) (by simp) rfl
  unfold State.trip
  dsimp only
  split <;> simp [claims]

@[simp] theorem State.enterState_heat (s : State) (t v : Trunk) (st : TrunkState) :
    ((s.enterState t st).trunk v).heat = (s.trunk v).heat := by
  cases st <;> simp [State.enterState]

@[simp] theorem State.overdrawCheck_heat (s : State) (t v : Trunk) (margin : Nat) (c : Channel) :
    ((s.overdrawCheck t margin c).trunk v).heat = (s.trunk v).heat := by
  unfold State.overdrawCheck State.overdrawRaise
  dsimp only
  (repeat' split) <;> simp

/-- The heat after the expiry is the heat after its part 1. -/
theorem State.budgetExpiry_heat (s : State) (t v : Trunk) :
    ((s.budgetExpiry t).trunk v).heat = ((s.heatStep t).trunk v).heat := by
  unfold State.budgetExpiry
  dsimp only
  split
  · refine foldl_frame (fun u => (u.trunk v).heat) (fun u c => u.overdrawCheck_heat t v _ c) ?_
    split <;> simp
  · rfl

theorem State.budgetExpiry_heat_self (s : State) (t : Trunk) :
    ((s.budgetExpiry t).trunk t).heat = (s.trunk t).nextHeat (s.trunkCurrent t) :=
  (s.budgetExpiry_heat t t).trans (s.heatStep_heat_self t)

theorem State.budgetExpiry_heat_ne (s : State) {t v : Trunk} (h : v ≠ t) :
    ((s.budgetExpiry t).trunk v).heat = (s.trunk v).heat :=
  (s.budgetExpiry_heat t v).trans (s.heatStep_heat_ne h)

theorem State.budgetExpiry_heat_le_ceiling (s : State) (t v : Trunk) (h : (s.trunk v).heat ≤ Config.ceiling) :
    ((s.budgetExpiry t).trunk v).heat ≤ Config.ceiling := by
  by_cases hv : v = t
  · subst hv
    rw [s.budgetExpiry_heat_self]
    exact TrunkRec.nextHeat_le_ceiling _ h
  · rwa [s.budgetExpiry_heat_ne hv]

/-- Out of reset the command is the expiry itself. -/
theorem exec_budgetIntervalExpiry (t : Trunk) (s : State) (h : s.inReset = false) :
    exec (.budgetIntervalExpiry t) s = .next (s.budgetExpiry t) :=
  congrArg _ (s.running_run _ h)

/-- Settles O37: the expiry's heat is that of its part 1, whose three branches are the statement's. -/
theorem heatStep : Obligations.HeatStep := by
  intro t s hrun
  refine ⟨s.budgetExpiry t, exec_budgetIntervalExpiry t s hrun, ⟨?heating, ?cooling, ?unconfigured⟩, ?others, ?range⟩
  case heating =>
    intro p hp hi
    rw [s.budgetExpiry_heat_self, ← heated_eq]
    exact TrunkRec.nextHeat_of_above hp hi
  case cooling =>
    intro p hp hi
    rw [s.budgetExpiry_heat_self]
    exact TrunkRec.nextHeat_of_not_above hp hi
  case unconfigured =>
    intro hp
    rw [s.budgetExpiry_heat_self]
    exact TrunkRec.nextHeat_of_unconfigured hp
  case others => exact fun v hv => s.budgetExpiry_heat_ne hv
  case range => exact fun v hv => s.budgetExpiry_heat_le_ceiling t v hv

end Sys2Proof.Machine

/-! PING and READ IDENT (R160, R165): the Port Unit answers both itself, and of the session only the supervision timer of a LIVE
port restarts (R161). -/

namespace Sys2Proof.Machine

open Sys2Proof.Safety

/-! ### The port's record after an answered request -/

/-- A taken request restarts the supervision timer (R161). -/
theorem takenPort_timer {i : Instr} {r : Req} {code : Byte} {payload : List Byte} (x : PortRec)
    (h : encodeRequest i = some (r, code, payload)) : (takenPort x i).timer = x.restart.timer := by
  simp [takenPort, h]

/-- The supervision timer of a LIVE port whose period is not 0 restarts at its period (R161). -/
theorem PortRec.restart_timer_of_live {x : PortRec} {ms : Nat} (hl : x.state = .LIVE) (hp : x.period = some ms)
    (h0 : ms ≠ 0) : x.restart.timer = some (ms * Config.msec) := by
  simp [PortRec.restart, hl, hp, h0]

/-- The forming of a response leaves the session of the port: its state and its timer (R155). -/
@[simp] theorem answeredPort_session (x : PortRec) (i : Instr) (st : Status) (payload : List Byte) :
    (answeredPort x i st payload).state = x.state ∧ (answeredPort x i st payload).timer = x.timer := by
  unfold answeredPort
  split <;> exact ⟨rfl, rfl⟩

/-- The record of the port in the state after an answered request. -/
@[simp] theorem answered_port (s : State) (i : Instr) (r : Req) (st : Status) (payload : List Byte) :
    (answered s i r st payload).port r.port = answeredPort (takenPort (s.port r.port) i) i st payload :=
  State.updPort_self _ _ _

theorem answered_state (s : State) (i : Instr) (r : Req) (st : Status) (payload : List Byte) :
    ((answered s i r st payload).port r.port).state = (s.port r.port).state := by
  simp

theorem answered_timer_of_live {s : State} {i : Instr} {r : Req} {code : Byte} {args : List Byte} {ms : Nat} (st : Status)
    (payload : List Byte) (he : encodeRequest i = some (r, code, args)) (hl : (s.port r.port).state = .LIVE)
    (hp : (s.port r.port).period = some ms) (h0 : ms ≠ 0) :
    ((answered s i r st payload).port r.port).timer = some (ms * Config.msec) := by
  rw [answered_port, (answeredPort_session _ _ _ _).2, takenPort_timer _ he, PortRec.restart_timer_of_live hl hp h0]

/-! ### PING -/

theorem exec_ping (r : Req) (s : State) :
    exec (.ping r) s = .next (s.hostRequest (.ping r) fun u => u.ownPing r.port) := rfl

theorem exec_ping_of_live {r : Req} {s : State} (h : Fresh s (.ping r) r) (hl : (s.port r.port).state = .LIVE) :
    exec (.ping r) s = .next (answered s (.ping r) r .OK []) := by
  rw [exec_ping, s.hostRequest_passed _ _ _ ⟨h, hl⟩, State.ownPing, s.finish_taken _ _ _ _ h]

theorem exec_ping_of_not_live {r : Req} {s : State} (h : Fresh s (.ping r) r) (hl : (s.port r.port).state ≠ .LIVE) :
    exec (.ping r) s = .next (answered s (.ping r) r .NOT_OPEN []) := by
  rw [exec_ping, s.hostRequest_notOpen _ _ _ h rfl hl]

/-! ### READ IDENT -/

theorem exec_readIdent (r : Req) (s : State) :
    exec (.readIdent r) s = .next (s.hostRequest (.readIdent r) fun u => u.ownReadIdent r.port) := rfl

/-- The part code, the revision, the port's index and its state, byte by byte (R165). -/
theorem State.ownReadIdent_eq (s : State) (p : Port) :
    s.ownReadIdent p
      = s.finish p .OK [0x12#8, 0x03#8, 0x01#8, BitVec.ofNat 8 p.val, portStateByte (s.port p).state] := by
  have hcode : be16 Config.partCode = [0x12#8, 0x03#8] := by decide
  rw [State.ownReadIdent, hcode]
  rfl

/-- READ IDENT reports the state in which its port was before it was taken: the taking keeps it. -/
theorem exec_readIdent_of_fresh {r : Req} {s : State} (h : Fresh s (.readIdent r) r) :
    exec (.readIdent r) s = .next (answered s (.readIdent r) r .OK
      [0x12#8, 0x03#8, 0x01#8, BitVec.ofNat 8 r.port.val, portStateByte (s.port r.port).state]) := by
  rw [exec_readIdent, s.hostRequest_fresh _ _ _ h (.inl rfl), State.ownReadIdent_eq, s.finish_taken _ _ _ _ h, taken_port,
    (takenPort_frame _ _).1]

/-- Settles O13: PING by the state of its port, READ IDENT in every state, and the port's record after either. -/
theorem pingAndReadIdent : Obligations.PingAndReadIdent := by
  refine ⟨?ping, fun _ _ h => exec_readIdent_of_fresh h, ?session⟩
  case ping =>
    intro r s h
    by_cases hl : (s.port r.port).state = .LIVE
    · rw [if_pos hl, exec_ping_of_live h hl]
    · rw [if_neg hl, exec_ping_of_not_live h hl]
  case session =>
    intro i r st payload s hi
    have henc : ∃ code, encodeRequest i = some (r, code, []) := by
      rcases hi with rfl | rfl <;> exact ⟨_, rfl⟩
    obtain ⟨_, he⟩ := henc
    exact ⟨answered_state s i r st payload, fun _ hl hp h0 => answered_timer_of_live st payload he hl hp h0⟩

end Sys2Proof.Machine

/-! The notice queue of a port: READ NOTICE (R170) and the taking of a posted copy (R168). -/

namespace Sys2Proof.Machine

open Sys2Proof.Safety

/-! ### READ NOTICE -/

theorem exec_readNotice (r : Req) (s : State) :
    exec (.readNotice r) s = .next (s.hostRequest (.readNotice r) fun u => u.ownReadNotice r.port) := rfl

/-- The forming of a response neither reads nor writes the notice queue and the lost count, so a change of these two may be
made after it. -/
theorem State.finish_updNotices (s : State) (p : Port) (st : Status) (payload : List Byte)
    (g : List QueuedNotice → List QueuedNotice) :
    (s.updPort p fun x => { x with queue := g x.queue, lost := 0 }).finish p st payload
      = (s.finish p st payload).updPort p fun x => { x with queue := g x.queue, lost := 0 } := by
  unfold State.finish
  rw [State.updPort_self]
  cases h : (s.port p).inHand with
  | none => rfl
  | some q => simp only [State.updPort_updPort]

theorem State.ownReadNotice_of_cons {s : State} {p : Port} {q : QueuedNotice} {rest : List QueuedNotice}
    (h : (s.port p).queue = q :: rest) :
    s.ownReadNotice p
      = (s.finish p .OK (noticeRecord q ++ [BitVec.ofNat 8 (s.port p).lost, BitVec.ofNat 8 rest.length])).updPort p
          fun x => { x with queue := rest, lost := 0 } := by
  simp only [State.ownReadNotice, h]
  exact s.finish_updNotices p _ _ fun _ => rest

theorem State.ownReadNotice_of_nil {s : State} {p : Port} (h : (s.port p).queue = []) :
    s.ownReadNotice p
      = (s.finish p .NONE [BitVec.ofNat 8 (s.port p).lost]).updPort p fun x => { x with lost := 0 } := by
  simp only [State.ownReadNotice, h]
  exact s.finish_updNotices p _ _ id

/-- The queue that READ NOTICE finds: the taking of its frame leaves it. -/
theorem taken_queue (s : State) (i : Instr) (r : Req) : ((taken s i r).port r.port).queue = (s.port r.port).queue := by
  simp

/-- The lost count that READ NOTICE finds: the taking of its frame leaves it. -/
theorem taken_lost (s : State) (i : Instr) (r : Req) : ((taken s i r).port r.port).lost = (s.port r.port).lost := by
  simp

theorem exec_readNotice_of_cons {r : Req} {s : State} {q : QueuedNotice} {rest : List QueuedNotice}
    (h : Passed s (.readNotice r) r) (hq : (s.port r.port).queue = q :: rest) :
    exec (.readNotice r) s = .next ((answered s (.readNotice r) r .OK
      (noticeRecord q ++ [BitVec.ofNat 8 (s.port r.port).lost, BitVec.ofNat 8 rest.length])).updPort r.port
        fun x => { x with queue := rest, lost := 0 }) := by
  rw [exec_readNotice, s.hostRequest_passed _ _ _ h, State.ownReadNotice_of_cons ((taken_queue s _ r).trans hq), taken_lost,
    s.finish_taken _ _ _ _ h.1]

theorem exec_readNotice_of_nil {r : Req} {s : State} (h : Passed s (.readNotice r) r) (hq : (s.port r.port).queue = []) :
    exec (.readNotice r) s = .next ((answered s (.readNotice r) r .NONE [BitVec.ofNat 8 (s.port r.port).lost]).updPort r.port
      fun x => { x with lost := 0 }) := by
  rw [exec_readNotice, s.hostRequest_passed _ _ _ h, State.ownReadNotice_of_nil ((taken_queue s _ r).trans hq), taken_lost,
    s.finish_taken _ _ _ _ h.1]

theorem exec_readNotice_of_not_live {r : Req} {s : State} (h : Fresh s (.readNotice r) r)
    (hl : (s.port r.port).state ≠ .LIVE) : exec (.readNotice r) s = .next (answered s (.readNotice r) r .NOT_OPEN []) := by
  rw [exec_readNotice, s.hostRequest_notOpen _ _ _ h rfl hl]

/-- Settles O15: a queue with an oldest notice, an empty queue, and a port that is not LIVE. -/
theorem readNotice : Obligations.ReadNotice :=
  ⟨fun _ _ h => ⟨fun _ _ hq => exec_readNotice_of_cons h hq, fun hq => exec_readNotice_of_nil h hq⟩,
    fun _ _ h hl => exec_readNotice_of_not_live h hl⟩

/-! ### The taking of a posted copy -/

theorem PortRec.takeCopy_of_down {r : PortRec} (n : Notice) (h : r.state = .DOWN) : r.takeCopy n = r := by
  simp only [PortRec.takeCopy, h]

/-- LIVE and LAPSED take a copy alike: what counts is whether the queue has room. -/
theorem PortRec.takeCopy_of_not_down {r : PortRec} (n : Notice) (h : r.state ≠ .DOWN) :
    r.takeCopy n =
      if r.queue.length < Config.noticeCapacity then { r with queue := r.queue ++ [⟨r.seq, n⟩], seq := r.seq + 1 }
      else { r with lost := min 255 (r.lost + 1), seq := r.seq + 1 } := by
  cases hs : r.state with
  | DOWN => exact absurd hs h
  | LIVE | LAPSED => simp only [PortRec.takeCopy, hs]

/-- The lost count increases by 1 and stays at 255. -/
theorem min_lost (lost : Nat) : min 255 (lost + 1) = if lost < 255 then lost + 1 else 255 := by
  split <;> omega

/-- The three ways of a copy: discarded unnumbered, entered, numbered and lost (R168). -/
theorem PortRec.takeCopy_eq (r : PortRec) (n : Notice) :
    r.takeCopy n =
      if r.state = .DOWN then r
      else if r.queue.length < 16 then { r with queue := r.queue ++ [⟨r.seq, n⟩], seq := r.seq + 1#8 }
      else { r with lost := if r.lost < 255 then r.lost + 1 else 255, seq := r.seq + 1#8 } := by
  by_cases h : r.state = .DOWN
  · rw [if_pos h, r.takeCopy_of_down n h]
  · rw [if_neg h, r.takeCopy_of_not_down n h, min_lost]
    rfl

/-- A copy in its turn leaves flight, and its port's record takes it. -/
theorem exec_noticeCopyTaken (b : Block) (p : Port) (n : Notice) (s : State) (h : s.inReset = false)
    (ht : InTurn s (.noticeCopyTaken b p n)) :
    exec (.noticeCopyTaken b p n) s
      = .next ((s.arrive (.noticeCopyTaken b p n)).updPort p fun r => r.takeCopy n) :=
  congrArg _ (s.taking_run _ _ h ht)

/-- Settles O16: the copy acts on its port's record alone, in one of the three ways of `PortRec.takeCopy_eq`. -/
theorem noticeCopyTaken : Obligations.NoticeCopyTaken := by
  intro b p n s h ht
  rw [exec_noticeCopyTaken b p n s h ht]
  simp only [PortRec.takeCopy_eq]

end Sys2Proof.Machine

/-! What a command is: a select window, a message between two blocks, an event of the part's own, or a level at a pin. Each kind passes
one gate, and the gates say what reset, the order of messages and the waiting queue do to every command of the kind (log entries 1, 3,
4, 9, 10). -/

namespace Sys2Proof.Machine

open Sys2Proof.Safety

/-! ### Requests and their windows -/

/-- The payload of a request decodes to the request. -/
theorem decodeRequest_encode {i : Instr} {r : Req} {code : Byte} {payload : List Byte}
    (h : encodeRequest i = some (r, code, payload)) : decodeRequest r code payload = some i := by
  cases i <;> simp only [encodeRequest, reduceCtorEq, Option.some.injEq, Prod.mk.injEq] at h <;>
    obtain ⟨rfl, rfl, rfl⟩ := h <;> simp [decodeRequest, be16]

/-- A request is what its owner does behind the gate of its window. -/
theorem exec_request {i : Instr} {x : Req × Byte × List Byte} (h : encodeRequest i = some x) (s : State) :
    exec i s = .next (s.hostRequest i (ownerPart i)) := by
  cases i <;> first | (simp only [encodeRequest, reduceCtorEq] at h; done) | rfl

/-- Settles O9. -/
theorem decodeOfEncode : Obligations.DecodeOfEncode := by
  intro i r code payload h
  have hlen : payload.length ≤ 24 := Laws.payloadBound_all i _ h
  exact ⟨decodeRequest_encode h, hlen, checkFrame_request _ _ _ _ hlen⟩

/-- The window of a request's frame is the request: its frame passes the check and decodes to it. -/
theorem State.rawWindow_request {i : Instr} {r : Req} {code : Byte} {payload : List Byte}
    (h : encodeRequest i = some (r, code, payload)) (s : State) :
    s.rawWindow r.port (requestFrame r.tag code payload ++ r.trail) = s.hostRequest i (ownerPart i) := by
  obtain ⟨hdec, hlen, hcheck⟩ := decodeOfEncode i r code payload h
  simp only [State.rawWindow, State.hostRequest, h, State.actOn, hcheck, requestFrame_drop, hdec]

/-- A command that is a select window is the raw window of its bytes. -/
theorem exec_window {i : Instr} {p : Port} {bytes : List Byte} (h : windowOf i = some (p, bytes)) (s : State) :
    exec i s = .next (s.rawWindow p bytes) := by
  cases hr : encodeRequest i with
  | none =>
    cases i <;> simp only [windowOf, hr, Option.map_none, reduceCtorEq, Option.some.injEq, Prod.mk.injEq] at h
    all_goals (obtain ⟨rfl, rfl⟩ := h; rfl)
  | some x =>
    obtain ⟨r, code, payload⟩ := x
    have hw : windowOf i = some (r.port, requestFrame r.tag code payload ++ r.trail) := by
      cases i <;> simp_all [windowOf, encodeRequest]
    obtain ⟨rfl, rfl⟩ := Prod.mk.inj (Option.some.inj (hw.symm.trans h))
    rw [exec_request hr, State.rawWindow_request hr]

/-- Settles O10. -/
theorem requestIsItsWindow : Obligations.RequestIsItsWindow := by
  intro i r code payload s h
  rw [exec_request h, ← State.rawWindow_request h]
  rfl

/-! ### The kinds of command -/

/-- What a command is, by the gate that it passes. -/
inductive Kind (i : Instr) : Prop
  /-- A select window of a port. -/
  | window (p : Port) (bytes : List Byte) (h : windowOf i = some (p, bytes))
  /-- A message, which its receiver takes in its turn. -/
  | message (f : State → State) (hw : windowOf i = none) (hf : ∀ u, (f u).pending = u.pending)
      (h : ∀ s, exec i s = .next (s.taking i f))
  /-- An expiry or a sample, of no stream. -/
  | event (f : State → State) (hw : windowOf i = none) (hs : stream i = none) (hf : ∀ u, (f u).pending = u.pending)
      (h : ∀ s, exec i s = .next (s.running f))
  /-- A command that acts while reset is held. -/
  | pin (h : actsInReset i = true)

/-- The Lease Manager's gate leaves the waiting queue. -/
@[simp] theorem State.atLeaseManager_pending (s : State) (i j : Instr) :
    (s.atLeaseManager i (leaseTake j)).pending = s.pending := by
  unfold State.atLeaseManager
  split <;> simp

/-- Every command is of one of these kinds. -/
theorem kind (i : Instr) : Kind i := by
  cases i
  case powerOnReset | nrstReset | resetRelease | rawLevelChange => exact .pin rfl
  case windowTimerExpiry | budgetIntervalExpiry | probePeriodExpiry | fillPeriodExpiry | fillTimerExpiry | pulseEnd |
      currentSample | sampleInstant | shortDetection => exact .event _ rfl rfl (fun u => by simp) fun s => rfl
  case supervisionExpiry | shedIntervalExpiry | waitLimitExpiry | onStableExpiry | debounceExpiry =>
    exact .event _ rfl rfl (fun u => by split <;> simp) fun s => rfl
  case completionLowering | completionAnswer =>
    exact .message _ rfl (fun u => by split <;> simp) fun s => rfl
  case restatedReservationAnswer => exact .message _ rfl (fun u => by (repeat' split) <;> simp) fun s => rfl
  case queueFlush => exact .message _ rfl (fun u => foldl_frame State.pending (by simp) rfl) fun s => rfl
  all_goals first
    | exact .window _ _ rfl
    | exact .message _ rfl (fun u => by simp) fun s => rfl

/-- A window is of no stream. -/
theorem stream_window {i : Instr} {x : Port × List Byte} (h : windowOf i = some x) : stream i = none := by
  cases i <;> first | rfl | cases h

/-- A command that acts while reset is held is of no stream. -/
theorem stream_pin {i : Instr} (h : actsInReset i = true) : stream i = none := by
  cases i <;> first | rfl | cases h

/-! ### The waiting queue, and the order of messages -/

/-- A message that waits leaves the waiting queue, and so does one that is taken. -/
theorem State.taking_pending {s : State} {m : Instr} {f : State → State} (hf : ∀ u, (f u).pending = u.pending) :
    (s.taking m f).pending = s.pending :=
  State.taking_inv (P := fun u => u.pending = s.pending) (fun _ _ h => h) rfl fun u hu => (hf u).trans hu

/-- Every command answers a next state, with the waiting queue as it was. -/
theorem exec_next (i : Instr) (s : State) : ∃ t, exec i s = .next t ∧ t.pending = s.pending := by
  cases kind i with
  | window p bytes h => exact ⟨_, exec_window h s, (s.rawWindow_frame p bytes).1⟩
  | message f _ hf h => exact ⟨_, h s, State.taking_pending hf⟩
  | event f _ _ hf h => exact ⟨_, h s, State.running_inv (P := fun u => u.pending = s.pending) rfl fun _ => hf s⟩
  | pin h =>
    cases i <;> cases h
    case resetRelease.refl => exact ⟨_, rfl, by split <;> rfl⟩
    all_goals exact ⟨_, rfl, rfl⟩

/-- A command that is out of turn stays in flight, or joins behind what was sent before. -/
theorem exec_outOfTurn {m : Instr} {s : State} (h0 : s.inReset = false) (ht : ¬ InTurn s m) :
    exec m s = .next (if m ∈ s.inFlight then s else s.send m) := by
  have hm : stream m ≠ none := fun h => ht (inTurn_free h)
  cases kind m with
  | window p bytes h => exact absurd (stream_window h) hm
  | message f _ _ h =>
    rw [h, State.taking_waits _ _ _ h0 (by simpa [InTurn] using ht), State.await]
    simp
  | event f _ hs _ _ => exact absurd hs hm
  | pin h => exact absurd (stream_pin h) hm

/-- The members of a list that stand before the first `m`. -/
theorem mem_takeWhile_ne {l : List Instr} {m x : Instr} :
    x ∈ l.takeWhile (fun y => decide (y ≠ m)) ↔ ∃ before after, l = before ++ x :: after ∧ m ∉ before ∧ m ≠ x := by
  induction l with
  | nil => simp
  | cons a l ih =>
    by_cases ha : a = m
    · subst ha
      simp only [ne_eq, decide_not, decide_true, Bool.not_true, Bool.false_eq_true, not_false_eq_true, List.takeWhile_cons_of_neg,
        List.not_mem_nil, false_iff, not_exists, not_and]
      rintro (_ | ⟨b, before⟩) after h hb hx
      · exact hx (List.cons.inj h).1
      · exact hb ((List.cons.inj h).1 ▸ List.mem_cons_self)
    · rw [List.takeWhile_cons_of_pos (by simpa using ha), List.mem_cons, ih]
      constructor
      · rintro (rfl | ⟨before, after, rfl, hb, hx⟩)
        · exact ⟨[], l, rfl, List.not_mem_nil, Ne.symm ha⟩
        · exact ⟨a :: before, after, rfl, by simp [Ne.symm ha, hb], hx⟩
      · rintro ⟨_ | ⟨b, before⟩, after, h, hb, hx⟩
        · exact .inl (List.cons.inj h).1.symm
        · obtain ⟨rfl, rfl⟩ := List.cons.inj h
          exact .inr ⟨before, after, rfl, fun hm => hb (List.mem_cons_of_mem _ hm), hx⟩

/-- A message is in its turn when nothing that stands before it in flight is taken before it. -/
theorem inTurn_iff (s : State) (m : Instr) : InTurn s m ↔
    ∀ before x after, s.inFlight = before ++ x :: after → m ∉ before → m ≠ x → ¬ TakenBefore s x m := by
  simp only [InTurn, State.outOfTurn, List.any_eq_false, mem_takeWhile_ne, ← State.precedes_iff]
  exact ⟨fun h before x after hl hb hx => h x ⟨before, after, hl, hb, hx⟩,
    fun h x ⟨before, after, hl, hb, hx⟩ => h before x after hl hb hx⟩

/-- Settles O3: the gates answer every command, and the streams are those of the constructors. -/
theorem everyCommandIsTaken : Obligations.EveryCommandIsTaken :=
  ⟨exec_next, fun _ _ => exec_outOfTurn, fun m s => inTurn_iff s m, fun _ _ _ _ _ _ _ _ _ _ _ _ _ => by and_intros <;> rfl⟩

/-! ### While reset is held -/

/-- A window while reset is held clocks out 0x00 alone. -/
theorem State.rawWindow_reset {s : State} (p : Port) (bytes : List Byte) (h : s.inReset = true) :
    s.rawWindow p bytes = s.updPort p fun r => { r with clockedOut := List.replicate bytes.length 0x00#8 } := by
  simp [State.rawWindow, State.window, h, zeros]

/-- Settles O4: each kind of command meets the reset at its gate. -/
theorem heldResetStopsThePart : Obligations.HeldResetStopsThePart := by
  intro c s h ha
  cases kind c with
  | window p bytes hw => rw [exec_window hw, hw, State.rawWindow_reset _ _ h]
  | message f hw _ hx => rw [hx, hw, State.taking_reset _ _ _ h]
  | event f hw _ _ hx => rw [hx, hw, State.running, h, if_pos rfl]
  | pin hp => rw [hp] at ha; cases ha

/-! ### The step and the resets -/

/-- Settles O1. -/
theorem stepTakesFrontCommand : Obligations.StepTakesFrontCommand := by
  intro c rest s h
  simp only [step, h]

/-- A reset leaves every record but the trunks' at its reset value. -/
theorem resetWith_butTrunks (s : State) (trunks : Vector TrunkRec 3) : ResetButTrunks s (s.resetWith trunks) := by
  refine ⟨rfl, rfl, rfl, rfl, rfl, rfl, rfl, rfl, ?channels, ?trunks, ?lines, ?ports⟩
  case channels =>
    intro c
    simp [State.resetWith, State.reset, State.chan, State.acct, State.driver, State.inHand]
  case trunks =>
    intro k
    simp [State.resetWith, State.reset, State.queue, State.pass, State.run]
  case lines =>
    intro l
    simp [State.resetWith, State.line]
  case ports =>
    intro p
    simp [State.resetWith, State.reset, State.port, State.viewOf]

/-- Settles O5: the two resets differ in the trunk records alone, and the release changes the lines and the ports. -/
theorem resetsAndRelease : Obligations.ResetsAndRelease := by
  refine ⟨fun s => ⟨_, rfl, rfl, resetWith_butTrunks s _, fun k => ?powerOn⟩,
    fun s => ⟨_, rfl, rfl, resetWith_butTrunks s _, fun k => ?nrst⟩, fun s selected => ⟨fun h => ?release, fun h => ?idle⟩⟩
  case powerOn =>
    simp only [State.trunk, State.resetWith, Fin.getElem_fin, Vector.getElem_replicate]
    rfl
  case nrst => simp [State.trunk, State.resetWith, TrunkRec.nrst]
  case release =>
    refine ⟨_, congrArg Host.Outcome.next (if_pos h), rfl, fun l => ?_, fun p => ?_⟩
    · simp [State.line, Config.debounce, Config.msec]
    · simp [State.port, List.contains_eq_mem]
  case idle => simp [exec, execResetRelease, h]

end Sys2Proof.Machine

/-! Select windows by their bytes: the windows that are not taken, the idle window, the bad frame, the replay, the refused frames, and the
response (R149 to R155, R175, R178). -/

namespace Sys2Proof.Machine

open Sys2Proof.Safety

/-! ### Windows that are not taken, and idle windows -/

/-- A window that began before the release of reset is not taken (R178). -/
theorem State.rawWindow_selHeld {s : State} {p : Port} (bytes : List Byte) (h0 : s.inReset = false)
    (h : (s.port p).selHeld = true) : s.rawWindow p bytes = s.updPort p fun r =>
      { r with selHeld := false, clockedOut := List.replicate bytes.length 0x00#8 } := by
  simp [State.rawWindow, State.window, h0, h, zeros]

/-- A window that begins while a request is in hand is not taken (R150). -/
theorem State.rawWindow_inHand {s : State} {p : Port} (bytes : List Byte) (h0 : s.inReset = false)
    (hs : (s.port p).selHeld = false) (h : (s.port p).inHand.isSome = true) :
    s.rawWindow p bytes = s.updPort p fun r => { r with clockedOut := List.replicate bytes.length 0x00#8 } := by
  simp [State.rawWindow, State.window, h0, hs, h, zeros]

/-- A window that does not begin with the sync byte is idle (R151). -/
theorem checkFrame_idle {bytes : List Byte} (h : bytes.head? ≠ some 0xA5#8) : checkFrame bytes = .idle := by
  cases bytes with
  | nil => rfl
  | cons b rest =>
    have hb : b ≠ 0xA5#8 := fun e => h (by rw [e]; rfl)
    simp [checkFrame, hb]

theorem shown_length (holder : Option (List Byte)) (n : Nat) : (shown holder n).length = n := by
  simp only [shown, zeros, List.length_append, List.length_take, List.length_replicate]
  omega

/-- The bytes clocked out are those of the frame, and 0x00 behind it (R149). -/
theorem shown_getElem? (holder : Option (List Byte)) {n k : Nat} (h : k < n) :
    (shown holder n)[k]? = some (((holder.getD emptyFrame)[k]?).getD 0x00#8) := by
  have hz : ∀ f : List Byte, (f.take n ++ zeros (n - f.length))[k]? = some ((f[k]?).getD 0x00#8) := by
    intro f
    by_cases hk : k < f.length
    · rw [List.getElem?_append_left (by simp; omega), List.getElem?_take_of_lt h, List.getElem?_eq_getElem hk]
      rfl
    · have hz : k - (f.take n).length < n - f.length := by rw [List.length_take]; omega
      rw [List.getElem?_append_right (by simp; omega), List.getElem?_eq_none (by omega : f.length ≤ k)]
      simp only [zeros, List.getElem?_replicate, if_pos hz, Option.getD_none]
  exact hz _

/-- Settles O6: the window's gate decides the first two, the idle verdict of the frame check the third. -/
theorem untakenAndIdleWindows : Obligations.UntakenAndIdleWindows := by
  refine ⟨fun c p bytes s hw h0 => ⟨fun h => ?_, fun hs h => ?_⟩, fun p bytes s hb hw => ?_,
    fun holder n => ⟨shown_length holder n, fun k hk => ?_⟩⟩
  · rw [exec_window hw, State.rawWindow_selHeld _ h0 h]
  · rw [exec_window hw, State.rawWindow_inHand _ h0 hs h]
  · rw [exec_window rfl, State.rawWindow, State.window_taken _ _ _ _ hw, State.actOn, checkFrame_idle hb]
  · have he : emptyFrame = [0x5A#8, 0x00#8, 0x03#8, 0x00#8, 0x14#8] := by decide +kernel
    rw [← he]
    exact shown_getElem? holder hk

/-! ### Bad frames, and frames that no request has -/

/-- A frame that is too short, too long or has a wrong CRC is bad, with the tag as far as there is one (R152). -/
theorem checkFrame_bad {rest : List Byte}
    (h : rest.length < 3 ∨ 24 < (rest.getD 2 0#8).toNat ∨ rest.length < (rest.getD 2 0#8).toNat + 4
      ∨ rest.getD ((rest.getD 2 0#8).toNat + 3) 0#8 ≠ crc8 (rest.take ((rest.getD 2 0#8).toNat + 3))) :
    checkFrame (0xA5#8 :: rest) = .bad (rest.headD 0x00#8) := by
  match rest with
  | [] => rfl
  | [tag] => rfl
  | [tag, code] => rfl
  | tag :: code :: len :: more =>
    simp only [List.length_cons, List.getD_cons_succ, List.getD_cons_zero, List.take_succ_cons] at h
    simp only [checkFrame, ne_eq, not_true_eq_false, if_false, List.headD_cons]
    split
    · rfl
    · next hlen =>
      cases hc : more[len.toNat]? with
      | none => rfl
      | some crc =>
        obtain ⟨hl, rfl⟩ := List.getElem?_eq_some_iff.1 hc
        refine if_neg fun he => ?_
        rw [List.getD_eq_getElem _ _ hl] at h
        rcases h with h | h | h | h
        · omega
        · exact hlen h
        · omega
        · exact h he

/-- The state in which a window of `n` bytes has clocked out and emptied the response holder (R149). -/
def State.clocked (s : State) (p : Port) (n : Nat) : State :=
  s.updPort p fun r => { r with clockedOut := shown r.holder n, holder := none }

/-- Of a window with a frame that passes the check, the replay memory and the decoder decide (R153, R154). -/
theorem State.rawWindow_frameTaken {s : State} {p : Port} {tag code : Byte} {payload trail : List Byte}
    (hw : WindowTaken s p) (hlen : payload.length ≤ 24) :
    s.rawWindow p (requestFrame tag code payload ++ trail) =
      match decodeRequest ⟨p, tag, trail⟩ code payload with
      | none => (s.clocked p (requestFrame tag code payload ++ trail).length).accept p tag
          (crc8 (covered tag code payload)) true fun u => u.finish p .BAD_ARGUMENT []
      | some i => (s.clocked p (requestFrame tag code payload ++ trail).length).accept p tag
          (crc8 (covered tag code payload)) (anyPortState i) (ownerPart i) := by
  rw [State.rawWindow, State.window_taken _ _ _ _ hw, State.actOn, checkFrame_request _ _ _ _ hlen]
  dsimp only
  rw [requestFrame_drop]
  rfl

/-- A replay is answered from the memory (R153). -/
theorem State.accept_replay {s : State} {p : Port} {tag crc : Byte} {stored : List Byte} (b : Bool) (own : State → State)
    (h : (s.port p).replayOf tag crc = some stored) :
    s.accept p tag crc b own = s.updPort p fun r => { r.restart with holder := some stored } := by
  simp only [State.accept, h]

/-- A frame that passes the check and is no replay is taken; where no request has it, it is answered BAD_ARGUMENT (R154). -/
theorem State.accept_unknown {s : State} {p : Port} {tag crc : Byte} (h : (s.port p).replayOf tag crc = none) :
    (s.accept p tag crc true fun u => u.finish p .BAD_ARGUMENT [])
      = s.updPort p fun r => { r.restart with
        holder := some (responseFrame tag .BAD_ARGUMENT [])
        replay := some ⟨tag, crc, responseFrame tag .BAD_ARGUMENT []⟩
        inHand := none } := by
  simp only [State.accept, h, State.takeRequest, Bool.true_or, if_true, State.finish, State.updPort_self, State.updPort_updPort]

/-- The restart of the supervision timer does not look at what a window clocks out. -/
theorem PortRec.restart_clockedOut (r : PortRec) (out : List Byte) :
    ({ r with clockedOut := out, holder := none } : PortRec).restart = { r.restart with clockedOut := out, holder := none } := by
  unfold PortRec.restart
  split <;> rfl

@[simp] theorem PortRec.restart_inHand (r : PortRec) : r.restart.inHand = r.inHand := by
  unfold PortRec.restart
  split <;> rfl

/-- Settles O7: the verdict of the frame check decides a bad frame, and the decoder a frame that no request has. -/
theorem badAndUnknownFrames : Obligations.BadAndUnknownFrames := by
  refine ⟨fun p rest s hw h => ?_, fun p tag code payload trail s hlen hdec hw hr => ?_⟩
  · rw [exec_window rfl, State.rawWindow, State.window_taken _ _ _ _ hw, State.actOn, checkFrame_bad h]
    dsimp only
    rw [State.updPort_updPort]
    rfl
  · rw [exec_window rfl, State.rawWindow_frameTaken hw hlen, hdec]
    dsimp only
    rw [State.accept_unknown (by rw [State.clocked, State.updPort_self]; exact hr), State.clocked, State.updPort_updPort]
    congr 1
    refine State.updPort_congr _ _ _ _ ?_
    dsimp only
    rw [PortRec.restart_clockedOut, ← hw.2.2, ← PortRec.restart_inHand]

/-- Settles O8: the replay memory answers a frame that it knows, and a port that is not LIVE refuses the rest. -/
theorem replayAndNotOpen : Obligations.ReplayAndNotOpen := by
  refine ⟨fun p tag code payload trail stored s hlen hw hr => ?_, fun i r s hf ha hs => ?_⟩
  · have hreplay : ((s.clocked p (requestFrame tag code payload ++ trail).length).port p).replayOf tag
        (crc8 (covered tag code payload)) = some stored := by
      rw [State.clocked, State.updPort_self]
      simp [PortRec.replayOf, hr]
    have hx : s.rawWindow p (requestFrame tag code payload ++ trail) =
        (s.clocked p (requestFrame tag code payload ++ trail).length).updPort p fun r =>
          { r.restart with holder := some stored } := by
      rw [State.rawWindow_frameTaken hw hlen]
      split <;> exact State.accept_replay _ _ hreplay
    rw [exec_window rfl, hx, State.clocked, State.updPort_updPort]
    congr 1
    refine State.updPort_congr _ _ _ _ ?_
    dsimp only
    rw [PortRec.restart_clockedOut]
  · obtain ⟨code, payload, he, -⟩ := id hf
    rw [exec_request he, State.hostRequest_notOpen _ _ _ _ hf ha hs]

/-! ### The response -/

/-- The CRC as a fold of the shifts over each covered byte (R175). -/
theorem crc8_eq (bytes : List Byte) : crc8 bytes = bytes.foldl (fun r b =>
    (List.range 8).foldl (fun x _ => if x.msb then (x <<< 1) ^^^ 0x07#8 else x <<< 1) (r ^^^ b)) 0xFF#8 := rfl

/-- Settles O11. -/
theorem responseReady : Obligations.ResponseReady := by
  refine ⟨fun p st payload q s h0 hq => ?_, fun tag st payload => ⟨?_, crc8_eq⟩⟩
  · refine congrArg Host.Outcome.next ?_
    rw [State.taking_run _ _ _ h0 (inTurn_free rfl)]
    simp [State.finish, hq]
  · rfl

end Sys2Proof.Machine

/-! How a property of the part's records passes every command (for the invariants of Chapters 1, 2, 3, 7, 8 and 9): the changes that
commands make to a record are listed once, and a property that passes each of them passes every command. -/

namespace Sys2Proof.Machine

open Sys2Proof.Safety

/-! ### The changes that commands make -/

/-- The records that the invariants read are the same; messages, passes, runs, samples and what is held back may differ. -/
def SameRecords (s u : State) : Prop :=
  u.inReset = s.inReset ∧ u.trunks = s.trunks ∧ u.accounts = s.accounts ∧ u.channels = s.channels ∧ u.queues = s.queues
    ∧ u.drivers = s.drivers ∧ u.lines = s.lines ∧ u.ports = s.ports ∧ u.config = s.config

/-- The proposal slot and counter of the Configuration Unit's record are in order (`SlotOk`). -/
def slotOk (g : ConfigRec) : Prop := g.counter ≠ 0#16 ∧ ∀ x, g.slot = some x → x.number ≠ 0#16

/-- A pulse of the driver is in progress only in PROBE and FILL with no short hold (Table 6-2). -/
def pulseOk (d : Driver) (st : ChanState) : Prop := d.pulse.isSome = true → isPulsing st = true ∧ d.shortHold = false

/-- A line record is in order, and its level undetermined while reset is held. -/
def lineOkIn (inReset : Bool) (r : LineRec) : Prop := lineOk r ∧ (inReset = true → r.level = none)

/-- The property passes each change of a record that a command makes, except the heating of a trunk, the clearing of a trip and the
resets. Each change is given with what the commands that make it assure. -/
structure Passes (P : State → Prop) : Prop where
  same : ∀ (s u : State), SameRecords s u → P s → P u
  port : ∀ {s : State} {p : Port} {f : PortRec → PortRec}, (portOk (s.port p) → portOk (f (s.port p))) → P s → P (s.updPort p f)
  line : ∀ {s : State} {l : Line} {f : LineRec → LineRec}, (lineOkIn s.inReset (s.line l) → lineOkIn s.inReset (f (s.line l))) →
    P s → P (s.updLine l f)
  config : ∀ {s : State} {f : ConfigRec → ConfigRec}, (slotOk s.config → slotOk (f s.config)) →
    (s.config.phase = .SERVICE → (f s.config).phase = .SERVICE) → P s → P (s.updConfig f)
  trunk : ∀ {s : State} {t : Trunk} {f : TrunkRec → TrunkRec}, (trunkOk (s.trunk t) → trunkOk (f (s.trunk t))) →
    (f (s.trunk t)).reserved = (s.trunk t).reserved → (f (s.trunk t)).heat = (s.trunk t).heat →
    (f (s.trunk t)).latch = (s.trunk t).latch → P s → P (s.updTrunk t f)
  enter : ∀ {s : State} {t : Trunk} {st : TrunkState}, (s.trunk t).profile.isSome = true →
    (trunkOk (s.trunk t) → (s.trunk t).latch = true → st = .TRIPPED) → P s → P (s.enterState t st)
  derive : ∀ {s : State} {t : Trunk} {new : TrunkProfile}, P s → P ((s.updTrunk t fun r => { r with profile := some new }).derive t)
  charge : ∀ {s : State} {c : Channel} {t : Trunk} {mA : Nat}, P s → P (s.charge c t mA)
  acct : ∀ {s : State} {c : Channel} {f : Account → Account}, (f (s.acct c)).reservation = (s.acct c).reservation →
    (f (s.acct c)).charged = (s.acct c).charged → P s → P (s.updAcct c f)
  returned : ∀ {s : State} {c : Channel}, P s → P (s.returnCharge c)
  driver : ∀ {s : State} {c : Channel} {f : Driver → Driver},
    (pulseOk (s.driver c) (s.chan c).state → pulseOk (f (s.driver c)) (s.chan c).state) → P s → P (s.updDriver c f)
  chan : ∀ {s : State} {c : Channel} {f : ChannelRec → ChannelRec}, (chanOk (s.chan c) → chanOk (f (s.chan c))) →
    ((f (s.chan c)).state = .QUEUED ↔ (s.chan c).state = .QUEUED) →
    ((s.chan c).state = .QUEUED → (f (s.chan c)).trunk = (s.chan c).trunk) →
    (isPulsing (s.chan c).state = true → isPulsing (f (s.chan c)).state = true) → P s → P (s.updChan c f)
  leave : ∀ {s : State} {c : Channel} {new : ChannelRec} {abort : Bool}, (chanOk (s.chan c) → chanOk new) →
    new.trunk = (s.chan c).trunk → new.state ≠ .QUEUED → P s → P (goneTo s c new abort)
  complete : ∀ {s : State} {c : Channel}, (s.chan c).state = .FILL → P s →
    P ((s.updChan c fun r => { r with state := .ON, onStable := some Config.onStable }).endPulse c)
  enqueue : ∀ {s : State} {c : Channel} {found : Found}, P s → P (s.takeQueueEntry c found)
  dequeue : ∀ {s : State} {c : Channel} {f : ChannelRec → ChannelRec}, (s.chan c).state = .QUEUED →
    (chanOk (s.chan c) → chanOk (f (s.chan c))) → (f (s.chan c)).trunk = (s.chan c).trunk → (f (s.chan c)).state ≠ .QUEUED →
    P s → P ((s.updChan c f).leaveQueue c)
  remove : ∀ {s : State} {c : Channel}, (s.chan c).state ≠ .QUEUED → P s → P (s.removeEntry c)
  expire : ∀ {s : State} {t : Trunk} {c : Channel}, P s → P (s.updQueue t fun q => expireWait q c)
  release : ∀ {s : State} (selected : List Port), s.inReset = true → P s → P { s with
    inReset := false
    lines := s.lines.map fun l => { l with debounce := some Config.debounce }
    ports := Vector.ofFn fun p => { s.port p with selHeld := selected.contains p } }

namespace Passes

variable {P : State → Prop} {s : State} (K : Passes P)
include K

/-! ### Changes that touch no record of the invariants -/

theorem inFlight (u : State) (l : List Instr) (h : P u) : P (u.setInFlight l) := K.same u _ ⟨rfl, rfl, rfl, rfl, rfl, rfl, rfl, rfl, rfl⟩ h
theorem heldBack (u : State) (l : List Instr) (h : P u) : P (u.setHeldBack l) := K.same u _ ⟨rfl, rfl, rfl, rfl, rfl, rfl, rfl, rfl, rfl⟩ h
theorem waiting (u : State) (l : List Instr) (h : P u) : P (u.setWaiting l) := K.same u _ ⟨rfl, rfl, rfl, rfl, rfl, rfl, rfl, rfl, rfl⟩ h
theorem run (u : State) (t : Trunk) (r : Option Run) (h : P u) : P (u.setRun t r) := K.same u _ ⟨rfl, rfl, rfl, rfl, rfl, rfl, rfl, rfl, rfl⟩ h
theorem pass (u : State) (t : Trunk) (f : Pass → Pass) (h : P u) : P (u.updPass t f) :=
  K.same u _ ⟨rfl, rfl, rfl, rfl, rfl, rfl, rfl, rfl, rfl⟩ h
theorem view (u : State) (p : Port) (f : PortView → PortView) (h : P u) : P (u.updView p f) :=
  K.same u _ ⟨rfl, rfl, rfl, rfl, rfl, rfl, rfl, rfl, rfl⟩ h
theorem send {m : Instr} (h : P s) : P (s.send m) := K.inFlight _ _ h
theorem respond {p : Port} {st : Status} {pl : List Byte} (h : P s) : P (s.respond p st pl) := K.inFlight _ _ h
theorem serviceEvent {t : Trunk} (h : P s) : P (s.serviceEvent t) := K.inFlight _ _ h
theorem post {b : Block} {p : Port} {n : Notice} (h : P s) : P (s.post b p n) := K.inFlight _ _ h
theorem postHolder {b : Block} {c : Channel} {n : Notice} (h : P s) : P (s.postHolder b c n) := by
  unfold State.postHolder
  split
  · exact K.post h
  · exact h

/-! ### The gates -/

theorem taking {m : Instr} {f : State → State} (h : P s) (hf : ∀ u, P u → P (f u)) : P (s.taking m f) :=
  State.taking_inv K.inFlight h hf

theorem gate {i : Instr} {f : State → State} (h : P s) (hf : ∀ u, P u → P (f u)) : P (s.atLeaseManager i f) :=
  State.atLeaseManager_inv K.inFlight K.run K.pass K.heldBack h hf

/-! ### Channel records -/

omit K in
theorem chanOk_undriven {r : ChannelRec} {st : ChanState} (h : chanOk r) (hf : r.state ≠ .FREE)
    (hst : st = .IDLE ∨ st = .INHIBITED) : chanOk (undriven r st) := by
  obtain ⟨hlease, -, -, -, -, -, hcount, hlock, hfree⟩ := h
  rcases hst with rfl | rfl <;>
    exact ⟨by simp [undriven, hlease, hf], by simp [undriven], by simp [undriven, isDriven], by simp [undriven],
      by simp [undriven], by simp [undriven], hcount, hlock, fun hl => absurd (hfree hl) hf⟩

omit K in
theorem chanOk_shed {r : ChannelRec} {cause : ShedCause} (h : chanOk r) (hf : r.state ≠ .FREE) :
    chanOk { undriven r .SHED with shedCause := some cause } := by
  obtain ⟨hlease, -, -, -, -, -, hcount, hlock, hfree⟩ := h
  exact ⟨by simp [undriven, hlease, hf], by simp [undriven], by simp [undriven, isDriven], by simp [undriven],
    by simp [undriven], by simp [undriven], hcount, hlock, fun hl => absurd (hfree hl) hf⟩

omit K in
theorem chanOk_faulted {r : ChannelRec} {cause : FaultCause} (h : chanOk r) (hf : r.state ≠ .FREE)
    (hn : r.faultCount + 1 < Config.lockoutFaults) :
    chanOk { undriven r .FAULTED with faultCause := some cause, faultCount := r.faultCount + 1 } := by
  obtain ⟨hlease, -, -, -, -, -, hcount, hlock, hfree⟩ := h
  have hl : r.lockedOut = false := Bool.eq_false_iff.2 fun hl => hf (hfree hl)
  exact ⟨by simp [undriven, hlease, hf], by simp [undriven], by simp [undriven, isDriven], by simp [undriven],
    by simp [undriven], by simp [undriven], hn.le, by simp [undriven, hl, hn.ne], fun hl => absurd (hfree hl) hf⟩

omit K in
theorem chanOk_freed {r : ChannelRec} (h : chanOk r) : chanOk (freed r) := by
  obtain ⟨-, -, -, -, -, -, hcount, hlock, -⟩ := h
  exact ⟨by simp [freed, undriven], by simp [freed, undriven], by simp [freed, undriven, isDriven], by simp [freed, undriven],
    by simp [freed, undriven], by simp [freed, undriven], hcount, hlock, fun _ => rfl⟩

omit K in
theorem chanOk_lockedOut (r : ChannelRec) : chanOk { freed r with faultCount := Config.lockoutFaults, lockedOut := true } :=
  ⟨by simp [freed, undriven], by simp [freed, undriven], by simp [freed, undriven, isDriven], by simp [freed, undriven],
    by simp [freed, undriven], by simp [freed, undriven], le_rfl, by simp, fun _ => rfl⟩

/-! ### Channels that leave their state -/

theorem leaveFor {c : Channel} {st : ChanState} {abort : Bool} {f : ChannelRec → ChannelRec} (h : P s)
    (hc : chanOk (s.chan c) → chanOk (f (undriven (s.chan c) st))) (ht : (f (undriven (s.chan c) st)).trunk = (s.chan c).trunk)
    (hq : (f (undriven (s.chan c) st)).state ≠ .QUEUED) : P (s.leaveFor c st abort f) := by
  rw [State.leaveFor_eq _ _ _ _ _ ht]
  exact K.leave hc ht hq h

theorem endLease {c : Channel} {own abort : Bool} (h : P s) : P (s.endLease c own abort) := by
  rw [State.endLease_goneTo]
  exact K.inFlight _ _ (K.leave chanOk_freed rfl (by simp [freed, undriven]) h)

theorem takeFault {c : Channel} {cause : FaultCause} {abort : Bool} (h : P s) (hf : (s.chan c).state ≠ .FREE) :
    P (s.takeFault c cause abort) := by
  rw [State.takeFault_eq]
  unfold faulted
  dsimp only
  split
  · next hn => exact K.postHolder (K.leave (chanOk_faulted · hf hn) rfl (by simp [undriven]) h)
  · have hu : P (goneTo s c { freed (s.chan c) with faultCount := Config.lockoutFaults, lockedOut := true } abort) :=
      K.leave (fun _ => chanOk_lockedOut _) rfl (by simp [freed, undriven]) h
    split
    · exact K.post (K.inFlight _ _ hu)
    · exact K.inFlight _ _ hu

/-! ### Requests of the Lease Manager -/

theorem leaseRequest {p : Port} {ch : Byte} {k : Channel → State} (h : P s) (hk : ∀ c, P (k c)) : P (s.leaseRequest p ch k) := by
  unfold State.leaseRequest
  split
  · exact K.respond h
  · split
    · exact K.respond h
    · exact hk _

theorem holderRequest {p : Port} {ch : Byte} {k : Channel → State} (h : P s) (hk : ∀ c, (s.chan c).state ≠ .FREE → P (k c)) :
    P (s.holderRequest p ch k) := by
  refine K.leaseRequest h fun c => ?_
  split
  · exact K.respond h
  · next hf =>
    split
    · exact hk c hf
    · exact K.respond h

/-- A change that keeps the state of a channel and its trunk. -/
theorem chanSame {c : Channel} {f : ChannelRec → ChannelRec} (hc : chanOk (s.chan c) → chanOk (f (s.chan c)))
    (hs : (f (s.chan c)).state = (s.chan c).state) (ht : (f (s.chan c)).trunk = (s.chan c).trunk) (h : P s) : P (s.updChan c f) :=
  K.chan hc (by rw [hs]) (fun _ => ht) (by rw [hs]; exact id) h

theorem takeClaim {p : Port} {ch : Byte} {cur : BitVec 16} {prio policy successor wait : Byte} (h : P s) :
    P (s.takeClaim p ch cur prio policy successor wait) := by
  refine K.leaseRequest h fun c => ?_
  repeat' split
  case isFalse.isFalse.isFalse.isFalse hlock hfree =>
    have hs : (s.chan c).state = .FREE := not_not.1 hfree
    refine K.respond (K.chan ?_ (by simp [hs]) (by simp [hs]) (by simp [hs, isPulsing]) h)
    rintro ⟨-, hintent, hstamp, hfault, hshed, hstable, hcount, hl, -⟩
    simp only [hs, reduceCtorEq, iff_false, isDriven, Bool.false_eq_true] at hintent hstamp hfault hshed hstable
    exact ⟨by simp, by simpa using hintent, by simpa [isDriven] using hstamp, by simpa using hfault, by simpa using hshed,
      fun hx => absurd (hstable hx) (by simp), hcount, hl, fun hx => absurd hx (by simpa using hlock)⟩
  all_goals exact K.respond h

theorem takeRelease {p : Port} {ch : Byte} (h : P s) : P (s.takeRelease p ch) :=
  K.holderRequest h fun _ _ => K.respond (K.endLease h)

omit K in
/-- A lease that is replaced by another, in a channel record that keeps everything else. -/
theorem chanOk_mapLease {r : ChannelRec} (g : Lease → Lease) (h : chanOk r) : chanOk { r with lease := r.lease.map g } := by
  obtain ⟨hlease, hrest⟩ := h
  exact ⟨by simpa using hlease, hrest⟩

theorem mapLease {c : Channel} {g : Lease → Lease} (h : P s) : P (s.updChan c fun r => { r with lease := r.lease.map g }) :=
  K.chanSame (chanOk_mapLease g) rfl rfl h

theorem takeAdopt {p : Port} {ch : Byte} (h : P s) : P (s.takeAdopt p ch) := by
  refine K.leaseRequest h fun c => ?_
  repeat' split
  case h_2 => exact K.respond (K.post (K.mapLease h))
  all_goals exact K.respond h

/-- A held channel returns to IDLE. -/
theorem toIdle {c : Channel} {abort : Bool} (hf : (s.chan c).state ≠ .FREE) (h : P s) : P (s.leaveFor c .IDLE abort id) :=
  K.leaveFor h (fun hc => chanOk_undriven hc hf (.inl rfl)) rfl (by simp [undriven])

theorem takeDeEnergize {p : Port} {ch : Byte} (h : P s) : P (s.takeDeEnergize p ch) := by
  refine K.holderRequest h fun c hf => ?_
  split
  · exact K.respond h
  · exact K.respond h
  · exact K.respond (K.toIdle hf h)

theorem takeClearFault {p : Port} {ch : Byte} (h : P s) : P (s.takeClearFault p ch) := by
  refine K.holderRequest h fun c hf => ?_
  split
  · exact K.respond (K.toIdle hf h)
  · exact K.respond h

theorem setRestating {c : Channel} {x : Option Restating} (h : P s) : P (s.updChan c fun r => { r with restating := x }) :=
  K.chanSame id rfl rfl h

theorem takeRestate {p : Port} {ch : Byte} {cur : BitVec 16} (h : P s) : P (s.takeRestate p ch cur) := by
  refine K.leaseRequest h fun _ => ?_
  split
  · exact K.respond h
  · refine K.holderRequest h fun c _ => ?_
    have hd : ∀ mA, P (s.setDeclared c mA) := fun mA => K.mapLease h
    split
    · exact K.respond (hd _)
    · exact K.respond (hd _)
    · exact K.respond (hd _)
    · dsimp only
      split
      · exact K.respond (K.serviceEvent (hd _))
      · exact K.respond (hd _)
    · exact K.send (K.setRestating h)
    · exact K.respond h

theorem takeReadChannel {p : Port} {ch : Byte} (h : P s) : P (s.takeReadChannel p ch) := by
  unfold State.takeReadChannel
  split <;> exact K.respond h

/-! ### Session claims -/

theorem takeOpenClaim {p : Port} {epoch : BitVec 16} (h : P s) : P (s.takeOpenClaim p epoch) := by
  refine K.respond (K.view _ _ _ (foldl_inv (fun u c hu => ?_) h))
  exact K.mapLease hu

theorem lapseLease {p : Port} {c : Channel} (h : P s) : P (s.lapseLease p c) := by
  unfold State.lapseLease
  repeat' split
  · exact h
  · exact K.post (K.mapLease h)
  · exact K.endLease h
  · exact K.endLease h

theorem takeLapseClaim {p : Port} (h : P s) : P (s.takeLapseClaim p) :=
  foldl_inv (fun _ _ hu => K.lapseLease hu) (K.view _ _ _ h)

theorem takeCloseClaim {p : Port} (h : P s) : P (s.takeCloseClaim p) :=
  K.respond (K.view _ _ _ (foldl_inv (fun _ _ hu => K.endLease hu) h))

/-! ### Claims of the Admission Unit -/

omit K in
/-- The state that a claim carries, of an entry or a withholding, is IDLE or SHED. -/
theorem foundState_cases {found : Found} (h : found ≠ .QUEUED) : foundState found = .IDLE ∨ foundState found = .SHED := by
  cases found <;> simp_all [foundState]

theorem takeWithhold {c : Channel} {found : Found} (h : P s) : P (s.takeWithhold c found) := by
  unfold State.takeWithhold
  split
  · next hx =>
    obtain ⟨hs, hq⟩ := hx
    have hst := foundState_cases hq
    rw [← hs] at hst
    refine K.send (K.chan ?_ ?_ ?_ ?_ h)
    · rintro ⟨hlease, hintent, hstamp, hfault, hshed, hstable, hcount, hl, hfree⟩
      rcases hst with hst | hst <;>
        simp only [hst, reduceCtorEq, iff_false, isDriven, Bool.false_eq_true] at hlease hintent hstamp hfault hshed hstable hfree
        <;> exact ⟨by simpa using hlease, by simp, by simpa [isDriven] using hstamp, by simpa using hfault, by simp,
          fun hx => absurd (hstable hx) (by simp), hcount, hl, fun hx => absurd (hfree hx) (by simp)⟩
    all_goals rcases hst with hst | hst <;> simp [hst, isPulsing]
  · exact K.send h

omit K in
/-- The record of an admitted channel, from IDLE, SHED or QUEUED. -/
theorem chanOk_admitted {r : ChannelRec} (staged : Bool) (stamp : BitVec 32) (h : chanOk r)
    (hst : r.state = .IDLE ∨ r.state = .SHED ∨ r.state = .QUEUED) : chanOk (r.admitted staged stamp) := by
  obtain ⟨hlease, hintent, hstamp, hfault, hshed, hstable, hcount, hl, hfree⟩ := h
  have hf : r.state ≠ .FREE := by rcases hst with hst | hst | hst <;> simp [hst]
  have hi : r.intent = false := by rcases hst with hst | hst | hst <;> simpa [hst] using hintent
  have hc : r.faultCause = none := by rcases hst with hst | hst | hst <;> simpa [hst] using hfault
  have hl' : r.lockedOut = false := Bool.eq_false_iff.2 fun hl => hf (hfree hl)
  cases staged <;>
    exact ⟨by simp [ChannelRec.admitted, hlease, hf], by simp [ChannelRec.admitted, hi], by simp [ChannelRec.admitted, isDriven],
      by simp [ChannelRec.admitted, hc], by simp [ChannelRec.admitted], by simp [ChannelRec.admitted], hcount, hl,
      fun hx => absurd hx (by simp [ChannelRec.admitted, hl'])⟩

theorem returnCharge {c : Channel} (h : P s) : P (s.returnCharge c) := K.returned h

theorem takeAdmit {t : Trunk} {c : Channel} {found : Found} {stamp : BitVec 32} {need : Nat} (h : P s) :
    P (s.takeAdmit t c found stamp need) := by
  have hset : P (if found = .QUEUED then s.updPass t fun x => x.settle c else s) := by
    split
    · exact K.pass _ _ _ h
    · exact h
  have hchan : (if found = .QUEUED then s.updPass t fun x => x.settle c else s).chan c = s.chan c := by split <;> rfl
  unfold State.takeAdmit
  dsimp only
  split
  · next hs =>
    have hst : (s.chan c).state = .IDLE ∨ (s.chan c).state = .SHED ∨ (s.chan c).state = .QUEUED := by
      rw [hs]; cases found <;> simp [foundState]
    have hleft : P (if found = .QUEUED then
        (State.updChan (if found = .QUEUED then s.updPass t fun x => x.settle c else s) c fun r =>
          r.admitted (s.staged c) stamp).leaveQueue c
        else State.updChan (if found = .QUEUED then s.updPass t fun x => x.settle c else s) c fun r =>
          r.admitted (s.staged c) stamp) := by
      split
      · next hq =>
        refine K.dequeue ?_ (fun hc => ?_) rfl ?_ (K.pass _ _ _ h)
        · exact hs.trans (by rw [hq]; rfl)
        · exact chanOk_admitted _ _ hc hst
        · simp only [ChannelRec.admitted]; split <;> simp
      · next hq =>
        have hns := foundState_cases hq
        rw [← hs] at hns
        refine K.chan (fun hc => chanOk_admitted _ _ hc hst) ?_ (fun _ => rfl) ?_ h
        · simp only [ChannelRec.admitted]; rcases hns with hns | hns <;> split <;> simp [hns]
        · rcases hns with hns | hns <;> simp [hns, isPulsing]
    split
    · exact K.send (K.send hleft)
    · exact K.send hleft
  · exact K.send (K.returned hset)

theorem takeWaitExpiry {c : Channel} (h : P s) : P (s.takeWaitExpiry c) := by
  unfold State.takeWaitExpiry
  split
  · next hs => exact K.postHolder (K.toIdle (by simp [hs]) h)
  · exact h

theorem startPass {t : Trunk} (h : P s) : P (s.startPass t) := State.startPass_inv K.inFlight K.pass h

omit K in
/-- The leaving of the queue and a change of the channel's record that keeps its trunk do not meet. -/
theorem leaveQueue_updChan (c : Channel) (f : ChannelRec → ChannelRec) (ht : (f (s.chan c)).trunk = (s.chan c).trunk) :
    (s.leaveQueue c).updChan c f = (s.updChan c f).leaveQueue c := by
  rw [State.leaveQueue_eq, State.leaveQueue_eq]
  unfold queuesWithout
  rw [State.updChan_self, ht]
  rfl

theorem takeFlush {c : Channel} {heat : Nat} (h : P s) : P (s.takeFlush c heat) := by
  unfold State.takeFlush
  split
  · next hs =>
    have hq : P ((s.leaveQueue c).updChan c fun r => { r with state := .IDLE }) := by
      rw [leaveQueue_updChan c _ rfl]
      refine K.dequeue hs ?_ rfl (by simp) h
      rintro ⟨hlease, hintent, hstamp, hfault, hshed, hstable, hcount, hl, hfree⟩
      simp only [hs, reduceCtorEq, iff_false, isDriven, Bool.false_eq_true] at hlease hintent hstamp hfault hshed hstable hfree
      exact ⟨by simpa using hlease, by simpa using hintent, by simpa [isDriven] using hstamp, by simpa using hfault,
        by simpa using hshed, fun hx => absurd (hstable hx) (by simp), hcount, hl, fun hx => absurd (hfree hx) (by simp)⟩
    dsimp only
    split
    · unfold State.resumePass
      split
      · exact K.startPass (K.postHolder hq)
      · exact K.postHolder hq
    · exact K.postHolder hq
  · exact h

/-! ### Claims of the Staged Energize Unit -/

theorem takeAdvance {c : Channel} (h : P s) : P (s.takeAdvance c) := by
  unfold State.takeAdvance
  split
  · next hs =>
    refine K.send (K.chan ?_ (by simp [hs]) (fun _ => rfl) (fun _ => rfl) h)
    rintro ⟨hlease, hintent, hstamp, hfault, hshed, hstable, hcount, hl, hfree⟩
    simp only [hs, reduceCtorEq, iff_false, isDriven, iff_true] at hlease hintent hstamp hfault hshed hstable hfree
    exact ⟨by simpa using hlease, by simpa using hintent, by simpa [isDriven] using hstamp, by simpa using hfault,
      by simpa using hshed, fun hx => absurd (hstable hx) (by simp), hcount, hl, fun hx => absurd (hfree hx) (by simp)⟩
  · exact K.send h

theorem clearSlot {t : Trunk} {x : Option Channel} (h : P s) : P (s.updTrunk t fun r => { r with slot := x }) :=
  K.trunk id rfl rfl rfl h

theorem lowerCharge {c : Channel} (h : P s) : P (s.lowerCharge c) := by
  unfold State.lowerCharge
  split
  · exact h
  · have hl : ∀ t mA, P ((s.charge c t mA).updAcct c fun a => { a with overdrawn := false }) :=
      fun t mA => K.acct rfl rfl (K.charge h)
    dsimp only
    split
    · exact K.serviceEvent (K.clearSlot (hl _ _))
    · exact hl _ _

theorem takeCompletion {c : Channel} (h : P s) : P (s.takeCompletion c) := by
  unfold State.takeCompletion
  split
  · next hs => exact K.send (K.lowerCharge (K.complete hs h))
  · exact K.send h

theorem takeFailure {c : Channel} {cause : FaultCause} (h : P s) : P (s.takeFailure c cause) := by
  unfold State.takeFailure
  split
  · next hs =>
    refine K.send (K.takeFault h fun hf => ?_)
    rw [hf] at hs
    cases cause <;> simp [failureState] at hs
  · exact K.send h

/-! ### Claims of the Budget Unit, the Sense Block, the Line Unit and the Configuration Unit -/

omit K in
/-- A driven channel is held. -/
theorem not_free_of_driven {c : Channel} (h : isDriven (s.chan c).state = true) : (s.chan c).state ≠ .FREE :=
  fun hf => by rw [hf] at h; cases h

theorem toShed {c : Channel} {cause : ShedCause} (h : P s) (hd : isDriven (s.chan c).state = true) :
    P (s.leaveFor c .SHED true fun r => { r with shedCause := some cause }) :=
  K.leaveFor h (fun hc => chanOk_shed hc (not_free_of_driven hd)) rfl (by simp [undriven])

theorem takeShed {t : Trunk} {c : Channel} (h : P s) : P (s.takeShed t c) := by
  unfold State.takeShed
  split
  · next hd => exact K.send (K.toShed h hd)
  · exact K.send h

theorem takeTrip {t : Trunk} {c : Channel} {heat : Nat} {conf : Bool} (h : P s) : P (s.takeTrip t c heat conf) := by
  unfold State.takeTrip
  split
  · next hd => exact K.send (K.toShed h hd)
  · exact K.send h

theorem takeShort {c : Channel} (h : P s) : P (s.takeShort c) := by
  have hj : P (if isDriven (s.chan c).state then s.takeFault c .SHORT true else s) := by
    split
    · next hd => exact K.takeFault h (not_free_of_driven hd)
    · exact h
  exact K.driver (fun hp hx => ⟨(hp hx).1, rfl⟩) hj

theorem takeLineClaim {l : Line} {c : Channel} {cur prio : Nat} (h : P s) : P (s.takeLineClaim l c cur prio) := by
  unfold State.takeLineClaim
  split
  · next hx =>
    obtain ⟨hs, hlock, -⟩ := hx
    refine K.send (K.chan ?_ (by simp [hs]) (by simp [hs]) (by simp [hs, isPulsing]) h)
    rintro ⟨-, hintent, hstamp, hfault, hshed, hstable, hcount, hl, -⟩
    simp only [hs, reduceCtorEq, iff_false, isDriven, Bool.false_eq_true] at hintent hstamp hfault hshed hstable
    exact ⟨by simp, by simpa using hintent, by simpa [isDriven] using hstamp, by simpa using hfault, by simpa using hshed,
      fun hx => absurd (hstable hx) (by simp), hcount, hl, fun hx => absurd hx (by simp [hlock])⟩
  · exact K.send h

theorem takeLineRelease {l : Line} {c : Channel} (h : P s) : P (s.takeLineRelease l c) := by
  unfold State.takeLineRelease
  split
  · exact K.send (K.endLease h)
  · exact K.send h

theorem takeInhibit {l : Line} {c : Channel} (h : P s) : P (s.takeInhibit l c) := by
  unfold State.takeInhibit
  split
  · next hs =>
    have hf : (s.chan c).state ≠ .FREE := hs.elim (fun hs => by simp [hs]) not_free_of_driven
    exact K.postHolder (K.leaveFor h (fun hc => chanOk_undriven hc hf (.inr rfl)) rfl (by simp [undriven]))
  · exact h

theorem takeResume {c : Channel} (h : P s) : P (s.takeResume c) := by
  unfold State.takeResume
  split
  · next hs =>
    have hi : P (s.leaveFor c .IDLE true id) := K.toIdle (by simp [hs]) h
    dsimp only
    split
    · exact K.send hi
    · exact hi
  · exact h

/-- A FREE channel takes the trunk of a new profile. -/
theorem setTrunk {c : Channel} {x : Option Trunk} (hs : (s.chan c).state = .FREE) (h : P s) :
    P (s.updChan c fun r => { r with trunk := x }) :=
  K.chan id Iff.rfl (fun hq => absurd (hs.symm.trans hq) (by simp)) id h

theorem takeChannelProfile {o : Origin} {c : Channel} {new : ChannelProfile} (h : P s) : P (s.takeChannelProfile o c new) := by
  unfold State.takeChannelProfile
  split
  · split
    · next hs => exact K.respond (K.setTrunk hs h)
    · exact K.respond h
  · split
    · next hs =>
      have hu : P ((s.updConfig fun g => { g with channelProfiles := updAt g.channelProfiles c fun _ => new }).updChan c
          fun r => { r with trunk := new.trunk }) := K.setTrunk hs (K.config id id h)
      dsimp only
      split
      · exact K.send hu
      · exact K.send (K.send hu)
    · exact K.send h

/-- A lockout release clears the mark with the count. -/
theorem takeLockoutRelease {c : Channel} (h : P s) : P (s.takeLockoutRelease c) := by
  unfold State.takeLockoutRelease
  split
  · refine K.send (K.send (K.chan ?_ Iff.rfl (fun _ => rfl) id h))
    rintro ⟨hlease, hintent, hstamp, hfault, hshed, hstable, -, -, -⟩
    exact ⟨hlease, hintent, hstamp, hfault, hshed, hstable, by simp, by simp [Config.lockoutFaults], by simp⟩
  · exact K.send h

theorem leaseTake {i : Instr} (h : P s) : P (Machine.leaseTake i s) := by
  unfold Machine.leaseTake
  split
  · exact K.takeClaim h
  · exact K.takeRelease h
  · exact K.takeAdopt h
  · exact K.takeDeEnergize h
  · exact K.takeClearFault h
  · exact K.takeRestate h
  · exact K.takeReadChannel h
  · exact K.takeOpenClaim h
  · exact K.takeLapseClaim h
  · exact K.takeCloseClaim h
  · exact K.takeChannelProfile h
  · exact K.takeLockoutRelease h
  · exact K.takeShed h
  · exact K.takeTrip h
  · exact K.enqueue h
  · exact K.takeWithhold h
  · exact K.takeAdmit h
  · exact K.takeWaitExpiry h
  · exact K.takeFlush h
  · exact K.takeAdvance h
  · exact K.takeCompletion h
  · exact K.takeFailure h
  · exact K.takeShort h
  · exact K.takeLineClaim h
  · exact K.takeLineRelease h
  · exact K.takeInhibit h
  · exact K.takeResume h
  · exact h

end Passes
end Sys2Proof.Machine

/-! How a property of the part's records passes the other blocks' commands, and so every command. -/

namespace Sys2Proof.Machine

open Sys2Proof.Safety

namespace Passes

variable {P : State → Prop} {s : State} (K : Passes P)
include K

/-! ### The release of what is held back, and the Admission Unit -/

theorem releaseHeldBack (h : P s) : P s.releaseHeldBack :=
  State.releaseHeldBack_inv K.inFlight K.run K.pass K.heldBack h fun _ _ hu => K.leaseTake hu

theorem energizeTake {i : Instr} (h : P s) : P (Machine.energizeTake i s) := K.same _ _ (by simp [SameRecords]) h

theorem admissionSettled (h : P s) : P s.admissionSettled :=
  foldl_inv (fun _ _ hu => K.energizeTake hu) (K.waiting _ _ (K.releaseHeldBack h))

theorem endEnergize {src : EnergizeSource} {c : Channel} {st : Status} {x : ChanState} {ahead : Option Nat} (h : P s) :
    P (s.endEnergize src c st x ahead) := K.same _ _ (by simp [SameRecords]) h

theorem takeArrivalAnswer {t : Trunk} {c : Channel} {need : Nat} {why : Option AdmissionRefusal} (h : P s) :
    P (s.takeArrivalAnswer t c need why) := K.same _ _ (by simp [SameRecords]) h

theorem takePassAnswer {t : Trunk} {c : Channel} {need : Nat} {why : Option AdmissionRefusal} (h : P s) :
    P (s.takePassAnswer t c need why) := by
  unfold State.takePassAnswer
  repeat' split
  · exact K.same _ _ (by simp [SameRecords]) h
  · exact K.admissionSettled (K.same _ _ (by simp [SameRecords]) h)
  · exact h
  · exact h

theorem takeEntryAnswer {c : Channel} {left : ChanState} {ahead : Option Nat} (h : P s) :
    P (s.takeEntryAnswer c left ahead) := by
  unfold State.takeEntryAnswer
  repeat' split
  · exact K.admissionSettled (K.same _ _ (by simp [SameRecords]) h)
  · exact K.admissionSettled (K.endEnergize h)
  · exact h

theorem takeWithholdAnswer {c : Channel} {left : ChanState} {taken : Bool} (h : P s) :
    P (s.takeWithholdAnswer c left taken) := by
  unfold State.takeWithholdAnswer
  split
  · exact K.admissionSettled (K.endEnergize h)
  · exact h

theorem takeAdmitAnswer {t : Trunk} {c : Channel} {found : Found} {need : Nat} {left : ChanState} {taken : Bool} (h : P s) :
    P (s.takeAdmitAnswer t c found need left taken) := by
  unfold State.takeAdmitAnswer
  split
  · split
    · split
      · refine K.admissionSettled (K.same s _ ?_ h)
        cases taken <;> simp [SameRecords]
      · exact h
    · exact h
  · split
    · refine K.admissionSettled (K.same s _ ?_ h)
      cases taken <;> simp [SameRecords]
    · exact h

theorem takeRemoval {c : Channel} (h : P s) : P (s.takeRemoval c) := by
  unfold State.takeRemoval
  split
  · exact h
  · next hs => exact K.remove hs h

/-! ### The Budget Unit -/

theorem makeShed {t : Trunk} {heat : Nat} (h : P s) : P (s.makeShed t heat) := by
  unfold State.makeShed
  split
  · exact K.trunk id rfl rfl rfl h
  · split
    · exact h
    · exact K.send (K.trunk id rfl rfl rfl h)

theorem makeOwed {t : Trunk} (h : P s) : P (s.makeOwed t) :=
  foldl_inv (fun _ _ hu => K.makeShed hu) (K.trunk id rfl rfl rfl h)

theorem overdrawCheck {t : Trunk} {margin : Nat} {c : Channel} (h : P s) : P (s.overdrawCheck t margin c) := by
  unfold State.overdrawCheck
  dsimp only
  split
  · split
    · exact K.acct rfl rfl h
    · exact K.postHolder (K.acct rfl rfl (K.charge h))
  · exact K.acct rfl rfl h

/-- Behind the heating, a budget interval expiry enters a state as Table 1-5 says, and checks the overdraw. -/
theorem budgetExpiry {t : Trunk} (h : P (s.heatStep t)) : P (s.budgetExpiry t) := by
  unfold State.budgetExpiry
  dsimp only
  split
  · next p st hp hst =>
    refine foldl_inv (fun _ _ hu => K.overdrawCheck hu) ?_
    split
    · exact h
    · next hne =>
      refine K.enter (by simp [State.heatStep, hp]) (fun hok hl => absurd ?_ hne) h
      have htrip : st = .TRIPPED := by
        have := (hok.2.2.1 (by simp [State.heatStep, hp])).1 hl
        simpa [State.heatStep, hst] using this
      rw [htrip]; rfl
  · exact h

theorem shedExpiry {t : Trunk} (hs : (s.trunk t).state = some .SHEDDING) (h : P s) : P (s.shedExpiry t) := by
  unfold State.shedExpiry
  split
  · exact h
  · have htimer : P (s.updTrunk t fun r => { r with shedTimer := some Config.shedInterval }) := by
      refine K.trunk ?_ rfl rfl rfl h
      rintro ⟨hheat, hstate, hlatch, hlast, htimer⟩
      exact ⟨hheat, hstate, hlatch, hlast, by simp [hs]⟩
    dsimp only
    split
    · refine K.makeShed (K.trunk ?_ rfl rfl rfl htimer)
      rintro ⟨hheat, hstate, hlatch, hlast, htimer⟩
      exact ⟨hheat, hstate, hlatch, by simp [hs], htimer⟩
    · exact htimer

theorem takeShedAnswer {t : Trunk} {c : Channel} {taken : Bool} (h : P s) : P (s.takeShedAnswer t c taken) := by
  unfold State.takeShedAnswer
  split
  · exact h
  · next x _ =>
    have hended : P (s.updTrunk t fun r => { r with shedInHand := none }) := K.trunk id rfl rfl rfl h
    split
    · have hanswered : P (if taken then
            (s.updTrunk t fun r => { r with shedInHand := none }).postHolder .budgetUnit c
              ⟨.SHED, .channel c, some (.shed .SHED), some (.heat x.heat)⟩
          else if x.current = true ∧ (s.trunk t).state = some .SHEDDING then
            (s.updTrunk t fun r => { r with shedInHand := none }).makeShed t x.heat
          else s.updTrunk t fun r => { r with shedInHand := none }) := by
        repeat' split
        · exact K.postHolder hended
        · exact K.makeShed hended
        · exact hended
      dsimp only
      split
      · exact K.makeOwed hanswered
      · exact hanswered
    · exact h

theorem postTrunk {t : Trunk} {n : Notice} (h : P s) : P (s.postTrunk t n) := K.same _ _ (by simp [SameRecords]) h

theorem takeTripAnswer {t : Trunk} {c : Channel} {heat : Nat} {conf taken : Bool} (h : P s) :
    P (s.takeTripAnswer t c heat conf taken) := by
  have htold : P (if taken then
      s.postHolder .budgetUnit c ⟨.SHED, .channel c, some (.shed .TRIP), some (.heat heat)⟩ else s) := by
    split
    · exact K.postHolder h
    · exact h
  unfold State.takeTripAnswer
  dsimp only
  split
  · exact htold
  · split
    · exact K.postTrunk (K.trunk id rfl rfl rfl htold)
    · exact K.trunk id rfl rfl rfl htold

theorem takeAdmission {pass : Bool} {t : Trunk} {c : Channel} {need : Nat} {staged : Bool} (h : P s) :
    P (s.takeAdmission pass t c need staged) := by
  unfold State.takeAdmission
  split
  · exact K.send h
  · dsimp only
    split
    · exact K.send (K.clearSlot (K.charge h))
    · exact K.send (K.charge h)

theorem takeRestated {c : Channel} {old new : Nat} (h : P s) : P (s.takeRestated c old new) := by
  unfold State.takeRestated
  split
  · exact K.send h
  · dsimp only
    split
    · exact K.send (K.acct rfl rfl (K.charge h))
    · exact K.send h

theorem takeTrunkProfile {o : Origin} {t : Trunk} {new : TrunkProfile} (h : P s) : P (s.takeTrunkProfile o t new) := by
  unfold State.takeTrunkProfile
  dsimp only
  split
  · exact K.respond (K.derive h)
  · split
    · exact K.send h
    · split
      · next hp =>
        refine K.send (K.serviceEvent (K.trunk ?_ rfl rfl rfl h))
        rintro ⟨hheat, hstate, hlatch, hlast, htimer⟩
        exact ⟨hheat, hstate.trans hp, fun _ => hlatch hp, hlast, htimer⟩
      · exact K.send (K.serviceEvent (K.derive h))

/-- TRUNK CLEAR passes as far as the clearing of the trip that it names does. -/
theorem takeTrunkClear {p : Port} {b : Byte} (h : P s)
    (hclear : ∀ t, b = BitVec.ofNat 8 t.val → (s.trunk t).state = some .TRIPPED →
      P (s.updTrunk t fun r => { r with latch := false, state := some .NORMAL })) : P (s.takeTrunkClear p b) := by
  unfold State.takeTrunkClear
  split
  · exact K.respond h
  · next t ht =>
    have hb : b = BitVec.ofNat 8 t.val := by
      unfold trunkOf at ht
      split at ht
      · cases ht
        exact BitVec.eq_of_toNat_eq (by simp)
      · cases ht
    dsimp only
    split
    · exact K.respond h
    · split
      · exact K.respond h
      · next hs =>
        split
        · exact K.respond h
        · exact K.postTrunk (K.serviceEvent (K.respond (hclear t hb (not_not.1 hs))))

/-! ### The Line Unit -/

omit K in
/-- A line record of an ASSIST line, whose flag, lease and claim may change. -/
theorem lineOkIn_assist {r q : LineRec} {b : Bool} {c : Channel} {cur prio : Nat} (hb : r.binding = .ASSIST c cur prio)
    (hq : q.binding = r.binding) (hl : q.level = r.level) (hw : q.raw = r.raw) (hd : q.debounce = r.debounce) (h : lineOkIn b r) :
    lineOkIn b q := by
  obtain ⟨⟨-, hdeb⟩, hreset⟩ := h
  exact ⟨⟨fun hx => absurd (hq.trans hb) (hx c cur prio), by rw [hd, hl, hw]; exact hdeb⟩, by rw [hl]; exact hreset⟩

theorem sendLineClaim {l : Line} (h : P s) : P (s.sendLineClaim l) := by
  unfold State.sendLineClaim
  split
  · next hb => exact K.send (K.line (lineOkIn_assist hb rfl rfl rfl rfl) h)
  · exact h

theorem sendLineRelease {l : Line} (h : P s) : P (s.sendLineRelease l) := by
  unfold State.sendLineRelease
  split
  · next hb => exact K.send (K.line (lineOkIn_assist hb rfl rfl rfl rfl) h)
  · exact h

theorem assistRise {l : Line} (h : P s) : P (s.assistRise l) := by
  unfold State.assistRise
  split
  · exact h
  · exact K.sendLineClaim h

theorem assistFall {l : Line} {c : Channel} {cur prio : Nat} (hb : (s.line l).binding = .ASSIST c cur prio) (h : P s) :
    P (s.assistFall l) := by
  unfold State.assistFall
  split
  · exact K.sendLineRelease h
  · exact K.line (lineOkIn_assist hb rfl rfl rfl rfl) h

theorem resumeUnlessVetoed {l : Line} {c : Channel} (h : P s) : P (s.resumeUnlessVetoed l c) := K.same _ _ (by simp [SameRecords]) h

theorem lineRise {l : Line} (h : P s) : P (s.lineRise l) := by
  unfold State.lineRise
  split
  · exact h
  · exact K.assistRise h
  · exact K.resumeUnlessVetoed h

theorem lineFall {l : Line} (h : P s) : P (s.lineFall l) := by
  unfold State.lineFall
  split
  · exact h
  · next hb => exact K.assistFall hb h
  · exact K.send h

theorem debounced {l : Line} (h0 : s.inReset = false) (h : P s) : P (s.debounced l) := by
  have ht : P (s.updLine l fun r => { r with level := some r.raw, debounce := none }) := by
    refine K.line ?_ h
    rintro ⟨⟨hassist, -⟩, -⟩
    exact ⟨⟨hassist, by simp⟩, by simp [h0]⟩
  unfold State.debounced
  dsimp only
  repeat' split
  · exact ht
  · exact K.lineRise ht
  · exact K.lineFall ht
  · exact ht

theorem takeLineAnswer {l : Line} {kind : LineClaimKind} {taken : Bool} (h : P s) : P (s.takeLineAnswer l kind taken) := by
  unfold State.takeLineAnswer
  dsimp only
  split
  · next hb =>
    split
    · exact h
    · split
      · split
        · have hheld := K.send (m := .lineEnergize ‹Channel› (.line l) false) (K.line (s := s) (l := l)
            (f := fun r => { r with leaseHeld := true, claim := none, overruled := false })
            (lineOkIn_assist hb rfl rfl rfl rfl) h)
          split
          · exact hheld
          · exact K.sendLineRelease hheld
        · exact K.line (lineOkIn_assist hb rfl rfl rfl rfl) h
      · have hended := K.line (s := s) (l := l) (f := fun r => { r with leaseHeld := false, claim := none })
          (lineOkIn_assist hb rfl rfl rfl rfl) h
        split
        · exact K.sendLineClaim hended
        · exact hended
  · exact h

theorem takeFreeReport {c : Channel} (h : P s) : P (s.takeFreeReport c) := foldl_inv (fun _ _ hu => K.sendLineClaim hu) h

theorem takeServicePhase (h : P s) : P s.takeServicePhase := foldl_inv (fun _ _ hu => K.assistRise hu) h

theorem takeLeaseEnded {l : Line} (h : P s) : P (s.takeLeaseEnded l) := by
  unfold State.takeLeaseEnded
  split
  · next hb => exact K.line (lineOkIn_assist hb rfl rfl rfl rfl) h
  · exact h

theorem unbindLine {l : Line} {old : Binding} (h : P s) : P (s.unbindLine l old) := K.same _ _ (by simp [SameRecords]) h

theorem bindLine {l : Line} {new : Binding} (h : P s) : P (s.bindLine l new) := by
  unfold State.bindLine
  split
  · split
    · exact h
    · exact K.send h
  · split
    · exact K.sendLineClaim h
    · exact h
  · exact h

theorem answerBinding {o : Origin} {taken : Bool} (h : P s) : P (s.answerBinding o taken) := K.same _ _ (by simp [SameRecords]) h

theorem takeBinding {o : Origin} {l : Line} {new : Binding} (h : P s) : P (s.takeBinding o l new) := by
  unfold State.takeBinding
  split
  · exact K.answerBinding h
  · next hx =>
    simp only [not_or, Bool.not_eq_true, Option.isSome_eq_false_iff, Option.isNone_iff_eq_none] at hx
    have hbound : P (s.updLine l fun r => { r with binding := new, overruled := false }) := by
      refine K.line ?_ h
      rintro ⟨⟨-, hdeb⟩, hreset⟩
      exact ⟨⟨fun _ => ⟨rfl, hx.1, hx.2⟩, hdeb⟩, hreset⟩
    refine K.answerBinding ?_
    split
    · exact K.bindLine (K.unbindLine hbound)
    · exact hbound

theorem rawLevelChange {l : Line} {high : Bool} (h : P s) : P (s.updLine l fun r => r.rawChange high s.inReset) := by
  refine K.line ?_ h
  rintro ⟨⟨hassist, hdeb⟩, hreset⟩
  unfold LineRec.rawChange
  split
  · exact ⟨⟨hassist, hdeb⟩, hreset⟩
  · split
    · next hr => exact ⟨⟨hassist, fun _ => by simp [hreset hr]⟩, hreset⟩
    · next hr =>
      refine ⟨⟨hassist, fun hd hl => ?_⟩, fun hx => absurd hx hr⟩
      dsimp only at hd hl
      rw [if_pos hl] at hd
      cases hd

/-! ### The Configuration Unit -/

theorem postProposer {p : Port} {n : Notice} (h : P s) : P (s.postProposer p n) := K.same _ _ (by simp [SameRecords]) h

theorem postOthers {p : Port} {n : Notice} (h : P s) : P (s.postOthers p n) := K.same _ _ (by simp [SameRecords]) h

theorem emptySlot (h : P s) : P (s.setSlot none) := K.config (fun hg => ⟨hg.1, by simp⟩) id h

theorem takeSessionReport {p : Port} {change : SessionChange} (h : P s) : P (s.takeSessionReport p change) := by
  have hseen : P (s.updConfig fun g => { g with view := updAt g.view p fun _ => standingAfter change }) := K.config id id h
  unfold State.takeSessionReport
  dsimp only
  repeat' split
  · exact K.postOthers (K.emptySlot hseen)
  · exact hseen
  · exact hseen

theorem drainReports {p : Port} (h : P s) : P (s.drainReports p) :=
  foldl_inv (fun _ _ hu => K.takeSessionReport (K.inFlight _ _ hu)) h

theorem directWrite {α : Type} {p : Port} {fields : Option α} {k : α → State} (h : P s) (hk : ∀ x, P (k x)) :
    P (s.directWrite p fields k) := by
  unfold State.directWrite
  repeat' split
  · exact K.respond h
  · exact K.respond h
  · exact hk _

theorem writeTake {i : Instr} (h : P s) : P (Machine.writeTake i s) := by
  unfold Machine.writeTake
  split
  · exact K.takeTrunkProfile h
  · exact K.gate h fun _ hu => K.takeChannelProfile hu
  · exact K.takeBinding h
  · exact h

theorem takeCloseCommissioning {p : Port} (h : P s) : P (s.takeCloseCommissioning p) := by
  unfold State.takeCloseCommissioning
  split
  · exact K.respond h
  · have hw : P s.carryOutWrites := State.carryOutWrites_inv K.inFlight h fun _ _ hu => K.writeTake hu
    unfold State.closePhase
    split
    · exact K.respond hw
    · exact K.respond (K.send (K.config id (fun _ => rfl) hw))

omit K in
/-- The proposal counter never becomes 0 (R138). -/
theorem nextNumber_ne_zero {n : BitVec 16} : nextNumber n ≠ 0#16 := by
  unfold nextNumber
  split <;> bv_omega

theorem takePropose {p : Port} {b : ProposeBlock} (h : P s) : P (s.takePropose p b) := by
  unfold State.takePropose
  repeat' split
  · exact K.respond h
  · exact K.respond h
  · exact K.respond h
  · refine K.postOthers (K.respond (K.config (fun hg => ⟨nextNumber_ne_zero, ?_⟩) id h))
    rintro x ⟨⟩
    exact hg.1

theorem namedProposal {p : Port} {n : BitVec 16} {k : Proposal → State} (h : P s)
    (hk : ∀ x, s.config.slot = some x → P (k x)) : P (s.namedProposal p n k) := by
  unfold State.namedProposal
  repeat' split
  · exact K.respond h
  · exact K.respond h
  · exact K.respond h
  · next hx => exact hk _ (Option.filter_eq_some_iff.1 hx).1

theorem applyRefused {x : Proposal} {q : Port} {cause : Status} (h : P s) : P (s.applyRefused x q cause) :=
  K.postProposer (K.respond (K.emptySlot h))

theorem takeConcur {p : Port} {n : BitVec 16} (h : P s) : P (s.takeConcur p n) := by
  refine K.namedProposal h fun x hx => ?_
  repeat' split
  · exact K.respond h
  · exact K.applyRefused h
  · refine K.send (K.config (fun hg => ⟨hg.1, ?_⟩) id h)
    rintro y ⟨⟩
    exact hg.2 x hx

theorem takeWithdraw {p : Port} {n : BitVec 16} (h : P s) : P (s.takeWithdraw p n) := by
  refine K.namedProposal h fun x _ => ?_
  split
  · exact K.respond h
  · exact K.postOthers (K.emptySlot (K.respond h))

theorem windowExpiry (h : P s) : P s.windowExpiry := by
  unfold State.windowExpiry
  repeat' split
  · exact K.postProposer (K.emptySlot h)
  · exact h
  · exact h

theorem takeApplyAnswer {taken : Bool} (h : P s) : P (s.takeApplyAnswer taken) := by
  unfold State.takeApplyAnswer
  repeat' split
  · refine K.postProposer (K.respond (K.emptySlot (K.config ?_ ?_ h))) <;>
      (unfold ConfigRec.replaceCopy; split <;> exact id)
  · exact K.applyRefused h
  · exact h
  · exact h

/-! ### The Sense Block and the Channel Drivers -/

theorem takePulse {c : Channel} {onTime : Nat} (h : P s) : P (s.takePulse c onTime) := by
  unfold State.takePulse
  split
  · next hx =>
    simp only [State.carriesOut, Bool.and_eq_true, decide_eq_true_eq, Bool.not_eq_true'] at hx
    obtain ⟨⟨⟨hcom, hshort⟩, -⟩, -⟩ := hx
    refine K.driver (fun _ _ => ⟨?_, hshort⟩) h
    unfold State.commanded at hcom
    split at hcom <;> simp_all [isPulsing]
  · exact h

theorem endPulse {c : Channel} (h : P s) : P (s.endPulse c) := K.driver (fun _ => by simp [pulseOk]) h

theorem pulseEnd {c : Channel} {vo : Int} (h : P s) : P (s.pulseEnd c vo) := by
  unfold State.pulseEnd
  repeat' split
  · exact K.same (s.endPulse c) _ (by simp [SameRecords]) (K.endPulse h)
  · exact K.same (s.endPulse c) _ (by simp [SameRecords]) (K.endPulse h)
  · exact h

theorem detectShort {c : Channel} {current : Nat} (h : P s) : P (s.detectShort c current) := by
  unfold State.detectShort
  split
  · rw [State.endPulse, State.updDriver_updDriver]
    exact K.send (K.driver (fun _ => by simp [pulseOk]) h)
  · exact h

/-! ### The Port Units -/

/-- A change of a port record that keeps what `portOk` looks at. -/
theorem portSame {p : Port} {f : PortRec → PortRec} (hf : portOk (f (s.port p)) ↔ portOk (s.port p)) (h : P s) : P (s.updPort p f) :=
  K.port hf.2 h

omit K in
/-- The restart of the supervision timer of a LIVE port. -/
theorem portOk_restart {r : PortRec} (h : portOk r) : portOk r.restart := by
  unfold PortRec.restart
  split
  · next hl => exact ⟨h.1, h.2.1, h.2.2.1, fun _ => hl, h.2.2.2.2⟩
  · exact h

theorem finish {p : Port} {st : Status} {pl : List Byte} (h : P s) : P (s.finish p st pl) := by
  unfold State.finish
  split
  · exact h
  · exact K.port id h

theorem accept {p : Port} {tag crc : Byte} {b : Bool} {own : State → State} (h : P s) (ho : ∀ u, P u → P (own u)) :
    P (s.accept p tag crc b own) := by
  unfold State.accept State.takeRequest
  split
  · exact K.port portOk_restart h
  · have ht : P (s.updPort p fun r => { r.restart with inHand := some ⟨tag, crc⟩ }) := K.port portOk_restart h
    dsimp only
    split
    · exact ho _ ht
    · exact K.finish ht

theorem window {p : Port} {b : List Byte} {act : State → State} (h : P s) (ha : ∀ u, P u → P (act u)) : P (s.window p b act) := by
  unfold State.window
  repeat' split
  · exact K.port id h
  · exact K.port id h
  · exact K.port id h
  · exact ha _ (K.port id h)

theorem ownOpen {p : Port} {period : Byte} (h : P s) : P (s.ownOpen p period) := by
  unfold State.ownOpen
  dsimp only
  split
  · exact K.finish h
  · refine K.send (K.send (K.port ?_ h))
    rintro ⟨hq, hlost, -, -, -⟩
    split
    · exact ⟨by simp, by simp, by simp, fun _ => rfl, by simp⟩
    · exact ⟨hq, hlost, by simp, fun _ => rfl, by simp⟩

theorem ownClose {p : Port} (h : P s) : P (s.ownClose p) :=
  K.send (K.send (K.port (fun _ => ⟨by simp, by simp, by simp, by simp, by simp⟩) h))

theorem ownReadPort {p : Port} {b : Byte} (h : P s) : P (s.ownReadPort p b) := by
  unfold State.ownReadPort
  split <;> exact K.finish h

theorem ownReadNotice {p : Port} (h : P s) : P (s.ownReadNotice p) := by
  unfold State.ownReadNotice
  dsimp only
  split
  · next hq =>
    refine K.finish (K.port ?_ h)
    rintro ⟨hlen, -, hdown, hlive, hper⟩
    exact ⟨hlen, by simp, fun hd => ⟨(hdown hd).1, rfl⟩, hlive, hper⟩
  · next hq =>
    refine K.finish (K.port ?_ h)
    rintro ⟨hlen, -, hdown, hlive, hper⟩
    rw [hq] at hlen hdown
    exact ⟨Nat.le_of_succ_le hlen, by simp, fun hd => absurd (hdown hd).1 (by simp), hlive, hper⟩

theorem supervisionExpiry {p : Port} (h : P s) : P (if (s.port p).state = .LIVE ∧ (s.port p).timer.isSome then
    ((s.updPort p fun r => { r with state := .LAPSED, timer := none }).send (.lapseClaim p)).send
      (.sessionReport p .LAPSE) else s) := by
  split
  · next hl =>
    refine K.send (K.send (K.port ?_ h))
    rintro ⟨hlen, hlost, -, -, hper⟩
    exact ⟨hlen, hlost, by simp, by simp, by simpa [hl.1] using hper⟩
  · exact h

theorem takeCopy {p : Port} {n : Notice} (h : P s) : P (s.updPort p fun r => r.takeCopy n) := by
  refine K.port ?_ h
  rintro ⟨hlen, hlost, hdown, hlive, hper⟩
  unfold PortRec.takeCopy
  split
  · exact ⟨hlen, hlost, hdown, hlive, hper⟩
  · next hd =>
    split
    · next hroom => exact ⟨by simpa using hroom, hlost, fun hx => absurd hx hd, hlive, hper⟩
    · exact ⟨hlen, Nat.min_le_left _ _, fun hx => absurd hx hd, hlive, hper⟩

/-! ### Every command -/

/-- A request passes its owner, as far as the clearing of the trip that it names does. -/
theorem ownerPart {i : Instr} (h : P s) (hclear : ∀ u r t, i = .trunkClear r (BitVec.ofNat 8 t.val) →
    (u.trunk t).state = some .TRIPPED → P u → P (u.updTrunk t fun r => { r with latch := false, state := some .NORMAL })) :
    P (Machine.ownerPart i s) := by
  cases i
  case openPort => exact K.ownOpen h
  case closePort => exact K.ownClose h
  case ping => exact K.finish h
  case readPort => exact K.ownReadPort h
  case readIdent => exact K.finish h
  case readNotice => exact K.ownReadNotice h
  case energize => exact K.energizeTake (i := .energize _ _) h
  case trunkClear => exact K.takeTrunkClear h fun t ht hs => hclear s _ t (by rw [ht]) hs h
  case readTrunk => exact K.same _ _ (by simp [SameRecords, Machine.ownerPart]) h
  case trunkProfileWrite => exact K.directWrite (K.drainReports h) fun _ => K.send (K.config id id (K.drainReports h))
  case channelProfileWrite => exact K.directWrite (K.drainReports h) fun _ => K.send (K.config id id (K.drainReports h))
  case lineBindingWrite => exact K.directWrite (K.drainReports h) fun _ => K.send (K.config id id (K.drainReports h))
  case closeCommissioning => exact K.takeCloseCommissioning (K.drainReports h)
  case propose => exact K.takePropose (K.drainReports h)
  case concur => exact K.takeConcur (K.drainReports h)
  case withdraw => exact K.takeWithdraw (K.drainReports h)
  case readProposal => exact K.respond (K.drainReports h)
  all_goals exact K.gate h fun _ hu => K.leaseTake hu

omit K in
/-- A decoded TRUNK CLEAR has the frame's fields that it was decoded with. -/
theorem decodeRequest_trunkClear {r q : Req} {code b : Byte} {payload : List Byte}
    (h : decodeRequest r code payload = some (.trunkClear q b)) : q = r := by
  unfold decodeRequest at h
  repeat' split at h
  all_goals simp_all

/-- A window passes, as far as the clearing of the trip that its bytes carry does. -/
theorem rawWindow {p : Port} {bytes : List Byte} (h : P s)
    (hclear : ∀ u t tag code payload crc r, checkFrame bytes = .request tag code payload crc →
      decodeRequest r code payload = some (.trunkClear r (BitVec.ofNat 8 t.val)) → (u.trunk t).state = some .TRIPPED → P u →
      P (u.updTrunk t fun r => { r with latch := false, state := some .NORMAL })) : P (s.rawWindow p bytes) := by
  refine K.window h fun u hu => ?_
  unfold State.actOn
  split
  · exact hu
  · exact K.port id hu
  · next tag code payload crc hx =>
    split
    · exact K.accept hu fun _ hv => K.finish hv
    · next i hi =>
      refine K.accept hu fun v hv => K.ownerPart hv fun w r t ht hs hw => ?_
      subst ht
      rw [← decodeRequest_trunkClear hi] at hi
      exact hclear w t tag code payload crc _ hx hi hs hw

/-- Every command passes, as far as the heating of a trunk, the clearing of a trip and the resets do. -/
theorem exec {i : Instr} {u : State} (hx : Machine.exec i s = .next u) (h : P s)
    (hreset : i = .powerOnReset ∨ i = .nrstReset → P u)
    (hheat : ∀ v t, i = .budgetIntervalExpiry t → P v → P (v.heatStep t))
    (hclear : ∀ v t, carriesTrunkClear i t → (v.trunk t).state = some .TRIPPED → P v →
      P (v.updTrunk t fun r => { r with latch := false, state := some .NORMAL })) : P u := by
  cases hw : windowOf i with
  | some x =>
    obtain ⟨p, bytes⟩ := x
    rw [exec_window hw] at hx
    cases hx
    exact K.rawWindow h fun v t tag code payload crc r hc hd hs hv => hclear v t ⟨p, bytes, tag, code, payload, crc, r, hw, hc, hd⟩ hs hv
  | none =>
    cases i
    case powerOnReset => exact hreset (.inl rfl)
    case nrstReset => exact hreset (.inr rfl)
    all_goals cases hx
    all_goals first | cases hw; done | skip
    case resetRelease.refl selected =>
      split
      · next hr => exact K.release selected hr h
      · exact h
    case responseReady.refl => exact K.taking h fun _ hu => K.finish hu
    case supervisionExpiry.refl => exact State.running_inv h fun _ => K.supervisionExpiry h
    case sessionReport.refl => exact K.taking h fun _ hu => K.takeSessionReport hu
    case windowTimerExpiry.refl => exact State.running_inv h fun _ => K.windowExpiry h
    case applyAnswer.refl => exact K.taking h fun _ hu => K.takeApplyAnswer hu
    case trunkProfileClaim.refl => exact K.taking h fun _ hu => K.takeTrunkProfile hu
    case bindingClaim.refl => exact K.taking h fun _ hu => K.takeBinding hu
    case servicePhaseReport.refl => exact K.taking h fun _ hu => K.takeServicePhase hu
    case budgetIntervalExpiry.refl t => exact State.running_inv h fun _ => K.budgetExpiry (hheat s t rfl h)
    case shedIntervalExpiry.refl =>
      refine State.running_inv h fun _ => ?_
      split
      · next hs => exact K.shedExpiry hs.1 h
      · exact h
    case shedAnswer.refl => exact K.taking h fun _ hu => K.takeShedAnswer hu
    case tripClaimAnswer.refl => exact K.taking h fun _ hu => K.takeTripAnswer hu
    case admissionClaim.refl => exact K.taking h fun _ hu => K.takeAdmission hu
    case returnClaim.refl => exact K.taking h fun _ hu => K.returned hu
    case completionLowering.refl =>
      refine K.taking h fun _ hu => ?_
      split
      · exact K.lowerCharge hu
      · exact hu
    case restatedReservation.refl => exact K.taking h fun _ hu => K.takeRestated hu
    case admissionConfirmation.refl => exact K.taking h fun u hu => K.same u _ (by simp [SameRecords]) hu
    case lineEnergize.refl => exact K.taking h fun u hu => K.same u _ (by simp [SameRecords]) hu
    case arrivalAdmissionAnswer.refl => exact K.taking h fun _ hu => K.takeArrivalAnswer hu
    case queueEntryAnswer.refl => exact K.taking h fun _ hu => K.takeEntryAnswer hu
    case withholdAnswer.refl => exact K.taking h fun _ hu => K.takeWithholdAnswer hu
    case admitClaim.refl =>
      exact K.taking h fun _ hu => K.releaseHeldBack (K.gate hu fun _ hv => K.leaseTake hv)
    case admitClaimAnswer.refl => exact K.taking h fun _ hu => K.takeAdmitAnswer hu
    case serviceEvent.refl => exact K.taking h fun _ hu => State.takeServiceEvent_inv K.inFlight K.pass hu
    case passAdmissionAnswer.refl => exact K.taking h fun _ hu => K.takePassAnswer hu
    case removalClaim.refl => exact K.taking h fun _ hu => K.takeRemoval hu
    case waitLimitExpiry.refl =>
      refine State.running_inv h fun _ => ?_
      split
      · exact K.send (K.expire h)
      · exact h
    case queueFlush.refl => exact K.taking h fun _ hu => foldl_inv (fun _ _ hv => K.send hv) hu
    case start.refl => exact K.taking h fun _ hu => stagedTake_inv (m := .start _) K.inFlight K.run hu
    case advanceAnswer.refl => exact K.taking h fun _ hu => stagedTake_inv (m := .advanceAnswer _ _) K.inFlight K.run hu
    case completionAnswer.refl => exact K.taking h fun _ hu => stagedTake_inv (m := .completionAnswer _ _) K.inFlight K.run hu
    case failureAnswer.refl => exact K.taking h fun _ hu => stagedTake_inv (m := .failureAnswer _ true) K.inFlight K.run hu
    case abort.refl => exact K.taking h fun _ hu => stagedTake_inv (m := .abort _) K.inFlight K.run hu
    case probePeriodExpiry.refl => exact State.running_inv h fun _ => K.same s _ (by simp [SameRecords]) h
    case fillPeriodExpiry.refl => exact State.running_inv h fun _ => K.same s _ (by simp [SameRecords]) h
    case fillTimerExpiry.refl => exact State.running_inv h fun _ => K.same s _ (by simp [SameRecords]) h
    case outputVoltageSample.refl => exact K.taking h fun u hu => K.same u _ (by simp [SameRecords]) hu
    case pulseCommand.refl => exact K.taking h fun _ hu => K.takePulse hu
    case pulseEnd.refl => exact State.running_inv h fun _ => K.pulseEnd h
    case currentSample.refl => exact State.running_inv h fun _ => K.same s _ (by simp [SameRecords]) h
    case sampleInstant.refl => exact State.running_inv h fun _ => K.same s _ (by simp [SameRecords]) h
    case shortDetection.refl => exact State.running_inv h fun _ => K.detectShort h
    case onStableExpiry.refl =>
      refine State.running_inv h fun _ => ?_
      split
      · next hs =>
        refine K.chan ?_ Iff.rfl (fun _ => rfl) id h
        rintro ⟨hlease, hintent, hstamp, hfault, hshed, -, -, -, hfree⟩
        have hlock : (s.chan _).lockedOut = false := Bool.eq_false_iff.2 fun hl => absurd (hs.1.symm.trans (hfree hl)) (by simp)
        exact ⟨hlease, hintent, hstamp, hfault, hshed, by simp, by simp, by simp [hlock, Config.lockoutFaults], hfree⟩
      · exact h
    case rawLevelChange.refl => exact K.rawLevelChange h
    case debounceExpiry.refl =>
      refine State.running_inv h fun h0 => ?_
      split
      · exact K.debounced h0 h
      · exact h
    case lineClaimAnswer.refl => exact K.taking h fun _ hu => K.takeLineAnswer hu
    case lineEnergizeResponse.refl => exact K.taking h fun u hu => K.same u _ (by simp [SameRecords]) hu
    case freeReport.refl => exact K.taking h fun _ hu => K.takeFreeReport hu
    case lineLeaseEnded.refl => exact K.taking h fun _ hu => K.takeLeaseEnded hu
    case noticeCopyTaken.refl => exact K.taking h fun _ hu => K.takeCopy hu
    case restatedReservationAnswer.refl taken =>
      refine K.taking h fun u hu => ?_
      split
      · exact hu
      · refine K.releaseHeldBack ?_
        split
        · exact K.respond (K.mapLease (K.setRestating hu))
        · exact K.respond (K.setRestating hu)
    all_goals exact K.taking h fun _ hu => K.gate hu fun _ hv => K.leaseTake hv

end Passes
end Sys2Proof.Machine

/-! What the entry of a trunk into another state does (R10, R12, R93, R95 to R97, R100, R102, R116). -/

namespace Sys2Proof.Machine

open Sys2Proof.Safety

/-- A list of messages sent one after the other. -/
theorem foldl_send {α : Type} (f : α → Instr) (l : List α) (s : State) :
    l.foldl (fun s x => s.send (f x)) s = s.setInFlight (s.inFlight ++ l.map f) := by
  induction l generalizing s with
  | nil => simp [State.setInFlight]
  | cons x l ih => rw [List.foldl_cons, ih]; simp [State.send, State.setInFlight]

/-- The choice of a shed looks at the channel records and the admission counter alone. -/
theorem State.candidate_congr {s u : State} (t : Trunk) (hc : u.channels = s.channels) (ha : u.admissions = s.admissions) :
    u.candidate t = s.candidate t := by
  have hchan : u.chan = s.chan := by funext c; simp [State.chan, hc]
  have hage : u.age = s.age := by
    funext c
    unfold State.age
    rw [hchan, ha]
  have hbefore : u.shedBefore = s.shedBefore := by
    funext a b
    simp only [State.shedBefore, hage, hchan]
  have hchoose : ∀ l, u.choose l = s.choose l := by
    intro l
    induction l with
    | nil => rfl
    | cons c rest ih => simp only [State.choose, ih, hbefore]
  simp only [State.candidate, hchoose, State.candidates, State.drivenOn, hchan]

/-- The ports that a trunk notice goes to are those of the statements. -/
theorem trunkPorts_eq (s : State) (t : Trunk) : ((List.finRange 4).filter fun p =>
    decide ((s.viewOf p).standing = .LIVE)
      && (List.finRange 12).any fun c => decide ((s.chan c).trunk = some t) && s.isHolder p c) = trunkPorts s t := by
  unfold trunkPorts
  refine List.filter_congr fun q _ => ?_
  rw [Bool.eq_iff_iff]
  simp [State.isHolder, List.any_eq_true]

/-- A trunk notice, as the messages that it sends. -/
theorem State.postTrunk_eq (s : State) (t : Trunk) (n : Notice) :
    s.postTrunk t n = s.setInFlight (s.inFlight ++ (trunkPorts s t).map fun q => .noticeCopyTaken .budgetUnit q n) := by
  unfold State.postTrunk
  rw [trunkPorts_eq]
  exact foldl_send _ _ _

/-- The opening of switches changes the drivers alone, and looks at them and the profiles. -/
theorem State.openSwitches_eq (s : State) (t : Trunk) : s.openSwitches t = { s with
    drivers := (channelsWhere fun c => decide ((s.profile c).trunk = some t)).foldl
      (fun v c => updAt v c fun d => { d with pulse := none }) s.drivers } := by
  have hfold : ∀ (l : List Channel) (u : State), l.foldl (fun s c => s.endPulse c) u = { u with
      drivers := l.foldl (fun v c => updAt v c fun d => { d with pulse := none }) u.drivers } := by
    intro l
    induction l with
    | nil => exact fun u => rfl
    | cons c l ih => intro u; rw [List.foldl_cons, ih]; rfl
  exact hfold _ s

/-- The opened switches: the pulse of every channel whose profile names the trunk ends. -/
theorem State.openSwitches_driver (s : State) (t : Trunk) (c : Channel) : (s.openSwitches t).driver c =
    if (s.profile c).trunk = some t then { s.driver c with pulse := none } else s.driver c := by
  have hfold : ∀ (l : List Channel) (u : State), (l.foldl (fun s d => s.endPulse d) u).driver c
      = if c ∈ l then { u.driver c with pulse := none } else u.driver c := by
    intro l
    induction l with
    | nil => intro u; simp
    | cons d l ih =>
      intro u
      rw [List.foldl_cons, ih, State.endPulse, State.updDriver_get]
      by_cases hcd : c = d
      · subst hcd; simp
      · simp [hcd]
  unfold State.openSwitches
  rw [hfold]
  simp [channelsWhere]

/-- The record of a trunk that leaves its state: the shed bookkeeping is absent, and a shed in hand is of an episode past (R97). -/
def TrunkRec.left (r : TrunkRec) (st : TrunkState) : TrunkRec :=
  { r with
    state := some st, lastShed := none, shedTimer := none, owed := []
    shedInHand := r.shedInHand.map fun x => { x with current := false } }

/-- The entry into SHEDDING: the bookkeeping starts, and one shed is made or owed (R93, R95, R96). -/
theorem State.enterState_shedding (s : State) (t : Trunk) : s.enterState t .SHEDDING = { s with
    trunks := updAt s.trunks t fun r => enteredTrunk s t r .SHEDDING
    inFlight := s.inFlight ++ entryMessages s t (s.trunk t) .SHEDDING } := by
  let w : State := s.updTrunk t fun r =>
    { r.left .SHEDDING with lastShed := some r.heat, shedTimer := some Config.shedInterval }
  have hw : s.enterState t .SHEDDING = w.makeShed t (s.trunk t).heat := by
    simp only [State.enterState, State.updTrunk_updTrunk]
    rfl
  have hr : (s.trunk t) = s.trunks[t] := rfl
  have hcand : w.candidate t = s.candidate t := State.candidate_congr t rfl rfl
  rw [hw, State.makeShed, hcand, entryMessages]
  cases hx : (s.trunk t).shedInHand with
  | some x =>
    have hsome : (w.trunk t).shedInHand.isSome = true := by simp [w, TrunkRec.left, hx]
    rw [if_pos hsome, State.updTrunk_updTrunk, if_neg (by simp), List.append_nil, State.updTrunk]
    congr 1
    refine updAt_congr _ _ _ _ ?_
    rw [← hr]
    simp [enteredTrunk, TrunkRec.left, hx, Config.shedInterval, Config.msec]
  | none =>
    have hnone : ¬ (w.trunk t).shedInHand.isSome = true := by simp [w, TrunkRec.left, hx]
    rw [if_neg hnone, if_pos rfl]
    cases hc : s.candidate t with
    | none =>
      simp only [Option.toList_none, List.map_nil, List.append_nil, w, State.updTrunk]
      congr 1
      refine updAt_congr _ _ _ _ ?_
      rw [← hr]
      simp [enteredTrunk, TrunkRec.left, hx, hc, Config.shedInterval, Config.msec]
    | some c =>
      simp only [Option.toList_some, List.map_cons, List.map_nil, w, State.send, State.setInFlight, State.updTrunk, updAt_updAt]
      congr 1
      refine updAt_congr _ _ _ _ ?_
      rw [← hr]
      simp [enteredTrunk, TrunkRec.left, hx, hc, Config.shedInterval, Config.msec]

/-- The entry into TRIPPED: the latch, the trip heat, the trip claims, the opened switches and the flush (R100, R102, R116). -/
theorem State.enterState_tripped (s : State) (t : Trunk) : s.enterState t .TRIPPED = { s with
    trunks := updAt s.trunks t fun r => enteredTrunk s t r .TRIPPED
    inFlight := s.inFlight ++ entryMessages s t (s.trunk t) .TRIPPED
    drivers := (s.openSwitches t).drivers } := by
  let w : State := s.updTrunk t fun r => { r.left .TRIPPED with
    latch := true, tripHeat := r.heat
    trips := if drivenChannels s t = [] then r.trips else r.trips ++ [⟨r.heat, drivenChannels s t⟩] }
  have htrunks : w.trunks = updAt s.trunks t fun r => enteredTrunk s t r .TRIPPED := rfl
  have hlatched : ((s.updTrunk t fun r => r.left .TRIPPED).updTrunk t fun r => { r with
      latch := true, tripHeat := (s.trunk t).heat
      trips := if (s.drivenOn t).isEmpty then r.trips else r.trips ++ [⟨(s.trunk t).heat, s.drivenOn t⟩] }) = w := by
    rw [State.updTrunk_updTrunk]
    refine State.updTrunk_congr _ _ _ _ ?_
    simp only [List.isEmpty_iff]
    rfl
  have hswitches : (w.openSwitches t) = { w with drivers := (s.openSwitches t).drivers } := by
    rw [State.openSwitches_eq, State.openSwitches_eq s]
    rfl
  have hheat : ((s.updTrunk t fun r => r.left .TRIPPED).trunk t).heat = (s.trunk t).heat := by
    rw [State.updTrunk_self]
    rfl
  have hdriven : (s.updTrunk t fun r => r.left .TRIPPED).drivenOn t = s.drivenOn t := rfl
  have htrip : s.enterState t .TRIPPED = (s.updTrunk t fun r => r.left .TRIPPED).trip t := rfl
  rw [htrip, State.trip]
  rw [hheat, hdriven, hlatched, hswitches, foldl_send]
  have hdrv : s.drivenOn t = drivenChannels s t := rfl
  rw [entryMessages, hdrv]
  by_cases hn : drivenChannels s t = []
  · rw [if_pos (by rw [hn]; rfl), if_pos hn, State.postTripped, State.postTrunk_eq, hn]
    simp only [List.map_nil, List.append_nil, List.nil_append, State.send, State.setInFlight, List.append_assoc]
    rfl
  · rw [if_neg (by simpa using hn), if_neg hn, List.append_nil]
    simp only [State.send, State.setInFlight, List.append_assoc]
    rfl

/-- A trunk's entry into another state: its record and the messages are those of `enteredTrunk` and `entryMessages`, and beside the
drivers nothing else changes. -/
theorem State.enterState_eq (s : State) (t : Trunk) (st : TrunkState) : s.enterState t st = { s with
    trunks := updAt s.trunks t fun r => enteredTrunk s t r st
    inFlight := s.inFlight ++ entryMessages s t (s.trunk t) st
    drivers := (s.enterState t st).drivers } := by
  cases st with
  | NORMAL => rfl
  | WARM => simp [State.enterState, State.updTrunk, enteredTrunk, entryMessages]
  | SHEDDING => rw [State.enterState_shedding]
  | TRIPPED => rw [State.enterState_tripped]

/-- The drivers at a trunk's entry into another state are those of `enteredDrivers`. -/
theorem State.enterState_driver (s : State) (t : Trunk) (st : TrunkState) (c : Channel) :
    (s.enterState t st).driver c = enteredDrivers s t st c := by
  cases st with
  | NORMAL => simp [State.enterState, enteredDrivers]
  | WARM => simp [State.enterState, enteredDrivers]
  | SHEDDING =>
    rw [State.enterState_shedding]
    simp [enteredDrivers, State.driver]
  | TRIPPED =>
    rw [State.enterState_tripped]
    exact (s.openSwitches_driver t c).trans (by simp [enteredDrivers])

end Sys2Proof.Machine

/-! The invariants pass every command, and so every step: each looks at a few tables, and where a command changes one of these it
keeps what the invariant says of it. -/

namespace Sys2Proof.Machine

open Sys2Proof.Safety

/-! ### Properties by the tables that they look at -/

/-- A property of the trunk records and the accounts. -/
theorem Passes.ofBudget {P : State → Prop} (reads : ∀ {s u : State}, u.trunks = s.trunks → u.accounts = s.accounts → P s → P u)
    (trunk : ∀ {s : State} {t : Trunk} {f : TrunkRec → TrunkRec}, (trunkOk (s.trunk t) → trunkOk (f (s.trunk t))) →
      (f (s.trunk t)).reserved = (s.trunk t).reserved → (f (s.trunk t)).heat = (s.trunk t).heat →
      (f (s.trunk t)).latch = (s.trunk t).latch → P s → P (s.updTrunk t f))
    (enter : ∀ {s : State} {t : Trunk} {st : TrunkState}, (s.trunk t).profile.isSome = true →
      (trunkOk (s.trunk t) → (s.trunk t).latch = true → st = .TRIPPED) → P s → P (s.enterState t st))
    (derive : ∀ {s : State} {t : Trunk} {new : TrunkProfile}, P s → P ((s.updTrunk t fun r => { r with profile := some new }).derive t))
    (charge : ∀ {s : State} {c : Channel} {t : Trunk} {mA : Nat}, P s → P (s.charge c t mA))
    (acct : ∀ {s : State} {c : Channel} {f : Account → Account}, (f (s.acct c)).reservation = (s.acct c).reservation →
      (f (s.acct c)).charged = (s.acct c).charged → P s → P (s.updAcct c f))
    (returned : ∀ {s : State} {c : Channel}, P s → P (s.returnCharge c)) : Passes P where
  same s u h := reads h.2.1 h.2.2.1
  port _ := reads rfl rfl
  line _ := reads rfl rfl
  config _ _ := reads rfl rfl
  trunk := trunk
  enter := enter
  derive := derive
  charge := charge
  acct := acct
  returned := returned
  driver _ := reads rfl rfl
  chan _ _ _ _ := reads rfl rfl
  leave {s c new abort} _ _ _ h := by
    by_cases hd : isDriven (s.chan c).state = true
    · refine reads ?_ ?_ (returned (c := c) h) <;> rw [State.returnCharge_eq] <;> simp [goneTo, Safety.returned, hd]
    · refine reads ?_ ?_ h <;> simp [goneTo, hd]
  complete _ := reads (by simp) (by simp)
  enqueue := reads (by simp) (by simp)
  dequeue _ _ _ _ := reads (by simp) (by simp)
  remove _ := reads (by simp) (by simp)
  expire := reads rfl rfl
  release _ _ := reads rfl rfl

/-- A property of the port records, the Configuration Unit's record, the line records and the reset. -/
theorem Passes.ofSession {P : State → Prop}
    (reads : ∀ {s u : State}, u.ports = s.ports → u.config = s.config → u.lines = s.lines → u.inReset = s.inReset → P s → P u)
    (port : ∀ {s : State} {p : Port} {f : PortRec → PortRec}, (portOk (s.port p) → portOk (f (s.port p))) → P s → P (s.updPort p f))
    (line : ∀ {s : State} {l : Line} {f : LineRec → LineRec}, (lineOkIn s.inReset (s.line l) → lineOkIn s.inReset (f (s.line l))) →
      P s → P (s.updLine l f))
    (config : ∀ {s : State} {f : ConfigRec → ConfigRec}, (slotOk s.config → slotOk (f s.config)) →
      (s.config.phase = .SERVICE → (f s.config).phase = .SERVICE) → P s → P (s.updConfig f))
    (release : ∀ {s : State} (selected : List Port), s.inReset = true → P s → P { s with
      inReset := false
      lines := s.lines.map fun l => { l with debounce := some Config.debounce }
      ports := Vector.ofFn fun p => { s.port p with selHeld := selected.contains p } }) : Passes P where
  same s u h := reads h.2.2.2.2.2.2.2.1 h.2.2.2.2.2.2.2.2 h.2.2.2.2.2.2.1 h.1
  port := port
  line := line
  config := config
  trunk _ _ _ _ := reads rfl rfl rfl rfl
  enter _ _ := reads (by simp) (by simp) (by simp) (by simp)
  derive := reads (by simp) (by simp) (by simp) (by simp)
  charge := reads (by simp) (by simp) (by simp) (by simp)
  acct _ _ := reads rfl rfl rfl rfl
  returned := reads (by simp) (by simp) (by simp) (by simp)
  driver _ := reads rfl rfl rfl rfl
  chan _ _ _ _ := reads rfl rfl rfl rfl
  leave _ _ _ := reads rfl rfl rfl rfl
  complete _ := reads rfl rfl rfl rfl
  enqueue := reads (by simp) (by simp) (by simp) (by simp)
  dequeue _ _ _ _ := reads (by simp) (by simp) (by simp) (by simp)
  remove _ := reads (by simp) (by simp) (by simp) (by simp)
  expire := reads rfl rfl rfl rfl
  release := release

/-- A property of the channel records, the drivers and the queues. -/
theorem Passes.ofChannels {P : State → Prop}
    (reads : ∀ (s u : State), u.channels = s.channels → u.drivers = s.drivers → u.queues = s.queues → P s → P u)
    (driver : ∀ {s : State} {c : Channel} {f : Driver → Driver},
      (pulseOk (s.driver c) (s.chan c).state → pulseOk (f (s.driver c)) (s.chan c).state) → P s → P (s.updDriver c f))
    (chan : ∀ {s : State} {c : Channel} {f : ChannelRec → ChannelRec}, (chanOk (s.chan c) → chanOk (f (s.chan c))) →
      ((f (s.chan c)).state = .QUEUED ↔ (s.chan c).state = .QUEUED) →
      ((s.chan c).state = .QUEUED → (f (s.chan c)).trunk = (s.chan c).trunk) →
      (isPulsing (s.chan c).state = true → isPulsing (f (s.chan c)).state = true) → P s → P (s.updChan c f))
    (leave : ∀ {s : State} {c : Channel} {new : ChannelRec} {abort : Bool}, (chanOk (s.chan c) → chanOk new) →
      new.trunk = (s.chan c).trunk → new.state ≠ .QUEUED → P s → P (goneTo s c new abort))
    (complete : ∀ {s : State} {c : Channel}, (s.chan c).state = .FILL → P s →
      P ((s.updChan c fun r => { r with state := .ON, onStable := some Config.onStable }).endPulse c))
    (enqueue : ∀ {s : State} {c : Channel} {found : Found}, P s → P (s.takeQueueEntry c found))
    (dequeue : ∀ {s : State} {c : Channel} {f : ChannelRec → ChannelRec}, (s.chan c).state = .QUEUED →
      (chanOk (s.chan c) → chanOk (f (s.chan c))) → (f (s.chan c)).trunk = (s.chan c).trunk → (f (s.chan c)).state ≠ .QUEUED →
      P s → P ((s.updChan c f).leaveQueue c))
    (remove : ∀ {s : State} {c : Channel}, (s.chan c).state ≠ .QUEUED → P s → P (s.removeEntry c))
    (expire : ∀ {s : State} {t : Trunk} {c : Channel}, P s → P (s.updQueue t fun q => expireWait q c)) : Passes P := by
  have hopen : ∀ {s : State} {t : Trunk}, P s → P (s.openSwitches t) := fun h =>
    foldl_inv (fun _ _ hu => driver (fun _ => by simp [pulseOk]) hu) h
  have henter : ∀ {s : State} {t : Trunk} {st : TrunkState}, P s → P (s.enterState t st) := by
    intro s t st h
    cases st with
    | NORMAL => exact reads s _ rfl rfl rfl h
    | WARM => exact reads s _ rfl rfl rfl h
    | SHEDDING => rw [State.enterState_shedding]; exact reads s _ rfl rfl rfl h
    | TRIPPED => rw [State.enterState_tripped]; exact reads (s.openSwitches t) _ (by simp) rfl (by simp) (hopen h)
  exact {
    same := fun s u h => reads s u h.2.2.2.1 h.2.2.2.2.2.1 h.2.2.2.2.1
    port := fun _ => reads _ _ rfl rfl rfl
    line := fun _ => reads _ _ rfl rfl rfl
    config := fun _ _ => reads _ _ rfl rfl rfl
    trunk := fun _ _ _ _ => reads _ _ rfl rfl rfl
    enter := fun _ _ => henter
    derive := fun {s t new} h => by
      have hu : P (s.updTrunk t fun r => { r with profile := some new }) := reads s _ rfl rfl rfl h
      unfold State.derive
      dsimp only
      split
      · exact reads (s.updTrunk t _) _ rfl rfl rfl hu
      · exact henter hu
    charge := reads _ _ (by simp) (by simp) (by simp)
    acct := fun _ _ => reads _ _ rfl rfl rfl
    returned := reads _ _ (by simp) (by simp) (by simp)
    driver := driver
    chan := chan
    leave := leave
    complete := complete
    enqueue := enqueue
    dequeue := dequeue
    remove := remove
    expire := expire
    release := fun _ _ => reads _ _ rfl rfl rfl }

/-! ### Every step -/

/-- Every step passes, as far as the heating of a trunk, the clearing of a trip, the resets and the clock do. -/
theorem Passes.step {P : State → Prop} (K : Passes P) {s u : State} (hx : Machine.step s = .next u) (h : P s)
    (hreset : ∀ v w, P v → (Machine.exec .powerOnReset v = .next w ∨ Machine.exec .nrstReset v = .next w) → P w)
    (hheat : ∀ v t, P v → P (v.heatStep t))
    (hclear : ∀ v t, (v.trunk t).state = some .TRIPPED → P v →
      P (v.updTrunk t fun r => { r with latch := false, state := some .NORMAL }))
    (htick : P s → P s.tick) : P u := by
  have hexec : ∀ (i : Instr) (v : State), P v → Machine.exec i v = .next u → P u := by
    intro i v hv hi
    refine K.exec hi hv ?_ (fun w t _ hw => hheat w t hw) (fun w t _ hs hw => hclear w t hs hw)
    rintro (rfl | rfl)
    · exact hreset v u hv (.inl hi)
    · exact hreset v u hv (.inr hi)
  unfold Machine.step at hx
  split at hx
  · rename_i rest _
    exact hexec _ _ (K.same s { s with pending := rest } ⟨rfl, rfl, rfl, rfl, rfl, rfl, rfl, rfl, rfl⟩ h) hx
  · unfold idle at hx
    split at hx
    · cases hx; exact h
    · split at hx
      · exact hexec _ _ h hx
      · cases hx; exact htick h

/-! ### The trunk records -/

theorem State.enterState_trunk (s : State) (t v : Trunk) (st : TrunkState) :
    (s.enterState t st).trunk v = if v = t then enteredTrunk s t (s.trunk t) st else s.trunk v := by
  rw [State.enterState_eq]
  exact updAt_get _ _ _ _

end Sys2Proof.Machine

/-! The trunk records and the reservation account pass every step (Table 1-1, R4, R13 to R21). -/

namespace Sys2Proof.Machine

open Sys2Proof.Safety

/-! ### What a change of the reservations, the entry into a state and the resets do to a trunk record -/

/-- The trunk records after a reservation is set: the old one leaves the sum it is in, the new one joins. -/
theorem State.charge_trunks (s : State) (c : Channel) (t : Trunk) (mA : Nat) : (s.charge c t mA).trunks =
    updAt (match (s.acct c).charged with
      | none => s.trunks
      | some u => updAt s.trunks u fun r => { r with reserved := r.reserved - (s.acct c).reservation }) t
      fun r => { r with reserved := r.reserved + mA } := by
  unfold State.charge
  dsimp only
  cases hc : (s.acct c).charged with
  | none => rfl
  | some u => exact (apply_ite State.trunks _ _ _).trans (ite_self _)

theorem State.charge_acct (s : State) (c d : Channel) (t : Trunk) (mA : Nat) : (s.charge c t mA).acct d =
    if d = c then { s.acct c with reservation := mA, charged := if mA = 0 then none else some t } else s.acct d := by
  have h : (s.charge c t mA).accounts = (s.updAcct c fun a =>
      { a with reservation := mA, charged := if mA = 0 then none else some t }).accounts := by
    unfold State.charge
    dsimp only
    cases hc : (s.acct c).charged with
    | none => rfl
    | some u => exact (apply_ite State.accounts _ _ _).trans (ite_self _)
  have hd : (s.charge c t mA).acct d = (s.updAcct c fun a =>
      { a with reservation := mA, charged := if mA = 0 then none else some t }).acct d := by
    simp only [State.acct, h]
  rw [hd, State.updAcct_get]

/-- What a channel's account books on a trunk. -/
def booking (a : Account) (t : Trunk) : Nat := if a.charged = some t then a.reservation else 0

/-- A reservation that is set changes nothing of a trunk record but the reserved sum. -/
theorem State.charge_trunk (s : State) (c : Channel) (t v : Trunk) (mA : Nat) : (s.charge c t mA).trunk v =
    { s.trunk v with
      reserved := (s.trunk v).reserved - booking (s.acct c) v + if v = t then mA else 0 } := by
  have h : (s.charge c t mA).trunk v = ((match (s.acct c).charged with
      | none => s
      | some u => s.updTrunk u fun r => { r with reserved := r.reserved - (s.acct c).reservation }).updTrunk t
        fun r => { r with reserved := r.reserved + mA }).trunk v := by
    have hv : (s.charge c t mA).trunk v = (s.charge c t mA).trunks[v] := rfl
    rw [hv, State.charge_trunks]
    cases hc : (s.acct c).charged <;> rfl
  rw [h, State.updTrunk_get]
  cases hc : (s.acct c).charged with
  | none =>
    by_cases hv : v = t
    · subst hv; simp [booking, hc]
    · simp [booking, hc, hv]
  | some w =>
    simp only [State.updTrunk_get, booking, hc, Option.some.injEq, eq_comm (a := w)]
    by_cases hv : v = t
    · subst hv; by_cases hw : v = w <;> simp [hw]
    · by_cases hw : v = w
      · subst hw; simp [hv]
      · simp [hv, hw]

/-- The return of a reservation changes nothing of a trunk record but the reserved sum and the slot. -/
theorem State.returnCharge_trunk (s : State) (c : Channel) (v : Trunk) : (s.returnCharge c).trunk v =
    { s.trunk v with
      reserved := (s.trunk v).reserved - booking (s.acct c) v
      slot := if (s.acct c).charged = some v ∧ (s.trunk v).slot = some c then none else (s.trunk v).slot } := by
  cases hc : (s.acct c).charged with
  | none => simp [State.returnCharge, booking, hc]
  | some w =>
    have h : (s.returnCharge c).trunk v = (s.updTrunk w (returnedFrom s c)).trunk v := by
      rw [State.returnCharge_eq]
      simp only [returned, returnedTrunks, hc]
      rfl
    rw [h, State.updTrunk_get]
    by_cases hw : v = w
    · simp [booking, hc, hw, returnedFrom]
    · simp [booking, hc, hw, eq_comm (a := w)]

@[simp] theorem enteredTrunk_heat (s : State) (t : Trunk) (r : TrunkRec) (st : TrunkState) :
    (enteredTrunk s t r st).heat = r.heat := by cases st <;> rfl
@[simp] theorem enteredTrunk_reserved (s : State) (t : Trunk) (r : TrunkRec) (st : TrunkState) :
    (enteredTrunk s t r st).reserved = r.reserved := by cases st <;> rfl
@[simp] theorem enteredTrunk_state (s : State) (t : Trunk) (r : TrunkRec) (st : TrunkState) :
    (enteredTrunk s t r st).state = some st := by cases st <;> rfl
@[simp] theorem enteredTrunk_profile (s : State) (t : Trunk) (r : TrunkRec) (st : TrunkState) :
    (enteredTrunk s t r st).profile = r.profile := by cases st <;> rfl
theorem enteredTrunk_latch (s : State) (t : Trunk) (r : TrunkRec) (st : TrunkState) :
    (enteredTrunk s t r st).latch = (r.latch || decide (st = .TRIPPED)) := by cases st <;> simp [enteredTrunk]

/-- A configured trunk record is in order after its entry into a state, which is TRIPPED when the latch is set. -/
theorem trunkOk_entered (s : State) (t : Trunk) {r : TrunkRec} {st : TrunkState} (hp : r.profile.isSome = true)
    (hh : r.heat ≤ Config.ceiling) (hl : r.latch = true → st = .TRIPPED) : trunkOk (enteredTrunk s t r st) := by
  refine ⟨by simpa, by simp [hp], fun _ => ?_, ?_, ?_⟩
  · rw [enteredTrunk_latch, enteredTrunk_state]
    simpa using hl
  · cases st <;> simp [enteredTrunk]
  · cases st <;> simp [enteredTrunk]

/-- The state that a profile claim derives is TRIPPED when the latch is set. -/
theorem derivedState_latched (h : Nat) : derivedState true h = .TRIPPED := rfl

/-- The derivation of a trunk's state either keeps it, with the latch that goes with it, or enters another. -/
theorem State.derive_cases (s : State) (t : Trunk) :
    (s.trunk t).state = some (derivedState (s.trunk t).latch (s.trunk t).heat)
      ∧ s.derive t = s.updTrunk t (fun r =>
        { r with latch := decide (derivedState (s.trunk t).latch (s.trunk t).heat = .TRIPPED) })
    ∨ s.derive t = s.enterState t (derivedState (s.trunk t).latch (s.trunk t).heat) := by
  unfold State.derive
  dsimp only
  split
  case isTrue h => exact .inl ⟨h, rfl⟩
  case isFalse => exact .inr rfl

end Sys2Proof.Machine

namespace Sys2Proof.Safety

open Sys2Proof.Machine

/-! ### The trunk records -/

/-- A change that touches neither a field of `trunkOk` leaves a trunk record in order. -/
theorem trunkOk_congr {r q : TrunkRec} (hh : q.heat = r.heat) (hs : q.state = r.state) (hp : q.profile = r.profile)
    (hl : q.latch = r.latch) (hd : q.lastShed = r.lastShed) (ht : q.shedTimer = r.shedTimer) (h : trunkOk r) : trunkOk q := by
  simpa only [trunkOk, hh, hs, hp, hl, hd, ht] using h

/-- The trunk records stay in order when one record is changed to one in order. -/
theorem TrunksOk.updTrunk {s : State} {t : Trunk} {f : TrunkRec → TrunkRec} (h : TrunksOk s) (hf : trunkOk (f (s.trunk t))) :
    TrunksOk (s.updTrunk t f) := by
  intro v
  rw [State.updTrunk_get]
  split
  · exact hf
  · exact h v

/-- The trunk records stay in order at the entry of a configured trunk into a state. -/
theorem TrunksOk.enter {s : State} {t : Trunk} {st : TrunkState} (h : ∀ v, v ≠ t → trunkOk (s.trunk v))
    (hp : (s.trunk t).profile.isSome = true) (hh : (s.trunk t).heat ≤ Config.ceiling)
    (hl : (s.trunk t).latch = true → st = .TRIPPED) : TrunksOk (s.enterState t st) := by
  intro v
  rw [State.enterState_trunk]
  split
  · exact trunkOk_entered s t hp hh hl
  · exact h v ‹_›

/-- The trunk records stay in order when a profile claim derives the state. -/
theorem TrunksOk.derive {s : State} {t : Trunk} {new : TrunkProfile} (h : TrunksOk s) :
    TrunksOk ((s.updTrunk t fun r => { r with profile := some new }).derive t) := by
  obtain ⟨hheat, hst, hlatch, hlast, htimer⟩ := h t
  rcases State.derive_cases (s.updTrunk t fun r => { r with profile := some new }) t with ⟨hkept, heq⟩ | heq <;> rw [heq]
  · rw [State.updTrunk_updTrunk]
    simp only [State.updTrunk_self] at hkept ⊢
    exact h.updTrunk ⟨hheat, by rw [hkept]; rfl, fun _ => by simp [hkept], hlast, htimer⟩
  · refine TrunksOk.enter (fun v hv => by rw [State.updTrunk_ne _ _ _ _ hv]; exact h v) (by simp) (by simpa using hheat) ?_
    intro hl
    rw [hl]
    rfl

/-- The trunk records pass the commands. -/
theorem TrunksOk.passes : Passes TrunksOk := by
  have reads : ∀ {s u : State}, u.trunks = s.trunks → u.accounts = s.accounts → TrunksOk s → TrunksOk u := by
    intro s u ht _ h v
    have hv : u.trunk v = s.trunk v := by simp [State.trunk, ht]
    rw [hv]
    exact h v
  have hsame : ∀ {s u : State}, (∀ v, ∃ n x, u.trunk v = { s.trunk v with reserved := n, slot := x }) → TrunksOk s → TrunksOk u := by
    intro s u hu h v
    obtain ⟨n, x, hv⟩ := hu v
    rw [hv]
    exact h v
  exact Passes.ofBudget reads (fun hf _ _ _ h => h.updTrunk (hf (h _)))
    (fun hp hl h => TrunksOk.enter (fun v _ => h v) hp (h _).1 (hl (h _)))
    TrunksOk.derive
    (fun {s c t mA} h => hsame (fun v => ⟨_, _, s.charge_trunk c t v mA⟩) h)
    (fun _ _ h => h) (fun {s c} h => hsame (fun v => ⟨_, _, s.returnCharge_trunk c v⟩) h)

/-- A reset trunk record is in order, and so is one that NRST leaves. -/
theorem trunkOk_reset : trunkOk TrunkRec.reset :=
  ⟨by decide, rfl, by decide, by decide, by decide⟩

theorem trunkOk_nrst {r : TrunkRec} (h : trunkOk r) : trunkOk r.nrst :=
  ⟨h.1, rfl, by simp [TrunkRec.nrst, TrunkRec.reset], by simp [TrunkRec.nrst, TrunkRec.reset], by simp [TrunkRec.nrst, TrunkRec.reset]⟩

/-- The trunk records stay in order in every step. -/
theorem TrunksOk.step {s u : State} (hx : Machine.step s = .next u) (h : TrunksOk s) : TrunksOk u := by
  refine TrunksOk.passes.step hx h ?reset ?heat ?clear ?tick
  case reset =>
    rintro v w hv (hw | hw) <;> cases hw <;> intro t
    · simpa [State.trunk, State.resetWith] using trunkOk_reset
    · simpa [State.trunk, State.resetWith] using trunkOk_nrst (hv t)
  case heat =>
    intro v t hv
    obtain ⟨hheat, hrest⟩ := hv t
    exact hv.updTrunk ⟨TrunkRec.nextHeat_le_ceiling _ hheat, hrest⟩
  case clear =>
    intro v t hst hv
    obtain ⟨hheat, hs, -, hlast, htimer⟩ := hv t
    rw [hst] at hs hlast htimer
    exact hv.updTrunk ⟨hheat, hs, by simp, by simpa using hlast, by simpa using htimer⟩
  case tick =>
    intro h t
    have ht : s.tick.trunk t = (s.trunk t).tick := by simp [State.trunk, State.tick]
    obtain ⟨hheat, hs, hlatch, hlast, htimer⟩ := h t
    rw [ht]
    exact ⟨hheat, hs, hlatch, hlast, by simpa [TrunkRec.tick, countDown] using htimer⟩

/-! ### The reservation account -/

theorem booked_eq_sum (s : State) (t : Trunk) : booked s t = ∑ c, booking (s.acct c) t := by
  rw [Fin.sum_univ_def]
  rfl

/-- What is booked on a trunk changes by what the one changed account books on it. -/
theorem booked_change {s u : State} {c : Channel} (t : Trunk) (h : ∀ d, d ≠ c → u.acct d = s.acct d) :
    booked u t + booking (s.acct c) t = booked s t + booking (u.acct c) t := by
  have hrest : ∑ d ∈ Finset.univ.erase c, booking (u.acct d) t = ∑ d ∈ Finset.univ.erase c, booking (s.acct d) t :=
    Finset.sum_congr rfl fun d hd => by rw [h d (Finset.ne_of_mem_erase hd)]
  rw [booked_eq_sum, booked_eq_sum, ← Finset.add_sum_erase _ _ (Finset.mem_univ c),
    ← Finset.add_sum_erase _ (fun d => booking (s.acct d) t) (Finset.mem_univ c), hrest]
  omega

/-- The account stands when neither a reserved sum nor a reservation has changed. -/
theorem AccountsOk.congr {s u : State} (h : AccountsOk s) (ht : ∀ t, (u.trunk t).reserved = (s.trunk t).reserved)
    (ha : ∀ c, (u.acct c).reservation = (s.acct c).reservation ∧ (u.acct c).charged = (s.acct c).charged) : AccountsOk u := by
  refine ⟨fun t => ?_, fun c => ?_⟩
  · rw [ht, h.1]
    simp only [booked, (ha _).1, (ha _).2]
  · rw [(ha c).1, (ha c).2]
    exact h.2 c

/-- The account stands when one reservation changes, and every reserved sum by what it books. -/
theorem AccountsOk.change {s u : State} {c : Channel} (h : AccountsOk s) (ha : ∀ d, d ≠ c → u.acct d = s.acct d)
    (hc : (u.acct c).charged = none ↔ (u.acct c).reservation = 0)
    (ht : ∀ t, (u.trunk t).reserved = (s.trunk t).reserved - booking (s.acct c) t + booking (u.acct c) t) : AccountsOk u := by
  refine ⟨fun t => ?_, fun d => ?_⟩
  · have hle : booking (s.acct c) t ≤ booked s t := by
      rw [booked_eq_sum]
      exact Finset.single_le_sum (f := fun d => booking (s.acct d) t) (fun _ _ => Nat.zero_le _) (Finset.mem_univ c)
    have hb := booked_change t ha
    rw [ht, h.1]
    omega
  · by_cases hd : d = c
    · rw [hd]
      exact hc
    · rw [ha d hd]
      exact h.2 d

/-- The account stands when a reservation is set (R15, R17). -/
theorem AccountsOk.charge {s : State} {c : Channel} {t : Trunk} {mA : Nat} (h : AccountsOk s) : AccountsOk (s.charge c t mA) := by
  have hself : (s.charge c t mA).acct c = { s.acct c with reservation := mA, charged := if mA = 0 then none else some t } := by
    rw [State.charge_acct, if_pos rfl]
  refine h.change (fun d hd => by rw [State.charge_acct, if_neg hd]) (by rw [hself]; simp) fun v => ?_
  have hnew : booking { s.acct c with reservation := mA, charged := if mA = 0 then none else some t } v
      = if v = t then mA else 0 := by
    unfold booking
    by_cases hm : mA = 0
    · simp [hm]
    · simp [hm, eq_comm]
  rw [hself, hnew, State.charge_trunk]

/-- The account stands when a reservation is returned (R15). -/
theorem AccountsOk.returned {s : State} {c : Channel} (h : AccountsOk s) : AccountsOk (s.returnCharge c) := by
  cases hc : (s.acct c).charged with
  | none =>
    have hsame : s.returnCharge c = s := by simp [State.returnCharge, hc]
    rwa [hsame]
  | some w =>
    have hacct : ∀ d, (s.returnCharge c).acct d = if d = c then Account.reset else s.acct d := by
      intro d
      rw [State.returnCharge_eq]
      have hupd : (Safety.returned s c).acct d = (s.updAcct c fun _ => Account.reset).acct d := by
        simp only [Safety.returned, returnedAccounts, hc]
        rfl
      rw [hupd, State.updAcct_get]
    have hself : (s.returnCharge c).acct c = Account.reset := by rw [hacct, if_pos rfl]
    refine h.change (c := c) (fun d hd => by rw [hacct, if_neg hd]) (by rw [hself]; decide) fun t => ?_
    rw [hself, State.returnCharge_trunk]
    simp [booking, Account.reset]

/-- The account passes the commands. -/
theorem AccountsOk.passes : Passes AccountsOk := by
  have reads : ∀ {s u : State}, u.trunks = s.trunks → u.accounts = s.accounts → AccountsOk s → AccountsOk u :=
    fun ht ha h => h.congr (fun t => by simp [State.trunk, ht]) fun c => by simp [State.acct, ha]
  have hupd : ∀ {s : State} {t : Trunk} {f : TrunkRec → TrunkRec}, (f (s.trunk t)).reserved = (s.trunk t).reserved →
      AccountsOk s → AccountsOk (s.updTrunk t f) := by
    intro s t f hf h
    refine h.congr (fun v => ?_) fun c => ⟨rfl, rfl⟩
    rw [State.updTrunk_get]
    split
    · rename_i hv; rw [hf, hv]
    · rfl
  have henter : ∀ {s : State} {t : Trunk} {st : TrunkState}, AccountsOk s → AccountsOk (s.enterState t st) := by
    intro s t st h
    refine h.congr (fun v => ?_) fun c => by simp [State.acct]
    rw [State.enterState_trunk]
    split
    · rename_i hv; rw [enteredTrunk_reserved, hv]
    · rfl
  refine Passes.ofBudget reads (fun _ hf _ _ h => hupd hf h) (fun _ _ h => henter h) ?derive AccountsOk.charge ?acct
    AccountsOk.returned
  case derive =>
    intro s t new h
    have hu : AccountsOk (s.updTrunk t fun r => { r with profile := some new }) := hupd rfl h
    rcases State.derive_cases (s.updTrunk t fun r => { r with profile := some new }) t with ⟨-, heq⟩ | heq <;> rw [heq]
    · exact hupd rfl hu
    · exact henter hu
  case acct =>
    intro s c f hr hc h
    refine h.congr (fun _ => rfl) fun d => ?_
    rw [State.updAcct_get]
    split
    · rename_i hd; rw [hd]; exact ⟨hr, hc⟩
    · exact ⟨rfl, rfl⟩

/-- An account with nothing reserved and no reserved sum stands. -/
theorem AccountsOk.empty {s : State} (ht : ∀ t, (s.trunk t).reserved = 0) (ha : ∀ c, s.acct c = Account.reset) : AccountsOk s := by
  refine ⟨fun t => ?_, fun c => by rw [ha c]; decide⟩
  rw [ht, booked_eq_sum]
  exact (Finset.sum_eq_zero fun c _ => by rw [ha c]; rfl).symm

/-- The account stands in every step. -/
theorem AccountsOk.step {s u : State} (hx : Machine.step s = .next u) (h : AccountsOk s) : AccountsOk u := by
  refine AccountsOk.passes.step hx h ?reset ?heat ?clear ?tick
  case reset =>
    rintro v w - (hw | hw) <;> cases hw <;>
      exact AccountsOk.empty (fun t => by simp [State.trunk, State.resetWith, TrunkRec.nrst, TrunkRec.reset])
        fun c => by simp [State.acct, State.resetWith, State.reset]
  case heat =>
    intro v t hv
    exact hv.congr (fun k => by simp only [State.heatStep, State.updTrunk_get]; split <;> simp_all) fun c => ⟨rfl, rfl⟩
  case clear =>
    intro v t _ hv
    exact hv.congr (fun k => by rw [State.updTrunk_get]; split <;> simp_all) fun c => ⟨rfl, rfl⟩
  case tick =>
    exact fun h => h.congr (fun t => by simp [State.trunk, State.tick, TrunkRec.tick]) fun c => ⟨rfl, rfl⟩

end Sys2Proof.Safety

/-! The port records, the proposal slot and the line records pass every step (Tables 7-1, 9-1, R119, R137, R138, R159, R169). -/

namespace Sys2Proof.Safety

open Sys2Proof.Machine

/-! ### The port records -/

/-- The port records pass the commands. -/
theorem PortsOk.passes : Passes PortsOk := by
  have reads : ∀ {s u : State}, u.ports = s.ports → u.config = s.config → u.lines = s.lines → u.inReset = s.inReset →
      PortsOk s → PortsOk u := by
    intro s u hp _ _ _ h p
    have hu : u.port p = s.port p := by simp [State.port, hp]
    rw [hu]
    exact h p
  refine Passes.ofSession reads ?port (fun _ h => h) (fun _ _ h => h) ?release
  case port =>
    intro s p f hf h q
    rw [State.updPort_get]
    split
    · exact hf (h p)
    · exact h q
  case release =>
    intro s selected _ h p
    simpa [State.port, portOk] using h p

/-- The port records stay in order in every step. -/
theorem PortsOk.step {s u : State} (hx : Machine.step s = .next u) (h : PortsOk s) : PortsOk u := by
  refine PortsOk.passes.step hx h ?reset (fun v t hv => hv) (fun v t _ hv => hv) ?tick
  case reset =>
    rintro v w - (hw | hw) <;> cases hw <;> intro p <;>
      simp [State.port, State.resetWith, State.reset, portOk, PortRec.reset]
  case tick =>
    intro h p
    have hp : s.tick.port p = { s.port p with timer := countDown (s.port p).timer } := by simp [State.port, State.tick]
    rw [hp]
    obtain ⟨hlen, hlost, hdown, htimer, hperiod⟩ := h p
    exact ⟨hlen, hlost, hdown, by simpa [countDown] using htimer, hperiod⟩

/-! ### The proposal slot -/

/-- The proposal slot passes the commands. -/
theorem SlotOk.passes : Passes SlotOk := by
  have reads : ∀ {s u : State}, u.ports = s.ports → u.config = s.config → u.lines = s.lines → u.inReset = s.inReset →
      SlotOk s → SlotOk u := by
    intro s u _ hg _ _ h
    simpa only [SlotOk, hg] using h
  exact Passes.ofSession reads (fun _ h => h) (fun _ h => h) (fun hf _ h => hf h) (fun _ _ h => h)

/-- The proposal slot stays in order in every step. -/
theorem SlotOk.step {s u : State} (hx : Machine.step s = .next u) (h : SlotOk s) : SlotOk u := by
  refine SlotOk.passes.step hx h ?reset (fun v t hv => hv) (fun v t _ hv => hv) ?tick
  case reset =>
    rintro v w - (hw | hw) <;> cases hw <;> simp [SlotOk, State.resetWith, State.reset, ConfigRec.reset]
  case tick =>
    rintro ⟨hn, hslot⟩
    refine ⟨hn, fun x hx => ?_⟩
    obtain ⟨y, hy, rfl⟩ := Option.map_eq_some_iff.1 (show s.config.slot.map Proposal.tick = some x from hx)
    unfold Proposal.tick
    split <;> exact hslot y hy

/-! ### The line records -/

/-- The line records pass the commands. -/
theorem LinesOk.passes : Passes LinesOk := by
  have reads : ∀ {s u : State}, u.ports = s.ports → u.config = s.config → u.lines = s.lines → u.inReset = s.inReset →
      LinesOk s → LinesOk u := by
    intro s u _ _ hl h0 h l
    have hu : u.line l = s.line l := by simp [State.line, hl]
    rw [hu, h0]
    exact h l
  refine Passes.ofSession reads (fun _ h => h) ?line (fun _ _ h => h) ?release
  case line =>
    intro s l f hf h k
    rw [State.updLine_get]
    split
    · exact hf (h l)
    · exact h k
  case release =>
    intro s selected h0 h l
    obtain ⟨⟨hb, -⟩, hlevel⟩ := h l
    have hnone : s.lines[l].level = none := hlevel h0
    refine ⟨?_, by simp⟩
    have hl : ∀ v : State, v.lines = s.lines.map (fun r => { r with debounce := some Config.debounce }) →
        v.line l = { s.line l with debounce := some Config.debounce } := by
      intro v hv
      simp [State.line, hv]
    rw [hl _ rfl]
    exact ⟨hb, fun _ => by simp [State.line] at hnone ⊢; simp [hnone]⟩

/-- The line records stay in order in every step. -/
theorem LinesOk.step {s u : State} (hx : Machine.step s = .next u) (h : LinesOk s) : LinesOk u := by
  refine LinesOk.passes.step hx h ?reset (fun v t hv => hv) (fun v t _ hv => hv) ?tick
  case reset =>
    rintro v w - (hw | hw) <;> cases hw <;> intro l <;>
      simp [State.line, State.resetWith, lineOk, LineRec.reset]
  case tick =>
    intro h l
    have hl : s.tick.line l = { s.line l with debounce := countDown (s.line l).debounce } := by simp [State.line, State.tick]
    rw [hl]
    obtain ⟨⟨hb, hdeb⟩, hlevel⟩ := h l
    exact ⟨⟨hb, by simpa [countDown] using hdeb⟩, hlevel⟩

end Sys2Proof.Safety

namespace Sys2Proof.Machine

open Sys2Proof.Safety

/-- Settles O58: each invariant passes every change that commands make. -/
theorem stepKeepsTrunksAndPorts : Obligations.StepKeepsTrunksAndPorts :=
  fun _ _ hx => ⟨TrunksOk.step hx, AccountsOk.step hx, PortsOk.step hx, SlotOk.step hx⟩

end Sys2Proof.Machine

/-! The channel records and the admission queues pass every step (Tables 2-1, 6-2, R26, R43, R52, R54, R62). -/

namespace Sys2Proof.Safety

open Sys2Proof.Machine

/-! ### The channel records -/

/-- The records of a channel and of its driver are in order. -/
def channelOk (r : ChannelRec) (d : Driver) : Prop := chanOk r ∧ pulseOk d r.state

/-- The channel records stay in order when one channel's records are changed to such in order. -/
theorem ChannelsOk.change {s u : State} (c : Channel) (h : ChannelsOk s)
    (hd : ∀ d, d ≠ c → u.chan d = s.chan d ∧ u.driver d = s.driver d) (hc : channelOk (u.chan c) (u.driver c)) : ChannelsOk u := by
  intro d
  by_cases hdc : d = c
  · rw [hdc]
    exact hc
  · rw [(hd d hdc).1, (hd d hdc).2]
    exact h d

/-- A channel that does not pulse has no pulse in progress, whatever its state becomes. -/
theorem pulseOk_of_not_pulsing {d : Driver} {x y : ChanState} (h : pulseOk d x) (hx : isPulsing x = false) : pulseOk d y := by
  intro hp
  rw [(h hp).1] at hx
  cases hx

/-- A channel that joins the queue from IDLE or SHED. -/
theorem chanOk_queued {r : ChannelRec} (h : chanOk r) (hst : r.state = .IDLE ∨ r.state = .SHED) :
    chanOk { r with state := .QUEUED, shedCause := none } := by
  obtain ⟨hlease, hintent, hstamp, hfault, hshed, hstable, hcount, hlock, hfree⟩ := h
  rcases hst with hs | hs <;> rw [hs] at hlease hintent hstamp hfault hstable hfree <;>
    exact ⟨by simpa using hlease, by simpa using hintent, by simpa [isDriven] using hstamp, by simpa using hfault, by simp,
      fun hx => absurd (hstable hx) (by simp), hcount, hlock, fun hx => absurd (hfree hx) (by simp)⟩

/-- A channel that comes from FILL to ON. -/
theorem chanOk_completed {r : ChannelRec} (h : chanOk r) (hs : r.state = .FILL) :
    chanOk { r with state := .ON, onStable := some Config.onStable } := by
  obtain ⟨hlease, hintent, hstamp, hfault, hshed, -, hcount, hlock, hfree⟩ := h
  rw [hs] at hlease hintent hstamp hfault hshed hfree
  exact ⟨by simpa using hlease, by simpa using hintent, by simpa [isDriven] using hstamp, by simpa using hfault, by simpa using hshed,
    fun _ => rfl, hcount, hlock, fun hx => absurd (hfree hx) (by simp)⟩

/-- What a queue entry claim does to the records of the channels: nothing, or the channel is QUEUED. -/
theorem State.takeQueueEntry_cases (s : State) (c : Channel) (found : Found) :
    (∃ m, s.takeQueueEntry c found = s.send m)
    ∨ ∃ t e m, ((s.chan c).state = .IDLE ∨ (s.chan c).state = .SHED) ∧ (s.chan c).trunk = some t ∧ e.channel = c
      ∧ s.takeQueueEntry c found = (((s.updChan c fun r => { r with state := .QUEUED, shedCause := none }).updQueue t
          fun q => joinQueue q e).setArrivals (s.arrivals + 1)).send m := by
  unfold State.takeQueueEntry
  split
  case h_1 t l ht hl =>
    split
    case isTrue hf => exact .inr ⟨t, _, _, by rw [hf.1]; exact Passes.foundState_cases hf.2, ht, rfl, rfl⟩
    case isFalse => exact .inl ⟨_, rfl⟩
  case h_2 => exact .inl ⟨_, rfl⟩

/-- The channel records pass the commands. -/
theorem ChannelsOk.passes : Passes ChannelsOk := by
  have reads : ∀ (s u : State), u.channels = s.channels → u.drivers = s.drivers → u.queues = s.queues → ChannelsOk s →
      ChannelsOk u := by
    intro s u hc hd _ h c
    have hu : u.chan c = s.chan c ∧ u.driver c = s.driver c := by simp [State.chan, State.driver, hc, hd]
    rw [hu.1, hu.2]
    exact h c
  refine Passes.ofChannels reads ?driver ?chan ?leave ?complete ?enqueue ?dequeue ?remove (fun h => h)
  case driver =>
    intro s c f hf h
    exact h.change c (fun d hd => ⟨rfl, State.updDriver_ne _ _ _ _ hd⟩) ⟨(h c).1, by simpa using hf (h c).2⟩
  case chan =>
    intro s c f hf _ _ hp h
    refine h.change c (fun d hd => ⟨State.updChan_ne _ _ _ _ hd, rfl⟩) ⟨by simpa using hf (h c).1, ?_⟩
    intro hpulse
    obtain ⟨hpulsing, hshort⟩ := (h c).2 hpulse
    exact ⟨by simpa using hp hpulsing, hshort⟩
  case leave =>
    intro s c new abort hnew _ _ h
    refine h.change c (fun d hd => ⟨?_, ?_⟩) ⟨?_, ?_⟩
    · exact State.updChan_ne s c (fun _ => new) d hd
    · exact State.updDriver_ne s c _ d hd
    · have hc : (goneTo s c new abort).chan c = new := State.updChan_self s c fun _ => new
      rw [hc]
      exact hnew (h c).1
    · have hd : (goneTo s c new abort).driver c = { s.driver c with pulse := none } := State.updDriver_self s c _
      rw [hd]
      simp [pulseOk]
  case complete =>
    intro s c hs h
    refine h.change c (fun d hd => ⟨?_, ?_⟩) ⟨?_, ?_⟩
    · exact State.updChan_ne s c _ d hd
    · exact State.updDriver_ne _ c _ d hd
    · simpa [State.endPulse] using chanOk_completed (h c).1 hs
    · simp [State.endPulse, pulseOk]
  case enqueue =>
    intro s c found h
    rcases State.takeQueueEntry_cases s c found with ⟨m, heq⟩ | ⟨t, e, m, hst, -, -, heq⟩ <;> rw [heq]
    · exact h
    · refine h.change c (fun d hd => ⟨?_, rfl⟩) ⟨?_, ?_⟩
      · exact State.updChan_ne s c _ d hd
      · simpa using chanOk_queued (h c).1 hst
      · exact pulseOk_of_not_pulsing (h c).2 (by rcases hst with hs | hs <;> rw [hs] <;> rfl)
  case dequeue =>
    intro s c f hs hf _ _ h
    rw [State.leaveQueue_eq]
    refine h.change c (fun d hd => ⟨?_, rfl⟩) ⟨?_, ?_⟩
    · exact State.updChan_ne s c _ d hd
    · exact (State.updChan_self s c f) ▸ hf (h c).1
    · exact pulseOk_of_not_pulsing (h c).2 (by rw [hs]; rfl)
  case remove =>
    intro s c _ h
    intro d
    have hd : (s.removeEntry c).chan d = s.chan d ∧ (s.removeEntry c).driver d = s.driver d := by simp [State.chan, State.driver]
    rw [hd.1, hd.2]
    exact h d

/-- The channel records stay in order in every step. -/
theorem ChannelsOk.step {s u : State} (hx : Machine.step s = .next u) (h : ChannelsOk s) : ChannelsOk u := by
  refine ChannelsOk.passes.step hx h ?reset (fun v t hv => hv) (fun v t _ hv => hv) ?tick
  case reset =>
    rintro v w - (hw | hw) <;> cases hw <;> intro c <;>
      simp [State.chan, State.driver, State.resetWith, State.reset, chanOk, ChannelRec.reset, isDriven, Config.lockoutFaults]
  case tick =>
    intro h c
    have hc : s.tick.chan c = { s.chan c with onStable := countDown (s.chan c).onStable } := by simp [State.chan, State.tick]
    have hd : s.tick.driver c = { s.driver c with pulse := countDown (s.driver c).pulse } := by simp [State.driver, State.tick]
    rw [hc, hd]
    obtain ⟨⟨hlease, hintent, hstamp, hfault, hshed, hstable, hrest⟩, hp⟩ := h c
    exact ⟨⟨hlease, hintent, hstamp, hfault, hshed, by simpa [countDown] using hstable, hrest⟩, by simpa [countDown] using hp⟩

/-! ### The admission queues -/

/-- A queue in order of priority stays so when an entry joins it. -/
theorem joinQueue_pairwise {q : List Entry} (e : Entry) (h : q.Pairwise fun a b => b.priority ≤ a.priority) :
    (joinQueue q e).Pairwise fun a b => b.priority ≤ a.priority := by
  rw [joinQueue_sorted q e h, List.pairwise_append, List.pairwise_cons]
  refine ⟨h.filter _, ⟨fun x hx => ?_, h.filter _⟩, fun x hx y hy => ?_⟩
  · have := (List.mem_filter.1 hx).2
    simp at this
    omega
  · have hx' := (List.mem_filter.1 hx).2
    simp at hx'
    rcases List.mem_cons.1 hy with rfl | hy
    · exact hx'
    · have hy' := (List.mem_filter.1 hy).2
      simp at hy'
      omega

/-- The entries of a queue that an entry has joined are its own and that one. -/
theorem joinQueue_perm (q : List Entry) (e : Entry) : (joinQueue q e).Perm (e :: q) := by
  unfold joinQueue
  refine List.perm_middle.trans ?_
  rw [List.takeWhile_append_dropWhile]

/-- The channels of a queue without those of one channel. -/
theorem mem_channels_without {q : List Entry} {c d : Channel} :
    d ∈ (q.filter fun e => decide (e.channel ≠ c)).map (·.channel) ↔ d ≠ c ∧ d ∈ q.map (·.channel) := by
  simp only [List.mem_map, List.mem_filter, decide_eq_true_eq]
  constructor
  · rintro ⟨e, ⟨he, hc⟩, rfl⟩
    exact ⟨hc, e, he, rfl⟩
  · rintro ⟨hc, e, he, rfl⟩
    exact ⟨e, ⟨he, hc⟩, rfl⟩

/-- A queue in which a channel does not stand is as it was without it. -/
theorem filter_absent {q : List Entry} {c : Channel} (h : c ∉ q.map (·.channel)) :
    (q.filter fun e => decide (e.channel ≠ c)) = q := by
  refine List.filter_eq_self.2 fun e he => ?_
  rw [decide_eq_true_eq]
  rintro rfl
  exact h (List.mem_map_of_mem he)

/-- The queues stay in order while the entries keep channel and priority, and the QUEUED channels are the same. -/
theorem QueuesOk.congr {s u : State} (h : QueuesOk s)
    (hq : ∀ t, (u.queue t).map (fun e => (e.channel, e.priority)) = (s.queue t).map fun e => (e.channel, e.priority))
    (hc : ∀ c t, ((u.chan c).state = .QUEUED ∧ (u.chan c).trunk = some t) ↔ ((s.chan c).state = .QUEUED ∧ (s.chan c).trunk = some t)) :
    QueuesOk u := by
  intro t
  obtain ⟨hord, hnodup, hmem⟩ := h t
  have hchan : (u.queue t).map (·.channel) = (s.queue t).map (·.channel) := by
    simpa [Function.comp_def] using congrArg (List.map Prod.fst) (hq t)
  have hprio : (u.queue t).map (·.priority) = (s.queue t).map (·.priority) := by
    simpa [Function.comp_def] using congrArg (List.map Prod.snd) (hq t)
  refine ⟨?_, hchan ▸ hnodup, fun c => by rw [hchan, hmem c, hc c t]⟩
  have hp : ((s.queue t).map (·.priority)).Pairwise fun a b => b ≤ a := List.pairwise_map.2 hord
  rw [← hprio] at hp
  exact List.pairwise_map.1 hp

/-- The queues stay in order when one channel leaves them. -/
theorem QueuesOk.without {s u : State} (c : Channel) (h : QueuesOk s)
    (hq : ∀ t, u.queue t = (s.queue t).filter fun e => decide (e.channel ≠ c)) (hd : ∀ d, d ≠ c → u.chan d = s.chan d)
    (hc : (u.chan c).state ≠ .QUEUED) : QueuesOk u := by
  intro t
  obtain ⟨hord, hnodup, hmem⟩ := h t
  rw [hq t]
  refine ⟨hord.filter _, hnodup.sublist (List.Sublist.map _ List.filter_sublist), fun d => ?_⟩
  rw [mem_channels_without, hmem d]
  by_cases hdc : d = c
  · subst hdc; simp [hc]
  · simp [hdc, hd d hdc]

/-- A channel stands in no queue but that of its trunk, and there only while it is QUEUED. -/
theorem QueuesOk.absent {s : State} {c : Channel} {t : Trunk} (h : QueuesOk s)
    (hc : (s.chan c).state ≠ .QUEUED ∨ (s.chan c).trunk ≠ some t) : c ∉ (s.queue t).map (·.channel) := by
  rw [(h t).2.2 c]
  rintro ⟨hs, ht⟩
  exact hc.elim (· hs) (· ht)

/-- The queues without a channel's entry, for queues in order. -/
theorem QueuesOk.queuesWithout {s : State} (h : QueuesOk s) (c : Channel) (t : Trunk) :
    (Safety.queuesWithout s c)[t] = (s.queue t).filter fun e => decide (e.channel ≠ c) := by
  unfold Safety.queuesWithout
  split
  case h_1 v hv =>
    by_cases htv : t = v
    · subst htv
      exact updAt_self _ _ _
    · rw [updAt_ne _ _ _ _ htv, filter_absent (h.absent (.inr (by rw [hv]; simpa [eq_comm] using htv)))]
      rfl
  case h_2 hv =>
    rw [filter_absent (h.absent (.inr (by rw [hv]; simp)))]
    rfl

/-- The queues stay in order when a QUEUED channel leaves its state and the queue. -/
theorem QueuesOk.dequeue {s : State} {c : Channel} {f : ChannelRec → ChannelRec} (h : QueuesOk s)
    (ht : (f (s.chan c)).trunk = (s.chan c).trunk) (hq : (f (s.chan c)).state ≠ .QUEUED) :
    QueuesOk ((s.updChan c f).leaveQueue c) := by
  rw [State.leaveQueue_eq]
  refine h.without c (fun t => ?_) (fun d hd => State.updChan_ne s c f d hd) ((State.updChan_self s c f) ▸ hq)
  have hsame : Safety.queuesWithout (s.updChan c f) c = Safety.queuesWithout s c := by
    unfold Safety.queuesWithout
    rw [State.updChan_self, ht]
    rfl
  exact (congrArg (fun v : Vector (List Entry) 3 => v[t]) hsame).trans (h.queuesWithout c t)

/-- The queues stay in order when a channel joins its trunk's. -/
theorem QueuesOk.enqueue {s : State} {c : Channel} {found : Found} (h : QueuesOk s) : QueuesOk (s.takeQueueEntry c found) := by
  rcases State.takeQueueEntry_cases s c found with ⟨m, heq⟩ | ⟨t, e, m, hst, ht, he, heq⟩ <;> rw [heq]
  · exact h
  · have hnot : (s.chan c).state ≠ .QUEUED := by rcases hst with hs | hs <;> rw [hs] <;> simp
    intro v
    obtain ⟨hord, hnodup, hmem⟩ := h v
    have hchan : ∀ d, ((s.updChan c fun r => { r with state := .QUEUED, shedCause := none }).chan d).state = .QUEUED
        ∧ ((s.updChan c fun r => { r with state := .QUEUED, shedCause := none }).chan d).trunk = some v
        ↔ (d = c ∧ v = t) ∨ d ∈ (s.queue v).map (·.channel) := by
      intro d
      rw [hmem d, State.updChan_get]
      by_cases hdc : d = c
      · subst hdc; simp [hnot, ht, eq_comm]
      · simp [hdc]
    by_cases hv : v = t
    · subst hv
      have hperm := (joinQueue_perm (s.queue v) e).map (·.channel)
      have hqueue : ∀ w : State, w.queues = updAt s.queues v (fun q => joinQueue q e) → w.queue v = joinQueue (s.queue v) e := by
        intro w hw
        simp only [State.queue, hw]
        exact updAt_self _ _ _
      rw [hqueue _ rfl]
      refine ⟨joinQueue_pairwise e hord, hperm.nodup_iff.2 ?_, fun d => ?_⟩
      · rw [List.map_cons, List.nodup_cons, he]
        exact ⟨h.absent (.inl hnot), hnodup⟩
      · rw [hperm.mem_iff, List.map_cons, List.mem_cons, he]
        simpa using (hchan d).symm
    · have hqueue : ∀ w : State, w.queues = updAt s.queues t (fun q => joinQueue q e) → w.queue v = s.queue v := by
        intro w hw
        simp only [State.queue, hw]
        exact updAt_ne _ _ _ _ hv
      rw [hqueue _ rfl]
      refine ⟨hord, hnodup, fun d => ?_⟩
      simpa [hv] using (hchan d).symm

/-- The queues pass the commands. -/
theorem QueuesOk.passes : Passes QueuesOk := by
  have reads : ∀ (s u : State), u.channels = s.channels → u.drivers = s.drivers → u.queues = s.queues → QueuesOk s →
      QueuesOk u := by
    intro s u hc _ hq h
    exact h.congr (fun t => by simp [State.queue, hq]) fun c t => by simp [State.chan, hc]
  refine Passes.ofChannels reads (fun _ h => h) ?chan ?leave ?complete QueuesOk.enqueue
    (fun _ _ ht hq h => h.dequeue ht hq) ?remove ?expire
  case chan =>
    intro s c f _ hq ht _ h
    refine h.congr (fun t => rfl) fun d t => ?_
    rw [State.updChan_get]
    split
    · rename_i hd
      subst hd
      rw [hq]
      exact and_congr_right fun hs => by rw [ht hs]
    · exact Iff.rfl
  case leave =>
    intro s c new abort _ _ hq h
    refine h.without c (fun t => ?_) (fun d hd => State.updChan_ne s c (fun _ => new) d hd)
      ?_
    · by_cases hs : (s.chan c).state = .QUEUED
      · simp only [goneTo, State.queue, if_pos hs]
        exact h.queuesWithout c t
      · rw [filter_absent (h.absent (.inl hs))]
        simp only [goneTo, State.queue, if_neg hs]
    · have hc : (goneTo s c new abort).chan c = new := State.updChan_self s c fun _ => new
      rw [hc]
      exact hq
  case complete =>
    intro s c hs h
    refine h.congr (fun t => rfl) fun d t => ?_
    have hd : ((s.updChan c fun r => { r with state := .ON, onStable := some Config.onStable }).endPulse c).chan d
        = (s.updChan c fun r => { r with state := .ON, onStable := some Config.onStable }).chan d := rfl
    rw [hd, State.updChan_get]
    split
    · rename_i hd; subst hd; simp [hs]
    · exact Iff.rfl
  case remove =>
    intro s c hs h
    unfold State.removeEntry
    split
    · have hq : QueuesOk (s.leaveQueue c) := by
        rw [State.leaveQueue_eq]
        exact h.without c (fun t => h.queuesWithout c t) (fun _ _ => rfl) hs
      split
      · exact hq
      · exact hq
    · exact h
  case expire =>
    intro s t c h
    refine h.congr (fun v => ?_) fun _ _ => Iff.rfl
    rw [State.updQueue_get]
    split
    · rename_i hv
      subst hv
      simp only [expireWait, List.map_map]
      refine List.map_congr_left fun e _ => ?_
      simp only [Function.comp_apply]
      split <;> rfl
    · rfl

/-- The queues stay in order in every step. -/
theorem QueuesOk.step {s u : State} (hx : Machine.step s = .next u) (h : QueuesOk s) : QueuesOk u := by
  refine QueuesOk.passes.step hx h ?reset (fun v t hv => hv) (fun v t _ hv => hv) ?tick
  case reset =>
    rintro v w - (hw | hw) <;> cases hw <;> intro t <;>
      simp [State.queue, State.chan, State.resetWith, State.reset, ChannelRec.reset]
  case tick =>
    intro h
    refine h.congr (fun t => ?_) fun c t => ?_
    · have ht : s.tick.queue t = (s.queue t).map fun e => { e with timer := countDown e.timer } := by
        simp [State.queue, State.tick]
      rw [ht, List.map_map]
      rfl
    · have hc : s.tick.chan c = { s.chan c with onStable := countDown (s.chan c).onStable } := by simp [State.chan, State.tick]
      rw [hc]

end Sys2Proof.Safety

namespace Sys2Proof.Machine

open Sys2Proof.Safety

/-- Settles O59: each invariant passes every change that commands make. -/
theorem stepKeepsChannelsAndQueues : Obligations.StepKeepsChannelsAndQueues :=
  fun _ _ hx => ⟨ChannelsOk.step hx, QueuesOk.step hx, LinesOk.step hx⟩

/-- Settles O60. -/
theorem resetInvariants : Obligations.ResetInvariants := by
  refine ⟨fun t => ?trunk, AccountsOk.empty (fun t => ?reserved) (fun c => ?account), fun c => ?channel, fun t => ?queue,
    fun p => ?port, fun l => ?line, ?slot⟩
  case trunk => simpa [State.trunk, State.reset] using trunkOk_reset
  case reserved => simp [State.trunk, State.reset, TrunkRec.reset]
  case account => simp [State.acct, State.reset]
  case channel =>
    simp [State.chan, State.driver, State.reset, chanOk, ChannelRec.reset, isDriven, Config.lockoutFaults]
  case queue => simp [State.queue, State.chan, State.reset, ChannelRec.reset]
  case port => simp [State.port, State.reset, portOk, PortRec.reset]
  case line => simp [State.line, State.reset, lineOk, LineRec.reset]
  case slot => simp [SlotOk, State.reset, ConfigRec.reset]

end Sys2Proof.Machine

/-! Requests of the Lease Manager and its claims on the channels (2.4 to 2.7). -/

namespace Sys2Proof.Machine

open Sys2Proof.Safety

/-! ### A request that the Lease Manager takes at once -/

/-- A passed request of the Lease Manager, taken at once, is what its owner makes of it. -/
theorem exec_leaseRequest {i : Instr} {x : Req × Byte} (hi : leaseRequestOf i = some x) {r : Req} {s : State} (hp : Passed s i r)
    (ht : TakenAtOnce s i) : exec i s = .next (leaseTake i (taken s i r)) := by
  rw [← State.leaseCommand_taken s i r hp ht]
  cases i <;> first | rfl | cases hi

/-- The shared checks in COMMISSION phase (R30). -/
theorem State.leaseRequest_commission {s : State} (h : s.config.phase = .COMMISSION) (p : Port) (ch : Byte) (k : Channel → State) :
    s.leaseRequest p ch k = s.respond p .WRONG_PHASE [] := by
  simp [State.leaseRequest, h]

/-- The shared checks with no channel of that index (R30). -/
theorem State.leaseRequest_none {s : State} (h : s.config.phase = .SERVICE) {ch : Byte} (hc : 12 ≤ ch.toNat) (p : Port)
    (k : Channel → State) : s.leaseRequest p ch k = s.respond p .BAD_ARGUMENT [] := by
  simp [State.leaseRequest, h, channelOf_none hc]

/-- The shared checks passed (R30). -/
theorem State.leaseRequest_channel {s : State} (h : s.config.phase = .SERVICE) (c : Channel) (p : Port) (k : Channel → State) :
    s.leaseRequest p (BitVec.ofNat 8 c.val) k = k c := by
  simp [State.leaseRequest, h]

/-- A holder's request for a FREE channel (R30). -/
theorem State.holderRequest_free {s : State} (h : s.config.phase = .SERVICE) {c : Channel} (hf : (s.chan c).state = .FREE) (p : Port)
    (k : Channel → State) : s.holderRequest p (BitVec.ofNat 8 c.val) k = s.respond p .STATE [] := by
  rw [State.holderRequest, State.leaseRequest_channel h, if_pos hf]

/-- A holder's request from another sender (R30). -/
theorem State.holderRequest_other {s : State} (h : s.config.phase = .SERVICE) {c : Channel} (hf : (s.chan c).state ≠ .FREE) {p : Port}
    (hh : s.holder c ≠ some (.port p (s.viewOf p).epoch)) (k : Channel → State) :
    s.holderRequest p (BitVec.ofNat 8 c.val) k = s.respond p .NOT_PERMITTED [] := by
  rw [State.holderRequest, State.leaseRequest_channel h, if_neg hf]
  simp [State.isHolder, hh]

/-- A holder's request from the holder (R30). -/
theorem State.holderRequest_holder {s : State} (h : s.config.phase = .SERVICE) {c : Channel} (hf : (s.chan c).state ≠ .FREE) {p : Port}
    (hh : s.holder c = some (.port p (s.viewOf p).epoch)) (k : Channel → State) :
    s.holderRequest p (BitVec.ofNat 8 c.val) k = k c := by
  rw [State.holderRequest, State.leaseRequest_channel h, if_neg hf]
  simp [State.isHolder, hh]

/-- A current field in range. -/
theorem currentOf_some {w : BitVec 16} (h1 : 1 ≤ w.toNat) (h2 : w.toNat ≤ 655) : currentOf w = some (100 * w.toNat) := by
  simp [currentOf, h1, h2]

theorem currentOf_none {w : BitVec 16} (h : w.toNat = 0 ∨ 655 < w.toNat) : currentOf w = none := by
  unfold currentOf
  rw [if_neg (by omega)]

/-- Settles O17: the checks of `leaseRequest` and `holderRequest` stand before everything else that the request does. -/
theorem leaseRequestRefusals : Obligations.LeaseRequestRefusals := by
  intro i r ch s hi hp ht
  rw [exec_leaseRequest hi hp ht]
  refine ⟨fun hph => ?commission, fun hph hch => ?index, fun hph hk c hc => ?holder⟩
  case commission =>
    have h : (taken s i r).config.phase = .COMMISSION := by simpa using hph
    cases i <;> cases hi <;>
      simp only [leaseTake, State.takeClaim, State.takeRelease, State.takeAdopt, State.takeDeEnergize, State.takeClearFault,
        State.takeRestate, State.holderRequest, State.leaseRequest_commission h]
  case index =>
    have h : (taken s i r).config.phase = .SERVICE := by simpa using hph
    cases i <;> cases hi <;>
      simp only [leaseTake, State.takeClaim, State.takeRelease, State.takeAdopt, State.takeDeEnergize, State.takeClearFault,
        State.takeRestate, State.holderRequest, State.leaseRequest_none h hch]
  case holder =>
    have h : (taken s i r).config.phase = .SERVICE := by simpa using hph
    have hkey : ∃ k, leaseTake i (taken s i r) = (taken s i r).holderRequest r.port (BitVec.ofNat 8 c.val) k := by
      subst hc
      rcases hk with rfl | rfl | rfl | ⟨cur, rfl, h1, h2⟩
      · exact ⟨_, rfl⟩
      · exact ⟨_, rfl⟩
      · exact ⟨_, rfl⟩
      · simp only [leaseTake, State.takeRestate, State.leaseRequest_channel h, currentOf_some h1 h2]
        exact ⟨_, rfl⟩
    obtain ⟨k, hk⟩ := hkey
    rw [hk]
    refine ⟨fun hf => ?_, fun hf hh => ?_⟩
    · rw [State.holderRequest_free h (by simpa using hf)]
    · rw [State.holderRequest_other h (by simpa using hf) (by simpa using hh)]

/-! ### CLAIM -/

/-- A byte names a port exactly when it is the port's. -/
theorem portOf_iff {b : Byte} {q : Port} : portOf b = some q ↔ b = BitVec.ofNat 8 q.val := by
  refine ⟨fun h => ?_, fun h => by rw [h, portOf_ofNat]⟩
  unfold portOf at h
  split at h
  · cases h
    exact BitVec.eq_of_toNat_eq (by simp)
  · cases h

/-- The policy and successor bytes of a CLAIM (Table 11-5). -/
theorem orphanOf_iff {policy succ : Byte} {o : Orphan} : orphanOf policy succ = some o ↔ match o with
    | .KEEP => policy = 0#8
    | .DROP => policy = 1#8
    | .HAND q => policy = 2#8 ∧ succ = BitVec.ofNat 8 q.val := by
  unfold orphanOf
  split
  case isTrue h => subst h; cases o <;> simp
  case isFalse h0 =>
    split
    case isTrue h => subst h; cases o <;> simp
    case isFalse h1 =>
      split
      case isTrue h => subst h; cases o <;> simp [portOf_iff]
      case isFalse h2 => cases o <;> simp [h0, h1, h2]

/-- A priority in range. -/
theorem priorityOf_iff {b : Byte} {n : Nat} : priorityOf b = some n ↔ b.toNat ≤ 7 ∧ n = b.toNat := by
  unfold priorityOf
  split
  · simp [*, eq_comm]
  · simp [*]

/-- A current in range. -/
theorem currentOf_iff {w : BitVec 16} {n : Nat} : currentOf w = some n ↔ 1 ≤ w.toNat ∧ w.toNat ≤ 655 ∧ n = 100 * w.toNat := by
  unfold currentOf
  split
  · simp [*, eq_comm]
  · simp
    omega

/-- The arguments of a CLAIM in range (R31). -/
def claimTerms (s : State) (p : Port) (c : Channel) (cur : BitVec 16) (prio policy succ : Byte) (o : Orphan) : Prop :=
  1 ≤ cur.toNat ∧ cur.toNat ≤ 655 ∧ prio.toNat ≤ 7 ∧
    match o with
    | .KEEP => policy = 0#8
    | .DROP => policy = 1#8
    | .HAND q => policy = 2#8 ∧ succ = BitVec.ofNat 8 q.val ∧ q ≠ p ∧ s.permits c q = true

theorem claimTerms_iff {s : State} {p : Port} {c : Channel} {cur : BitVec 16} {prio policy succ : Byte} {o : Orphan} :
    claimTerms s p c cur prio policy succ o ↔ currentOf cur = some (100 * cur.toNat) ∧ priorityOf prio = some prio.toNat
      ∧ orphanOf policy succ = some o ∧ s.successorOk p c o = true := by
  rw [currentOf_iff, priorityOf_iff, orphanOf_iff]
  unfold claimTerms
  cases o <;> simp [State.successorOk, and_assoc]

/-- A CLAIM with an argument out of range (R31). -/
theorem State.takeClaim_range {s : State} (h : s.config.phase = .SERVICE) {p : Port} {c : Channel} {cur : BitVec 16}
    {prio policy succ : Byte} (wait : Byte) (ho : ∀ o, ¬ claimTerms s p c cur prio policy succ o) :
    s.takeClaim p (BitVec.ofNat 8 c.val) cur prio policy succ wait = s.respond p .BAD_ARGUMENT [] := by
  rw [State.takeClaim, State.leaseRequest_channel h]
  split
  case h_2 => rfl
  case h_1 mA pr o hcur hprio horphan =>
    obtain ⟨-, -, rfl⟩ := currentOf_iff.1 hcur
    obtain ⟨-, rfl⟩ := priorityOf_iff.1 hprio
    have hs : s.successorOk p c o = false :=
      Bool.eq_false_iff.2 fun hs => ho o (claimTerms_iff.2 ⟨hcur, hprio, horphan, hs⟩)
    rw [hs]
    rfl

/-- A CLAIM with its arguments in range (R31). -/
theorem State.takeClaim_terms {s : State} (h : s.config.phase = .SERVICE) {p : Port} {c : Channel} {cur : BitVec 16}
    {prio policy succ : Byte} {o : Orphan} (wait : Byte) (ho : claimTerms s p c cur prio policy succ o) :
    s.takeClaim p (BitVec.ofNat 8 c.val) cur prio policy succ wait =
      if (s.chan c).trunk = none ∨ s.permits c p = false then s.respond p .NOT_PERMITTED []
      else if (s.chan c).lockedOut = true then s.respond p .LOCKED_OUT []
      else if (s.chan c).state ≠ .FREE then s.respond p .HELD []
      else (s.updChan c fun r => { r with
          state := .IDLE
          lease := some ⟨.port p (s.viewOf p).epoch, some o, 100 * cur.toNat, prio.toNat, tenMsOf wait⟩ }).respond p .OK
        (be16 (s.viewOf p).epoch ++ [byteOf (s.chan c).faultCount]) := by
  obtain ⟨hcur, hprio, horphan, hs⟩ := claimTerms_iff.1 ho
  rw [State.takeClaim, State.leaseRequest_channel h]
  simp only [hcur, hprio, horphan, hs]
  rfl

/-- Settles O18. -/
theorem claimRequest : Obligations.ClaimRequest := by
  intro r c cur prio policy succ wait s i terms hp ht hph
  have h : (taken s i r).config.phase = .SERVICE := by simpa using hph
  have hterms : ∀ o, claimTerms (taken s i r) r.port c cur prio policy succ o ↔ terms o := fun o => Iff.rfl
  rw [exec_leaseRequest (i := i) rfl hp ht]
  refine ⟨fun ho => ?_, fun o ho => ?_⟩
  · rw [← State.takeClaim_range h wait fun o => (hterms o).not.2 (ho o)]
    rfl
  · exact congrArg _ (State.takeClaim_terms h wait ((hterms o).2 ho))

/-! ### RELEASE, DE-ENERGIZE, CLEAR FAULT, ADOPT -/

/-- DE-ENERGIZE of the holder (R35). -/
theorem State.takeDeEnergize_holder {s : State} (h : s.config.phase = .SERVICE) {c : Channel} (hf : (s.chan c).state ≠ .FREE) {p : Port}
    (hh : s.holder c = some (.port p (s.viewOf p).epoch)) : s.takeDeEnergize p (BitVec.ofNat 8 c.val) =
      if (s.chan c).state = .FAULTED then s.respond p .STATE []
      else if (s.chan c).state = .IDLE then s.respond p .OK []
      else (goneTo s c (undriven (s.chan c) .IDLE) true).respond p .OK [] := by
  rw [State.takeDeEnergize, State.holderRequest_holder h hf hh]
  split
  case h_1 hs => rw [if_pos hs]
  case h_2 hs => rw [hs]; rfl
  case h_3 h1 h2 =>
    rw [if_neg h1, if_neg h2, State.leaveFor_eq _ _ _ _ _ rfl]
    rfl

/-- CLEAR FAULT of the holder (R36). -/
theorem State.takeClearFault_holder {s : State} (h : s.config.phase = .SERVICE) {c : Channel} (hf : (s.chan c).state ≠ .FREE) {p : Port}
    (hh : s.holder c = some (.port p (s.viewOf p).epoch)) : s.takeClearFault p (BitVec.ofNat 8 c.val) =
      if (s.chan c).state = .FAULTED then (goneTo s c (undriven (s.chan c) .IDLE) true).respond p .OK []
      else s.respond p .STATE [] := by
  rw [State.takeClearFault, State.holderRequest_holder h hf hh, State.leaveFor_eq _ _ _ _ _ rfl]
  rfl

/-- Settles O19. -/
theorem releaseDeEnergizeClearFault : Obligations.ReleaseDeEnergizeClearFault := by
  intro r c s hph hf hh
  refine ⟨fun hp ht => ?release, fun hp ht => ?deEnergize, fun hp ht => ?clearFault⟩
  case release =>
    rw [exec_leaseRequest rfl hp ht, leaseTake, State.takeRelease,
      State.holderRequest_holder (by simpa using hph) (by simpa using hf) (by simpa using hh), State.endLease_eq]
  case deEnergize =>
    rw [exec_leaseRequest rfl hp ht, leaseTake,
      State.takeDeEnergize_holder (by simpa using hph) (by simpa using hf) (by simpa using hh)]
    rfl
  case clearFault =>
    rw [exec_leaseRequest rfl hp ht, leaseTake,
      State.takeClearFault_holder (by simpa using hph) (by simpa using hf) (by simpa using hh)]
    rfl

/-- The LAPSED holder of a channel (R34). -/
theorem State.lapsedHolder_none {s : State} {c : Channel}
    (h : ∀ q e, s.holder c = some (.port q e) → (s.viewOf q).standing ≠ .LAPSED) : s.lapsedHolder c = none := by
  unfold State.lapsedHolder State.holderPort
  cases hh : s.holder c with
  | none => rfl
  | some x =>
    cases x with
    | port q e => simp [h q e hh]
    | line l => rfl

theorem State.lapsedHolder_some {s : State} {c : Channel} {l : Lease} {q : Port} {e : BitVec 16} (hl : (s.chan c).lease = some l)
    (hq : l.holder = .port q e) (hs : (s.viewOf q).standing = .LAPSED) : s.lapsedHolder c = some q := by
  simp [State.lapsedHolder, State.holderPort, State.holder, hl, hq, hs]

/-- Settles O20. -/
theorem adoptRequest : Obligations.AdoptRequest := by
  intro r c s i hp ht hph
  have h : (taken s i r).config.phase = .SERVICE := by simpa using hph
  rw [exec_leaseRequest (i := i) rfl hp ht]
  have hadopt : leaseTake i (taken s i r) = (taken s i r).takeAdopt r.port (BitVec.ofNat 8 c.val) := rfl
  rw [hadopt, State.takeAdopt, State.leaseRequest_channel h]
  refine ⟨fun hn => ?refused, fun htrunk hmask => ⟨fun hq => ?notLapsed, fun l q e hl hq hs => ?adopted⟩⟩
  case refused => rw [if_pos (by simpa using hn)]
  case notLapsed =>
    rw [if_neg (by simp [htrunk, hmask]), State.lapsedHolder_none (by simpa using hq)]
  case adopted =>
    rw [if_neg (by simp [htrunk, hmask]), State.lapsedHolder_some (l := l) (q := q) (e := e) (by simpa using hl) hq (by simpa using hs)]
    have hupd : ((taken s i r).updChan c fun x => { x with
          lease := x.lease.map fun l => { l with holder := .port r.port ((taken s i r).viewOf r.port).epoch } })
        = (taken s i r).updChan c fun x => { x with lease := some { l with holder := .port r.port (s.viewOf r.port).epoch } } := by
      refine State.updChan_congr _ _ _ _ ?_
      simp [hl]
    simp only [hupd]
    rfl

end Sys2Proof.Machine

/-! The hold-back of the Lease Manager, RESTATE, the session claims, shed and trip claims (2.4, 2.5, 2.7). -/

namespace Sys2Proof.Machine

open Sys2Proof.Safety

/-! ### The hold-back -/

/-- A byte names a channel exactly when it is the channel's. -/
theorem channelOf_iff {b : Byte} {c : Channel} : channelOf b = some c ↔ b = BitVec.ofNat 8 c.val := by
  refine ⟨fun h => ?_, fun h => by rw [h, channelOf_ofNat]⟩
  unfold channelOf at h
  split at h
  · cases h
    exact BitVec.eq_of_toNat_eq (by simp)
  · cases h

/-- An admission of the channel is in flight (R37). -/
theorem State.admissionInFlight_iff (s : State) (c : Channel) : s.admissionInFlight c = true ↔ s.inHand c ≠ none
    ∨ ∃ (t : Trunk) (k : PassClaim), (s.pass t).claim = some k ∧ k.channel = c ∧ k.stage ≠ .settled := by
  simp [State.admissionInFlight, Option.any_eq_true, Option.isSome_iff_ne_none]

/-- A claim or request is blocked exactly for a cause of `HeldBackBecause` (R29, R37, R46, R50). -/
theorem State.leaseBlocked_iff (s : State) (i : Instr) : s.leaseBlocked i = true ↔ HeldBackBecause s i := by
  have hfirst : ((List.finRange 12).any fun c => s.concerns i c && (s.chan c).restating.isSome) = true
      ↔ ∃ c, (s.chan c).restating ≠ none ∧ Concerns s i c := by
    simp [State.concerns_iff, Option.isSome_iff_ne_none, and_comm]
  have hsession : (sessionPort i).any s.heldFrom = true
      ↔ ∃ p, sessionPort i = some p ∧ ∃ j ∈ s.heldBack, requestPort j = some p ∨ sessionPort j = some p := by
    simp [Option.any_eq_true, State.heldFrom]
  have hline : (lineChannel i).any s.heldFromLines = true
      ↔ ∃ c, lineChannel i = some c ∧ ∃ j ∈ s.heldBack, lineChannel j = some c := by
    simp [Option.any_eq_true, State.heldFromLines]
  unfold State.leaseBlocked HeldBackBecause
  rw [Bool.or_eq_true, Bool.or_eq_true, Bool.or_eq_true, hfirst, hsession, hline, or_assoc, or_assoc]
  refine or_congr_right (or_congr_right (or_congr_right ?_))
  split
  case h_1 r ch cur =>
    simp only [Option.any_eq_true, State.admissionInFlight_iff, Instr.restate.injEq]
    constructor
    · rintro ⟨c, hc, hs⟩
      exact .inl ⟨r, c, cur, ⟨rfl, (channelOf_iff.1 hc), rfl⟩, hs⟩
    · rintro (⟨_, c, _, ⟨rfl, rfl, rfl⟩, hs⟩ | ⟨l, c, h, -⟩)
      · exact ⟨c, channelOf_ofNat c, hs⟩
      · cases h
  case h_2 l c =>
    simp only [Bool.and_eq_true, Bool.or_eq_true, decide_eq_true_eq, Option.isSome_iff_ne_none, Instr.inhibitClaim.injEq]
    constructor
    · exact fun h => .inr ⟨l, c, ⟨rfl, rfl⟩, h⟩
    · rintro (⟨_, _, _, h, -⟩ | ⟨_, _, ⟨rfl, rfl⟩, h⟩)
      · cases h
      · exact h
  case h_3 h1 h2 =>
    refine iff_of_false (by simp) ?_
    rintro (⟨r, c, cur, rfl, -⟩ | ⟨l, c, rfl, -⟩)
    · exact h1 _ _ _ rfl
    · exact h2 _ _ rfl

/-- A claim or request that is blocked is held back. -/
theorem State.atLeaseManager_blocked {s : State} {i : Instr} (h : HeldBackBecause s i) (f : State → State) :
    s.atLeaseManager i f = s.setHeldBack (s.heldBack ++ [i]) := by
  rw [State.atLeaseManager, (s.leaseBlocked_iff i).2 h]
  rfl

/-- In the state in which a request is in hand the same is held back for the same cause. -/
theorem heldBackBecause_taken {s : State} {i : Instr} (j : Instr) (r : Req) (h : HeldBackBecause s i) :
    HeldBackBecause (taken s j r) i := by
  rw [← State.leaseBlocked_iff] at h ⊢
  rwa [State.leaseBlocked_congr s (taken s j r) i (by simp) (by simp) (by simp) (by simp)]

theorem heldBackBecause_arrive {s : State} {i : Instr} (m : Instr) (h : HeldBackBecause s i) : HeldBackBecause (s.arrive m) i := by
  rw [← State.leaseBlocked_iff] at h ⊢
  rwa [State.leaseBlocked_congr s (s.arrive m) i (by simp) (by simp) (by simp) (by simp)]

/-! ### RESTATE -/

/-- RESTATE of the holder with its argument in range (R37). -/
theorem State.takeRestate_holder {s : State} (h : s.config.phase = .SERVICE) {c : Channel} (hf : (s.chan c).state ≠ .FREE) {p : Port}
    {l : Lease} (hl : (s.chan c).lease = some l) (hh : l.holder = .port p (s.viewOf p).epoch) {cur : BitVec 16} (h1 : 1 ≤ cur.toNat)
    (h2 : cur.toNat ≤ 655) {t : Trunk} (ht : (s.chan c).trunk = some t) :
    let restated := s.updChan c fun x => { x with lease := some { l with declared := 100 * cur.toNat } }
    s.takeRestate p (BitVec.ofNat 8 c.val) cur = match (s.chan c).state with
      | .IDLE | .SHED | .INHIBITED => restated.respond p .OK []
      | .QUEUED => (restated.send (.serviceEvent t)).respond p .OK []
      | .ON => (s.updChan c fun x => { x with restating := some ⟨p, 100 * cur.toNat⟩ }).send
          (.restatedReservation c l.declared (100 * cur.toNat))
      | _ => s.respond p .STATE [] := by
  intro restated
  have hset : s.setDeclared c (100 * cur.toNat) = restated := State.updChan_congr _ _ _ _ (by simp [hl])
  have hdecl : s.declared c = l.declared := by simp [State.declared, hl]
  rw [State.takeRestate, State.leaseRequest_channel h, currentOf_some h1 h2]
  dsimp only
  rw [State.holderRequest_holder h hf (by simp [State.holder, hl, hh]), hset, hdecl, ht]
  cases hs : (s.chan c).state <;> rfl

/-- Settles O21. -/
theorem restateRequest : Obligations.RestateRequest := by
  intro r c cur l t s i restated
  refine ⟨fun hp hin => ?held, fun hp ht hph => ⟨fun hcur => ?range, fun h1 h2 hf hl hh htr => ?taken⟩⟩
  case held =>
    have hb : HeldBackBecause s i := .inr (.inr (.inr (.inl ⟨r, c, cur, rfl, hin⟩)))
    have hx : exec i s = .next (s.leaseCommand i) := rfl
    rw [hx, State.leaseCommand, State.hostRequest_passed s i r _ hp, State.atLeaseManager_blocked (heldBackBecause_taken i r hb)]
    simp
  case range =>
    have h : (taken s i r).config.phase = .SERVICE := by simpa using hph
    rw [exec_leaseRequest (i := i) rfl hp ht]
    refine congrArg _ ?_
    change (taken s i r).takeRestate r.port (BitVec.ofNat 8 c.val) cur = _
    rw [State.takeRestate, State.leaseRequest_channel h, currentOf_none hcur]
  case taken =>
    have h : (taken s i r).config.phase = .SERVICE := by simpa using hph
    rw [exec_leaseRequest (i := i) rfl hp ht]
    exact congrArg _ (State.takeRestate_holder h (by simpa using hf) (by simpa using hl) (by simpa using hh) h1 h2 (by simpa using htr))

/-! ### A claim that the Lease Manager takes at once -/

/-- A claim taken at once is what the Lease Manager makes of it. -/
theorem exec_claim {i : Instr} {s : State} (hx : exec i s = .next (s.claimCommand i)) (h : ClaimTaken s i) :
    exec i s = .next (leaseTake i (s.arrive i)) := by
  rw [hx, State.claimCommand_taken s i h]

/-! ### OPEN claims -/

/-- The same change of several channel records. -/
theorem foldl_updChan (f : ChannelRec → ChannelRec) (l : List Channel) (s : State) :
    l.foldl (fun s c => s.updChan c f) s = { s with channels := l.foldl (fun v c => updAt v c f) s.channels } := by
  induction l generalizing s with
  | nil => rfl
  | cons c l ih => rw [List.foldl_cons, ih]; rfl

/-- The records after the same change of several channels, each once. -/
theorem foldl_updChan_chan (f : ChannelRec → ChannelRec) {l : List Channel} (hl : l.Nodup) (s : State) (d : Channel) :
    (l.foldl (fun s c => s.updChan c f) s).chan d = if d ∈ l then f (s.chan d) else s.chan d := by
  induction l generalizing s with
  | nil => simp
  | cons c l ih =>
    rw [List.nodup_cons] at hl
    rw [List.foldl_cons, ih hl.2, State.updChan_get]
    by_cases hd : d = c
    · subst hd; simp [hl.1]
    · simp [hd]

theorem channelsWhere_nodup (f : Channel → Bool) : (channelsWhere f).Nodup := (List.nodup_finRange 12).filter _

@[simp] theorem mem_channelsWhere {f : Channel → Bool} {c : Channel} : c ∈ channelsWhere f ↔ f c = true := by simp [channelsWhere]

/-- Settles O23. -/
theorem openClaimRestampsLeases : Obligations.OpenClaimRestampsLeases := by
  intro p epoch s h
  refine ⟨_, exec_claim rfl h, ?_⟩
  have hleases : (s.arrive (.openClaim p epoch)).leasesOf p = channelsWhere fun c => decide (s.holderPort c = some p) := rfl
  have hview : (s.arrive (.openClaim p epoch)).viewOf p = s.viewOf p := rfl
  simp only [leaseTake, State.takeOpenClaim, hleases, hview]
  rw [foldl_updChan]
  refine ⟨rfl, State.updView_self _ _ _, fun q hq => State.updView_ne _ _ _ _ hq, fun c => ?chan, ?messages⟩
  case chan =>
    by_cases hs : (s.viewOf p).standing = .LAPSED
    · have hc := foldl_updChan_chan (fun r => { r with lease := r.lease.map fun l => { l with holder := .port p epoch } })
        (channelsWhere_nodup fun c => decide (s.holderPort c = some p)) s c
      rw [foldl_updChan] at hc
      simp only [hs, if_true, true_and]
      refine hc.trans ?_
      simp
    · simp only [hs, if_false, false_and]
      rfl
  case messages =>
    by_cases hs : (s.viewOf p).standing = .LAPSED
    · simp only [hs, if_true]; rfl
    · simp only [hs, if_false]; rfl

/-! ### Shed and trip claims -/

/-- A claim that takes a driven channel to SHED (R49). -/
theorem State.leaveFor_shed (s : State) (c : Channel) (cause : ShedCause) :
    (s.leaveFor c .SHED true fun r => { r with shedCause := some cause })
      = goneTo s c { undriven (s.chan c) .SHED with shedCause := some cause } true :=
  State.leaveFor_eq _ _ _ _ _ rfl

/-- Settles O25. -/
theorem shedAndTripClaims : Obligations.ShedAndTripClaims := by
  intro t c heat conf s
  refine ⟨fun h => ?_, fun h => ?_⟩
  · rw [exec_claim rfl h, leaseTake, State.takeShed, State.leaveFor_shed]
    rfl
  · rw [exec_claim rfl h, leaseTake, State.takeTrip, State.leaveFor_shed]
    rfl

end Sys2Proof.Machine

/-! Claims of the Admission Unit, the Staged Energize Unit, the Sense Block, the Line Unit and the Configuration Unit on a channel
(2.6, 2.7), and the upkeep of the queues (3.5). -/

namespace Sys2Proof.Machine

open Sys2Proof.Safety

/-! ### Queue entry and withholding -/

/-- A queue entry claim in the state that it carries (R47, R54, R69). -/
theorem State.takeQueueEntry_taken {s : State} {c : Channel} {found : Found} {t : Trunk} {l : Lease} (hf : found ≠ .QUEUED)
    (hs : (s.chan c).state = foundState found) (ht : (s.chan c).trunk = some t) (hl : (s.chan c).lease = some l)
    (hq : (s.queue t).Pairwise fun a b => b.priority ≤ a.priority) (hc : ∀ e ∈ s.queue t, e.channel ≠ c) :
    let ahead := (s.queue t).filter fun e => decide (l.priority ≤ e.priority)
    let behind := (s.queue t).filter fun e => decide (e.priority < l.priority)
    s.takeQueueEntry c found = (((s.updChan c fun r => { r with state := .QUEUED, shedCause := none }).updQueue t fun _ =>
        ahead ++ ⟨c, l.priority, s.arrivals, waitTimer l.wait, s.heatIfTripped t, false⟩ :: behind).setArrivals
        (s.arrivals + 1)).send (.queueEntryAnswer c .QUEUED (some ahead.length)) := by
  intro ahead behind
  have hjoin : joinQueue (s.queue t) ⟨c, l.priority, s.arrivals, waitTimer l.wait, s.heatIfTripped t, false⟩
      = ahead ++ ⟨c, l.priority, s.arrivals, waitTimer l.wait, s.heatIfTripped t, false⟩ :: behind := joinQueue_sorted _ _ hq
  have hahead := entriesAhead_append ahead behind ⟨c, l.priority, s.arrivals, waitTimer l.wait, s.heatIfTripped t, false⟩
    fun x hx => hc x (List.mem_filter.1 hx).1
  unfold State.takeQueueEntry
  simp only [ht, hl]
  rw [if_pos ⟨hs, hf⟩]
  simp only [hjoin, hahead]
  rw [State.updQueue_congr _ t _ (fun _ => ahead ++ ⟨c, l.priority, s.arrivals, waitTimer l.wait, s.heatIfTripped t, false⟩ :: behind)]
  exact hjoin

/-- A queue entry claim in another state is dropped (R47). -/
theorem State.takeQueueEntry_dropped {s : State} {c : Channel} {found : Found} (hs : (s.chan c).state ≠ foundState found) :
    s.takeQueueEntry c found = s.send (.queueEntryAnswer c (s.chan c).state none) := by
  unfold State.takeQueueEntry
  split
  · rw [if_neg fun h => hs h.1]
  · rfl

/-- Settles O26. -/
theorem queueEntryAndWithholdClaims : Obligations.QueueEntryAndWithholdClaims := by
  intro c found s hf
  refine ⟨fun h => ⟨fun t l hs ht hl hq hc => ?entry, fun hs => ?dropped⟩, fun h => ?withhold⟩
  case entry =>
    rw [exec_claim rfl h, leaseTake, State.takeQueueEntry_taken hf (by simpa using hs) (by simpa using ht) (by simpa using hl)
      (by simpa using hq) (by simpa using hc)]
    simp only [waitTimer, Config.msec, Nat.mul_comm l.wait]
    rfl
  case dropped =>
    rw [exec_claim rfl h, leaseTake, State.takeQueueEntry_dropped (by simpa using hs)]
    rfl
  case withhold =>
    rw [exec_claim rfl h, leaseTake, State.takeWithhold]
    simp only [ne_eq, hf, not_false_eq_true, and_true]
    rfl

/-! ### Admission -/

/-- The queues without a channel look at its trunk alone. -/
theorem queuesWithout_congr {s u : State} {c : Channel} (ht : (u.chan c).trunk = (s.chan c).trunk) (hq : u.queues = s.queues) :
    queuesWithout u c = queuesWithout s c := by
  unfold queuesWithout
  rw [ht, hq]

/-- Settles O27. -/
theorem admitClaim : Obligations.AdmitClaim := by
  intro t c found stamp need s i h
  have hx : exec i s = .next (s.taking i fun s => (s.atLeaseManager i (leaseTake i)).releaseHeldBack) := rfl
  rw [hx, State.taking_run _ _ _ h.1 h.2.1, State.atLeaseManager_atOnce _ _ _ (takenAtOnce_arrive h.2.2 i)]
  refine congrArg (fun u : State => Host.Outcome.next u.releaseHeldBack) ?_
  have htake : leaseTake i (s.arrive i) = (s.arrive i).takeAdmit t c found stamp need := rfl
  have hstate : (s.arrive i).chan c = s.chan c := rfl
  have hstaged : (s.arrive i).staged c = s.staged c := rfl
  rw [htake, State.takeAdmit]
  dsimp only
  rw [hstate, hstaged]
  by_cases hs : (s.chan c).state = foundState found
  · rw [if_pos hs, if_pos hs]
    by_cases hq : found = .QUEUED
    · have hleave : queuesWithout (((s.arrive i).updPass t fun x => x.settle c).updChan c fun r => r.admitted (s.staged c) stamp) c
          = queuesWithout s c := queuesWithout_congr (by simp [ChannelRec.admitted]) (by simp)
      simp only [if_pos hq, State.leaveQueue_eq, hleave]
      rfl
    · simp only [if_neg hq]
      rfl
  · rw [if_neg hs, if_neg hs, State.returnCharge_eq]

/-! ### The upkeep of the queues -/

/-- A wait-expiry claim (R69). -/
theorem State.takeWaitExpiry_eq {s : State} {c : Channel} {t : Trunk} (ht : (s.chan c).trunk = some t) :
    s.takeWaitExpiry c = if (s.chan c).state = .QUEUED then
      (goneTo s c (undriven (s.chan c) .IDLE) true).postHolder .admissionUnit c
        ⟨.WAIT_EXPIRED, .channel c, none, some (.count (entriesAhead (s.queue t) c))⟩
      else s := by
  unfold State.takeWaitExpiry
  rw [ht, State.leaveFor_eq _ _ _ _ _ rfl]
  rfl

/-- A flush claim (R71). -/
theorem State.takeFlush_eq {s : State} {c : Channel} {t : Trunk} (heat : Nat) (ht : (s.chan c).trunk = some t) :
    s.takeFlush c heat = if (s.chan c).state = .QUEUED then
      let v := ((s.updQueue t fun q => q.filter fun e => decide (e.channel ≠ c)).updChan c
        fun r => { r with state := .IDLE }).postHolder .admissionUnit c
          ⟨.QUEUE_FLUSHED, .channel c, some (.shed .TRIP), some (.heat heat)⟩
      if s.pass t = ⟨none, true⟩ then v.startPass t else v
      else s := by
  have hleave : s.leaveQueue c = s.updQueue t fun q => q.filter fun e => decide (e.channel ≠ c) := by
    unfold State.leaveQueue
    rw [ht]
  unfold State.takeFlush
  rw [ht, hleave]
  dsimp only
  unfold State.resumePass
  simp

/-- A removal claim (R68). -/
theorem State.takeRemoval_eq {s : State} {c : Channel} {t : Trunk} (ht : (s.chan c).trunk = some t) :
    s.takeRemoval c = if (s.chan c).state = .QUEUED then s
      else
        let v := s.updQueue t fun q => q.filter fun e => decide (e.channel ≠ c)
        if (s.queue t).head?.map (·.channel) = some c then v.send (.serviceEvent t) else v := by
  have hleave : s.leaveQueue c = s.updQueue t fun q => q.filter fun e => decide (e.channel ≠ c) := by
    unfold State.leaveQueue
    rw [ht]
  unfold State.takeRemoval State.removeEntry
  rw [ht, hleave]
  simp only [State.isHead, decide_eq_true_eq]
  rfl

/-- An entry of a channel waits in the queue of one trunk alone, where the queues are in order (R52). -/
theorem waits_trunk {s : State} (hq : QueuesOk s) {c : Channel} {t : Trunk} {e : Entry} (he : e ∈ s.queue t) (hc : e.channel = c)
    (ht : e.timer ≠ none) : ((List.finRange 3).find? fun t => waits (s.queue t) c) = some t := by
  have hmem : ∀ v, c ∈ (s.queue v).map (·.channel) → v = t := by
    intro v hv
    have h1 := ((hq v).2.2 c).1 hv
    have h2 := ((hq t).2.2 c).1 (hc ▸ List.mem_map_of_mem he)
    exact Option.some.inj (h1.2.symm.trans h2.2)
  have hwaits : ∀ v, waits (s.queue v) c = true ↔ v = t := by
    intro v
    simp only [waits, List.any_eq_true, Bool.and_eq_true, decide_eq_true_eq]
    constructor
    · rintro ⟨x, hx, hxc, -⟩
      exact hmem v (hxc ▸ List.mem_map_of_mem hx)
    · rintro rfl
      exact ⟨e, he, hc, Option.isSome_iff_ne_none.2 ht⟩
  have hfun : (fun v => waits (s.queue v) c) = fun v => decide (v = t) := by
    funext v
    rw [Bool.eq_iff_iff, hwaits v, decide_eq_true_eq]
  have hfind : ∀ v : Trunk, ((List.finRange 3).find? fun w => decide (w = v)) = some v := by decide
  rw [hfun, hfind]

/-- Settles O28. -/
theorem queueUpkeep : Obligations.QueueUpkeep := by
  refine ⟨fun c t heat s ht => ⟨fun h => ?wait, fun h => ?flush⟩, fun c t s h0 ht => ?removal,
    fun c t e s h0 hq he hc htimer => ?expiry, fun c s h0 hnone => ?noExpiry, fun t heat s h0 => ?flushAll⟩
  case wait =>
    rw [exec_claim rfl h, leaseTake, State.takeWaitExpiry_eq (t := t) (by simpa using ht)]
    rfl
  case flush =>
    rw [exec_claim rfl h, leaseTake, State.takeFlush_eq (t := t) heat (by simpa using ht)]
    rfl
  case removal =>
    have hx : exec (.removalClaim c) s = .next (s.taking (.removalClaim c) fun s => s.takeRemoval c) := rfl
    rw [hx, State.taking_run _ _ _ h0 (inTurn_free rfl), State.takeRemoval_eq (t := t) (by simpa using ht)]
    rfl
  case expiry =>
    have hx : exec (.waitLimitExpiry c) s = .next (s.running fun s =>
      match (List.finRange 3).find? fun t => waits (s.queue t) c with
      | some t => (s.updQueue t fun q => expireWait q c).send (.waitExpiryClaim c)
      | none => s) := rfl
    rw [hx, State.running_run _ _ h0, waits_trunk hq he hc htimer]
    rfl
  case noExpiry =>
    have hx : exec (.waitLimitExpiry c) s = .next (s.running fun s =>
      match (List.finRange 3).find? fun t => waits (s.queue t) c with
      | some t => (s.updQueue t fun q => expireWait q c).send (.waitExpiryClaim c)
      | none => s) := rfl
    have hfind : ((List.finRange 3).find? fun t => waits (s.queue t) c) = none := by
      refine List.find?_eq_none.2 fun t _ => ?_
      simp only [waits, List.any_eq_true, Bool.and_eq_true, decide_eq_true_eq, not_exists, not_and]
      intro e he hc
      rw [hnone t e he hc]
      simp
    rw [hx, State.running_run _ _ h0, hfind]
  case flushAll =>
    have hx : exec (.queueFlush t heat) s = .next (s.taking (.queueFlush t heat) fun s =>
      (s.queue t).foldl (fun s e => s.send (.flushClaim e.channel heat)) s) := rfl
    rw [hx, State.taking_run _ _ _ h0 (inTurn_free rfl), foldl_send]
    rfl

/-! ### Advance, completion, faults -/

/-- Settles O29. -/
theorem advanceAndCompletionClaims : Obligations.AdvanceAndCompletionClaims := by
  intro c t l s
  refine ⟨fun h => ?advance, fun h => ⟨fun hs hl hpos hch => ?completion, fun hs => ?ignored⟩⟩
  case advance =>
    rw [exec_claim rfl h, leaseTake, State.takeAdvance]
    rfl
  case completion =>
    let u := s.arrive (.completionClaim c)
    let v := (u.updChan c fun r => { r with state := .ON, onStable := some Config.onStable }).endPulse c
    have hv : ChargedOn v c t := by simpa [v, u, ChargedOn, State.endPulse] using hch
    have hd : v.declared c = l.declared := by simp [v, u, State.declared, State.endPulse, hl]
    have hne : l.declared ≠ 0 := by omega
    have hstate : (u.chan c).state = .FILL := hs
    rw [exec_claim rfl h, leaseTake, State.takeCompletion, if_pos hstate, State.lowerCharge_eq v c t hv, hd]
    simp only [if_neg hne]
    rfl
  case ignored =>
    rw [exec_claim rfl h, leaseTake, State.takeCompletion, if_neg (by simpa using hs)]

/-- The state of a precharge failure claim (R48). -/
theorem failureState_iff {cause : FaultCause} {st : ChanState} : failureState cause = some st ↔
    (cause = .PRECHARGE_SHORT ∧ st = .PROBE) ∨ (cause = .PRECHARGE_TIMEOUT ∧ st = .FILL) := by
  cases cause <;> simp [failureState, eq_comm]

/-- Settles O30. -/
theorem faultsTaken : Obligations.FaultsTaken := by
  intro c cause s
  refine ⟨fun h => ?_, fun h => ?_⟩
  · rw [exec_claim rfl h, leaseTake, State.takeFailure, State.takeFault_eq]
    simp only [failureState_iff]
    rfl
  · rw [exec_claim rfl h, leaseTake, State.takeShort, State.takeFault_eq]
    rfl

/-! ### The Line Unit's claims -/

/-- Settles O31. -/
theorem lineUnitClaims : Obligations.LineUnitClaims := by
  refine ⟨fun l c cur prio s => ⟨fun h => ?claim, fun h => ?release⟩, fun l c s h => ?inhibit, fun l c s h0 ht hin hst => ?held,
    fun l c u hb hin => ?stays, fun l c s h => ⟨fun x hs hx => ?resume, fun hs => ?noResume⟩⟩
  case claim =>
    rw [exec_claim rfl h, leaseTake, State.takeLineClaim]
    rfl
  case release =>
    rw [exec_claim rfl h, leaseTake, State.takeLineRelease, State.endLease_eq]
    rfl
  case inhibit =>
    rw [exec_claim rfl h, leaseTake, State.takeInhibit, State.leaveFor_eq _ _ _ _ _ rfl]
    rfl
  case held =>
    have hb : HeldBackBecause s (.inhibitClaim l c) := .inr (.inr (.inr (.inr ⟨l, c, rfl, hin, hst⟩)))
    have hx : exec (.inhibitClaim l c) s = .next (s.claimCommand (.inhibitClaim l c)) := rfl
    rw [hx, State.claimCommand, State.taking_run _ _ _ h0 ht, State.atLeaseManager_blocked (heldBackBecause_arrive _ hb)]
    rfl
  case stays =>
    have hstays : (u.setHeldBack []).staysHeld (.inhibitClaim l c) = true := by
      simp [State.staysHeld, Option.isSome_iff_ne_none, hin]
    rw [State.releaseHeldBack, hb, List.foldl_cons, List.foldl_nil, State.releaseOne, if_pos hstays]
    cases u
    cases hb
    rfl
  case resume =>
    have hst : ((s.arrive (.resumeClaim l c)).chan c).state = .INHIBITED := hs
    have hh : (s.arrive (.resumeClaim l c)).holder c = some x := hx
    rw [exec_claim rfl h, leaseTake, State.takeResume, if_pos hst, hh, State.leaveFor_eq _ _ _ _ _ rfl]
    rfl
  case noResume =>
    rw [exec_claim rfl h, leaseTake, State.takeResume, if_neg (by simpa using hs)]

/-! ### The Configuration Unit's claims -/

/-- Settles O32. -/
theorem profileLockoutAndOnStable : Obligations.ProfileLockoutAndOnStable := by
  intro c new p s
  refine ⟨fun h hs => ?write, fun h => ?apply, fun h => ?lockout, fun h0 => ?onStable⟩
  case write =>
    rw [exec_claim rfl h, leaseTake, State.takeChannelProfile]
    rw [if_pos (by simpa using hs)]
  case apply =>
    rw [exec_claim rfl h, leaseTake, State.takeChannelProfile]
    rfl
  case lockout =>
    rw [exec_claim rfl h, leaseTake, State.takeLockoutRelease]
    rfl
  case onStable =>
    have hx : exec (.onStableExpiry c) s = .next (s.running fun s =>
      if (s.chan c).state = .ON ∧ (s.chan c).onStable.isSome then s.updChan c fun r => { r with faultCount := 0, onStable := none }
      else s) := rfl
    rw [hx, State.running_run _ _ h0]
    simp only [Option.isSome_iff_ne_none]

end Sys2Proof.Machine

/-! The restated reservation, and how what is held back is released (R17, R37). -/

namespace Sys2Proof.Machine

open Sys2Proof.Safety

/-- A restated reservation (R17). -/
theorem State.takeRestated_eq {s : State} {c : Channel} {t : Trunk} {p : TrunkProfile} (old new : Nat) (hc : ChargedOn s c t)
    (hp : (s.trunk t).profile = some p) (hn : 0 < new) : s.takeRestated c old new =
      if new ≤ old ∨ (s.trunk t).reserved + new ≤ p.rating + (s.acct c).reservation then
        let v := (s.updTrunk t fun r => { r with reserved := r.reserved - (s.acct c).reservation + new }).updAcct c
          fun _ => ⟨new, some t, false, 0⟩
        (if new < (s.acct c).reservation then v.send (.serviceEvent t) else v).send (.restatedReservationAnswer c true)
      else s.send (.restatedReservationAnswer c false) := by
  have hcharge := s.charge_eq c t new (hc.imp_right fun h => ⟨h.1, h.2.1⟩)
  have hacct : updAt (updAt s.accounts c fun a => { a with reservation := new, charged := if new = 0 then none else some t }) c
      (fun a => { a with overdrawn := false, runCount := 0 }) = updAt s.accounts c fun _ => ⟨new, some t, false, 0⟩ := by
    rw [updAt_updAt, if_neg (by omega)]
  unfold State.takeRestated
  rw [State.chargeTrunk_of hc]
  simp only [profileField, hp, hcharge, State.updAcct, hacct]
  refine if_congr Iff.rfl ?_ rfl
  by_cases hl : new < (s.acct c).reservation
  · simp only [hl, if_true]
    rfl
  · simp only [hl, if_false, List.append_nil]
    rfl

/-- The first that is held back, when it stays so, is held back behind nothing. -/
theorem State.releaseHeldBack_stays {u : State} {i : Instr} (hb : u.heldBack = [i]) (hs : (u.setHeldBack []).staysHeld i = true) :
    u.releaseHeldBack = u := by
  rw [State.releaseHeldBack, hb, List.foldl_cons, List.foldl_nil, State.releaseOne, if_pos hs]
  cases u
  cases hb
  rfl

/-- The first that is held back, when it is released, is settled and taken before the rest is judged. -/
theorem State.releaseHeldBack_cons {u : State} {i : Instr} {rest : List Instr} (hb : u.heldBack = i :: rest)
    (hs : (u.setHeldBack []).staysHeld i = false) :
    u.releaseHeldBack = ((leaseTake i ((u.setHeldBack []).settleCompletions i)).setHeldBack rest).releaseHeldBack := by
  have hnil : (leaseTake i ((u.setHeldBack []).settleCompletions i)).heldBack = [] := by simp
  have hset : ((leaseTake i ((u.setHeldBack []).settleCompletions i)).setHeldBack rest).setHeldBack []
      = leaseTake i ((u.setHeldBack []).settleCompletions i) := by
    generalize leaseTake i ((u.setHeldBack []).settleCompletions i) = v at hnil ⊢
    cases v
    cases hnil
    rfl
  rw [State.releaseHeldBack, hb, List.foldl_cons, State.releaseOne, if_neg (by simp [hs]), State.releaseHeldBack, hset]
  rfl

/-- What is not held back anew is released, unless it is an inhibit for a channel with an ENERGIZE in hand (R50). -/
theorem State.staysHeld_false {u : State} {i : Instr} (hb : u.leaseBlocked i = false)
    (hi : ∀ l c, i = .inhibitClaim l c → u.inHand c = none) : u.staysHeld i = false := by
  unfold State.staysHeld
  rw [hb, Bool.false_or]
  split
  · rw [hi _ _ rfl]
    rfl
  · rfl

/-- A command of the Lease Manager that is no request is a claim. -/
theorem exec_leaseClaim {i : Instr} (he : encodeRequest i = none) (hi : leaseChannel i ≠ none ∨ sessionPort i ≠ none)
    (ha : ∀ t c found stamp need, i ≠ .admitClaim t c found stamp need) (s : State) : exec i s = .next (s.claimCommand i) := by
  cases i <;> first
    | exact (hi.elim (· rfl) (· rfl)).elim
    | cases he; done
    | exact absurd rfl (ha _ _ _ _ _)
    | rfl

/-- A request that names a channel, ENERGIZE apart, is one for the Lease Manager. -/
theorem exec_leaseChannel {i : Instr} {r : Req} {s : State} (hp : Passed s i r) {c : Channel} (hi : leaseChannel i = some c) :
    exec i s = .next (s.leaseCommand i) := by
  obtain ⟨⟨code, payload, he, -⟩, -⟩ := hp
  cases i <;> first
    | cases he; done
    | cases hi
    | rfl

/-- Settles O22. -/
theorem restatedReservation : Obligations.RestatedReservation := by
  refine ⟨fun c t old new p s h0 hc hp hn => ?restated, fun c done x l s h0 hx hl => ?answer, fun i rest u hb ht hi => ?atOnce,
    fun i rest first u h0 hb hf hi htf => ?settled, fun i u hb hf => ?stays, fun i r s hi hp ht => ?request,
    fun i s he hi h ha => ?claim, fun i c s hi hr hb => ?held, fun i s => s.leaseBlocked_iff i⟩
  case restated =>
    have hx : exec (.restatedReservation c old new) s
      = .next (s.taking (.restatedReservation c old new) fun s => s.takeRestated c old new) := rfl
    rw [hx, State.taking_run _ _ _ h0 (inTurn_free rfl), State.takeRestated_eq (s := s.arrive (.restatedReservation c old new)) old new hc hp hn]
    rfl
  case answer =>
    intro u v
    have hexec : exec (.restatedReservationAnswer c done) s = .next v.releaseHeldBack := by
      have he : exec (.restatedReservationAnswer c done) s = .next (s.taking (.restatedReservationAnswer c done) fun s =>
        match (s.chan c).restating with
        | none => s
        | some x =>
          let cleared := s.updChan c fun r => { r with restating := none }
          (if done then (cleared.setDeclared c x.declared).respond x.port .OK []
           else cleared.respond x.port .NO_HEADROOM []).releaseHeldBack) := rfl
      have hu : ((s.arrive (.restatedReservationAnswer c done)).chan c).restating = some x := hx
      have hset : (u.updChan c fun r => { r with restating := none }).setDeclared c x.declared
          = u.updChan c fun r => { r with restating := none, lease := some { l with declared := x.declared } } := by
        rw [State.setDeclared, State.updChan_updChan]
        refine State.updChan_congr _ _ _ _ ?_
        simp [u, hl]
      rw [he, State.taking_run _ _ _ h0 (inTurn_free rfl), hu]
      simp only [u] at hset
      simp only [hset]
      rfl
    refine ⟨hexec, fun hb => ?_⟩
    rw [hexec, State.releaseHeldBack_nil]
    have hub : u.heldBack = [] := hb
    simp only [v]
    split <;> simpa using hub
  case atOnce =>
    rw [State.releaseHeldBack_cons hb (State.staysHeld_false ht.1 hi), State.settleCompletions_none _ _ ht.2]
  case settled =>
    refine ⟨(u.setHeldBack []).settleCompletions i, State.settleCompletions_inTurn _ _ _ h0 ?_,
      State.releaseHeldBack_cons hb (State.staysHeld_false hf hi)⟩
    exact (takenFirst_congr (s := u) (u := u.setHeldBack []) rfl rfl i _ _).2 htf
  case stays => exact State.releaseHeldBack_stays hb (by simp [State.staysHeld, hf])
  case request =>
    rcases hi with hi | ⟨ch, rfl⟩
    · obtain ⟨x, hx⟩ := Option.ne_none_iff_exists'.1 hi
      exact exec_leaseRequest hx hp ht
    · rw [← State.leaseCommand_taken s _ r hp ht]
      rfl
  case claim => exact exec_claim (exec_leaseClaim he hi ha s) h
  case held =>
    have hbecause : HeldBackBecause s i := .inl ⟨c, hr, .inl hi⟩
    refine ⟨fun he h0 ht => ?_, fun r hp => ?_⟩
    · have hgate : ∀ f, (s.arrive i).atLeaseManager i f = (s.arrive i).setHeldBack [i] := by
        intro f
        rw [State.atLeaseManager_blocked (heldBackBecause_arrive i hbecause)]
        simp [hb]
      by_cases ha : ∀ t c found stamp need, i ≠ .admitClaim t c found stamp need
      · rw [exec_leaseClaim he (.inl (by simp [hi])) ha, State.claimCommand, State.taking_run _ _ _ h0 ht, hgate]
      · push Not at ha
        obtain ⟨t, d, found, stamp, need, rfl⟩ := ha
        have hx : exec (.admitClaim t d found stamp need) s = .next (s.taking (.admitClaim t d found stamp need) fun s =>
          (s.atLeaseManager (.admitClaim t d found stamp need) (leaseTake (.admitClaim t d found stamp need))).releaseHeldBack) := rfl
        rw [hx, State.taking_run _ _ _ h0 ht, hgate]
        refine congrArg _ (State.releaseHeldBack_stays (i := .admitClaim t d found stamp need) rfl ?_)
        have hblocked : (((s.arrive (.admitClaim t d found stamp need)).setHeldBack [.admitClaim t d found stamp need]).setHeldBack
            []).leaseBlocked (.admitClaim t d found stamp need) = true :=
          (State.leaseBlocked_iff _ _).2 (.inl ⟨c, hr, .inl hi⟩)
        simp [State.staysHeld, hblocked]
    · rw [exec_leaseChannel hp hi, State.leaseCommand, State.hostRequest_passed s i r _ hp,
        State.atLeaseManager_blocked (heldBackBecause_taken i r hbecause)]
      simp [hb]

end Sys2Proof.Machine

/-! ENERGIZE, its answers and the service passes (Chapter 3). -/

namespace Sys2Proof.Machine

open Sys2Proof.Safety

/-! ### The judgement of an ENERGIZE -/

/-- An ENERGIZE for a channel whose admission awaits an answer is held back (R59). -/
theorem State.energizeBlocked_iff (s : State) (c : Channel) : s.energizeBlocked c = true ↔
    s.inHand c ≠ none ∨ ∃ t k, (s.pass t).claim = some k ∧ k.channel = c := by
  simp [State.energizeBlocked, Option.any_eq_true, Option.isSome_iff_ne_none]

/-- ENERGIZE from a port, its index in range, in SERVICE phase (R55). -/
theorem State.takeEnergize_channel {s : State} (h : s.config.phase = .SERVICE) (r : Req) (c : Channel) :
    s.takeEnergize r (BitVec.ofNat 8 c.val) =
      if s.energizeBlocked c then s.setWaiting (s.waiting ++ [.energize r (BitVec.ofNat 8 c.val)])
      else if (s.chan c).state = .FREE then s.answerEnergize (.port r.port) c .STATE .FREE none
      else if s.isHolder r.port c then s.judgeEnergize (.port r.port) c
      else s.answerEnergize (.port r.port) c .NOT_PERMITTED (s.chan c).state none := by
  simp [State.takeEnergize, h]

/-- Check 5 of R55 in FAULTED. -/
theorem State.judgeEnergize_faulted {s : State} {c : Channel} (h : (s.chan c).state = .FAULTED) (src : EnergizeSource) :
    s.judgeEnergize src c = s.answerEnergize src c .FAULTED (s.chan c).state none := by
  rw [State.judgeEnergize, h]

/-- Check 5 of R55 in a state that the ENERGIZE leaves as it is. -/
theorem State.judgeEnergize_kept {s : State} {c : Channel}
    (h : (s.chan c).state = .QUEUED ∨ isDriven (s.chan c).state = true ∨ (s.chan c).state = .INHIBITED) (src : EnergizeSource) :
    s.judgeEnergize src c = s.answerEnergize src c .OK (s.chan c).state none := by
  rw [State.judgeEnergize]
  cases hs : (s.chan c).state <;> simp_all [isDriven]

/-- Check 5 of R55 in IDLE and SHED. -/
theorem State.judgeEnergize_arrival {s : State} {c : Channel} {found : Found} (hf : found ≠ .QUEUED)
    (h : (s.chan c).state = foundState found) (src : EnergizeSource) : s.judgeEnergize src c = s.arrival src c found := by
  rw [State.judgeEnergize, h]
  cases found with
  | IDLE => rfl
  | SHED => rfl
  | QUEUED => exact absurd rfl hf

/-- A passed ENERGIZE of a port. -/
theorem exec_energize {r : Req} {b : Byte} {s : State} (h : Passed s (.energize r b) r) :
    exec (.energize r b) s = .next ((taken s (.energize r b) r).takeEnergize r b) := by
  have hx : exec (.energize r b) s = .next (s.hostRequest (.energize r b) fun s => s.takeEnergize r b) := rfl
  rw [hx, State.hostRequest_passed s _ r _ h]

/-- An ENERGIZE of the Line Unit. -/
theorem exec_lineEnergize {c : Channel} {h : Holder} {resumed : Bool} {s : State} (h0 : s.inReset = false) :
    exec (.lineEnergize c h resumed) s = .next ((s.arrive (.lineEnergize c h resumed)).takeLineEnergize c h resumed) := by
  have hx : exec (.lineEnergize c h resumed) s
    = .next (s.taking (.lineEnergize c h resumed) fun s => s.takeLineEnergize c h resumed) := rfl
  rw [hx, State.taking_run _ _ _ h0 (inTurn_free rfl)]

/-- A held channel is not FREE, where it is judged. -/
theorem not_free_of_kept {st : ChanState} (h : st = .QUEUED ∨ isDriven st = true ∨ st = .INHIBITED) : st ≠ .FREE := by
  rintro rfl
  simp [isDriven] at h

/-- Settles O33. -/
theorem energizeChecks : Obligations.EnergizeChecks := by
  refine ⟨fun r b s hp => ⟨fun hph => ?phase, fun hph hb => ?index⟩, fun r c s => ?port, fun c x resumed s h0 hb => ?line,
    fun c x resumed s h0 hb => ?waits, fun c s => s.energizeBlocked_iff c⟩
  case phase =>
    rw [exec_energize hp, State.takeEnergize, if_pos (by simp [hph])]
  case index =>
    rw [exec_energize hp, State.takeEnergize, if_neg (by simp [hph]), channelOf_none hb]
  case port =>
    intro i answer hp hph
    have h : (taken s i r).config.phase = .SERVICE := by simpa using hph
    have hx : exec i s = .next ((taken s i r).takeEnergize r (BitVec.ofNat 8 c.val)) := exec_energize hp
    rw [hx, State.takeEnergize_channel h]
    refine ⟨fun hb => ?held, fun hb => ?_⟩
    case held =>
      have hb' : (taken s i r).energizeBlocked c = true := hb
      rw [if_pos hb']
      rfl
    · have hb' : ¬ (taken s i r).energizeBlocked c = true := by
        have hsame : (taken s i r).energizeBlocked c = s.energizeBlocked c := rfl
        simp [hsame, hb]
      rw [if_neg hb']
      have hstate : (taken s i r).chan c = s.chan c := rfl
      have hholder : (taken s i r).isHolder r.port c = decide (s.holder c = some (.port r.port (s.viewOf r.port).epoch)) := rfl
      rw [hstate, hholder]
      refine ⟨fun hs => ?_, fun hs hh => ?_, fun hh hs => ?_, fun hh hs => ?_⟩
      · rw [if_pos hs, ← hs]
        rfl
      · rw [if_neg hs, if_neg (by simpa using hh)]
        rfl
      · rw [if_neg (by simp [hs]), if_pos (by simpa using hh), State.judgeEnergize_faulted (by simpa using hs)]
        rfl
      · rw [if_neg (not_free_of_kept hs), if_pos (by simpa using hh), State.judgeEnergize_kept (by simpa using hs)]
        rfl
  case line =>
    intro answer
    have hb' : (s.arrive (.lineEnergize c x resumed)).energizeBlocked c = false := hb
    rw [exec_lineEnergize h0, State.takeLineEnergize, if_neg (by simp [hb'])]
    refine ⟨fun hh => ?_, fun hh hs => ?_, fun hh hs => ?_⟩
    · rw [if_neg (by simpa using hh)]
      rfl
    · rw [if_pos (by simpa using hh), State.judgeEnergize_faulted (by simpa using hs)]
      rfl
    · rw [if_pos (by simpa using hh), State.judgeEnergize_kept (by simpa using hs)]
      rfl
  case waits =>
    have hb' : (s.arrive (.lineEnergize c x resumed)).energizeBlocked c = true := hb
    rw [exec_lineEnergize h0, State.takeLineEnergize, if_pos hb']
    rfl

/-! ### The arrival -/

/-- An ENERGIZE for a channel in IDLE or SHED of a configured trunk (R56, R57). -/
theorem State.arrival_configured {s : State} {c : Channel} {t : Trunk} {p : TrunkProfile} (ht : (s.chan c).trunk = some t)
    (hp : (s.trunk t).profile = some p) (src : EnergizeSource) (found : Found) : s.arrival src c found =
      if (s.trunk t).state = some .TRIPPED then s.answerEnergize src c .TRUNK_TRIPPED (s.chan c).state none
      else if p.rating < s.need c then s.answerEnergize src c .NO_HEADROOM (s.chan c).state none
      else if s.withheld c = true then (s.setInHand c (some ⟨src, found, .withhold⟩)).send (.withholdClaim c found)
      else if s.queue t ≠ [] then (s.setInHand c (some ⟨src, found, .entry⟩)).send (.queueEntryClaim c found)
      else (s.setInHand c (some ⟨src, found, .admission⟩)).send (.admissionClaim false t c (s.need c) (s.staged c)) := by
  unfold State.arrival
  rw [ht]
  simp only [profileField, hp]

/-- Permission is withheld in SERVICE while a VETO line bound to the channel is not high (R126). -/
theorem State.withheld_iff (s : State) (c : Channel) : s.withheld c = true ↔ s.config.phase = .SERVICE
    ∧ ∃ l, (s.line l).binding = .VETO c ∧ (s.line l).level ≠ some true := by
  simp [State.withheld, State.vetoedBy, LineRec.high]

/-- Settles O34. -/
theorem energizeArrival : Obligations.EnergizeArrival := by
  refine ⟨fun c found t p s ht hp hf hs hb => ?_, fun c s => ⟨fun x hx => ?_, fun hx => ?_, s.withheld_iff c, fun p => ?_⟩⟩
  · intro outcome
    have hnf : (s.chan c).state ≠ .FREE := by rw [hs]; cases found <;> simp [foundState]
    refine ⟨fun r => ?_, fun x resumed h0 hh => ?_⟩
    · intro i hpass hph hh
      have h : (taken s i r).config.phase = .SERVICE := by simpa using hph
      have hx : exec i s = .next ((taken s i r).takeEnergize r (BitVec.ofNat 8 c.val)) := exec_energize hpass
      have hb' : (taken s i r).energizeBlocked c = false := hb
      rw [hx, State.takeEnergize_channel h, if_neg (by simp [hb']), if_neg (by simpa using hnf),
        if_pos (by simpa [State.isHolder] using hh), State.judgeEnergize_arrival hf (by simpa using hs),
        State.arrival_configured (t := t) (p := p) (by simpa using ht) (by simpa using hp)]
      rfl
    · have hb' : (s.arrive (.lineEnergize c x resumed)).energizeBlocked c = false := hb
      rw [exec_lineEnergize h0, State.takeLineEnergize, if_neg (by simp [hb']), if_pos (by simpa using hh),
        State.judgeEnergize_arrival hf (by simpa using hs),
        State.arrival_configured (t := t) (p := p) (by simpa using ht) (by simpa using hp)]
      rfl
  · simp [State.need, State.staged, hx]
  · simp [State.need, State.staged, hx]
  · rw [State.permits, BitVec.getLsbD, Nat.testBit_eq_decide_div_mod_eq, decide_eq_true_eq]

/-! ### The answers -/

/-- What follows the answer that ends an ENERGIZE, with nothing held back. -/
theorem State.admissionSettled_nothing {u : State} (h : NothingHeld u) : u.admissionSettled = u := by
  obtain ⟨hb, hw⟩ := h
  rw [State.admissionSettled, State.releaseHeldBack_nil u hb]
  cases u
  cases hw
  rfl

/-- What follows the answer that ends an ENERGIZE, with no ENERGIZE held back. -/
theorem State.admissionSettled_noneWaiting {u : State} (h : u.waiting = []) : u.admissionSettled = u.releaseHeldBack := by
  have hw : u.releaseHeldBack.waiting = [] := by simpa using h
  rw [State.admissionSettled]
  generalize u.releaseHeldBack = v at hw ⊢
  cases v
  cases hw
  rfl

/-- Settles O35. -/
theorem energizeAnswers : Obligations.EnergizeAnswers := by
  refine ⟨fun t c need src found why s h0 hin => ?arrival, fun c t left n src found s h0 ht hin => ?entry,
    fun c left done src found s h0 hin => ?withhold, fun t c found need left src f s h0 hf hin => ?admission,
    fun u => ⟨rfl, State.admissionSettled_nothing, State.admissionSettled_noneWaiting, fun hb => ?settled⟩,
    fun r ch s hp => exec_energize hp, fun c x resumed s h0 => exec_lineEnergize h0,
    fun s p resumed c st x n => ⟨rfl, rfl, rfl, rfl⟩⟩
  case arrival =>
    have hx : ∀ why, exec (.arrivalAdmissionAnswer t c need why) s
      = .next ((s.arrive (.arrivalAdmissionAnswer t c need why)).takeArrivalAnswer t c need why) :=
      fun why => congrArg _ (State.taking_run _ _ _ h0 (inTurn_free rfl))
    have hin' : ∀ m, (s.arrive m).inHand c = some ⟨src, found, .admission⟩ := fun m => hin
    refine ⟨?_, ?_⟩
    · rw [hx, State.takeArrivalAnswer, hin']
      rfl
    · rw [hx, State.takeArrivalAnswer, hin']
  case entry =>
    have hx : ∀ ahead, exec (.queueEntryAnswer c left ahead) s
      = .next ((s.arrive (.queueEntryAnswer c left ahead)).takeEntryAnswer c left ahead) :=
      fun ahead => congrArg _ (State.taking_run _ _ _ h0 (inTurn_free rfl))
    have hin' : ∀ m, (s.arrive m).inHand c = some ⟨src, found, .entry⟩ := fun m => hin
    refine ⟨?_, ?_⟩
    · have hend : ∀ m, ((s.arrive m).endEnergize src c .ACCEPTED left (some n)).chan c = s.chan c
          ∧ ((s.arrive m).endEnergize src c .ACCEPTED left (some n)).queue t = s.queue t := by
        intro m
        unfold State.endEnergize State.answerEnergize
        cases src <;> exact ⟨rfl, rfl⟩
      rw [hx, State.takeEntryAnswer, hin']
      dsimp only
      rw [State.entryJoined, (hend _).1, ht]
      dsimp only
      rw [(hend _).2]
      rfl
    · rw [hx, State.takeEntryAnswer, hin']
      rfl
  case withhold =>
    have hx : exec (.withholdAnswer c left done) s
      = .next ((s.arrive (.withholdAnswer c left done)).takeWithholdAnswer c left done) :=
      congrArg _ (State.taking_run _ _ _ h0 (inTurn_free rfl))
    have hin' : ∀ m, (s.arrive m).inHand c = some ⟨src, found, .withhold⟩ := fun m => hin
    rw [hx, State.takeWithholdAnswer, hin']
    rfl
  case admission =>
    have hx : ∀ done, exec (.admitClaimAnswer t c found need left done) s
      = .next ((s.arrive (.admitClaimAnswer t c found need left done)).takeAdmitAnswer t c found need left done) :=
      fun done => congrArg _ (State.taking_run _ _ _ h0 (inTurn_free rfl))
    have hin' : ∀ m, (s.arrive m).inHand c = some ⟨src, f, .admitted⟩ := fun m => hin
    have htake : ∀ m done, (s.arrive m).takeAdmitAnswer t c found need left done =
        let answered := (s.arrive m).endEnergize src c (if done then .OK else .STATE) left none
        (if done then answered.send (.admissionConfirmation t c) else answered).admissionSettled := by
      intro m done
      unfold State.takeAdmitAnswer
      cases found with
      | QUEUED => exact absurd rfl hf
      | IDLE => dsimp only; rw [hin']
      | SHED => dsimp only; rw [hin']
    refine ⟨?_, ?_⟩
    · rw [hx, htake]
      rfl
    · rw [hx, htake]
      rfl
  case settled => rw [State.admissionSettled, State.releaseHeldBack_nil u hb]

/-! ### The service passes -/

/-- The offer of the head of a queue (R63, R70). -/
def State.offerEntry (u : State) (t : Trunk) (again : Bool) (e : Entry) : State :=
  if e.expired = true then u.updPass t fun _ => ⟨none, true⟩
  else (u.updPass t fun _ => ⟨some ⟨e.channel, u.need e.channel, .asked⟩, again⟩).send
    (.admissionClaim true t e.channel (u.need e.channel) (u.staged e.channel))

/-- The head of a queue is offered, with the mark as it stands. -/
theorem State.offerHead_cons {u : State} {t : Trunk} {e : Entry} {rest : List Entry} (hq : u.queue t = e :: rest) {again : Bool}
    (ha : (u.pass t).again = again) : u.offerHead t = u.offerEntry t again e := by
  unfold State.offerHead State.offerEntry
  rw [hq]
  dsimp only
  split
  · rfl
  · rw [State.updPass_congr u t (fun x => { x with claim := some ⟨e.channel, u.need e.channel, .asked⟩ })
      fun _ => ⟨some ⟨e.channel, u.need e.channel, .asked⟩, again⟩]
    rw [← ha]

/-- A pass starts with the head of the queue (R63). -/
theorem State.startPass_cons {u : State} {t : Trunk} {e : Entry} {rest : List Entry} (hq : u.queue t = e :: rest) :
    u.startPass t = u.offerEntry t false e := by
  have hq' : (u.updPass t fun _ => ⟨none, false⟩).queue t = e :: rest := hq
  rw [State.startPass, State.offerHead_cons hq' (again := false) (by simp)]
  unfold State.offerEntry
  split
  · rw [State.updPass_updPass]
  · rw [State.updPass_updPass]
    rfl

/-- A pass over an empty queue ends at once (R63). -/
theorem State.startPass_nil {u : State} {t : Trunk} (hq : u.queue t = []) : u.startPass t = u.updPass t fun _ => ⟨none, false⟩ := by
  rcases State.startPass_cases u t with ⟨-, h⟩ | ⟨e, rest, h, -⟩
  · exact h
  · rw [hq] at h
    cases h

/-- The pass goes on with the head as it stands, or ends with the queue empty (R64). -/
theorem State.continuePass_eq (u : State) (t : Trunk) : u.continuePass t = match u.queue t with
    | e :: _ => u.offerEntry t (u.pass t).again e
    | [] => u.updPass t fun _ => ⟨none, false⟩ := by
  unfold State.continuePass
  cases hq : u.queue t with
  | cons e rest => rw [if_neg (by simp), State.offerHead_cons hq rfl]
  | nil =>
    rw [if_pos rfl, State.endPass]
    split
    · rw [State.startPass_nil hq]
    · rfl

/-- Settles O36. -/
theorem servicePass : Obligations.ServicePass := by
  intro t s h0 offer
  refine ⟨fun waits hp => ?start, fun u => ⟨State.startPass_nil, fun e rest hq => State.startPass_cons hq⟩,
    fun k again hp => ?marked, fun c n need again hp => ?answer, fun c n stage again need left done hp hst => ?admitted⟩
  case start =>
    have hx : exec (.serviceEvent t) s = .next ((s.arrive (.serviceEvent t)).startPass t) := by
      have he : exec (.serviceEvent t) s = .next (s.taking (.serviceEvent t) fun s => s.takeServiceEvent t) := rfl
      have hn : ¬ ((s.arrive (.serviceEvent t)).pass t).claim.isSome = true := by simp [hp]
      rw [he, State.taking_run _ _ _ h0 (inTurn_free rfl), State.takeServiceEvent, if_neg hn]
    rw [hx]
    refine ⟨fun hq => ?_, fun e rest hq => ?_⟩
    · rw [State.startPass_nil (u := s.arrive (.serviceEvent t)) hq]
    · rw [State.startPass_cons (u := s.arrive (.serviceEvent t)) hq]
      rfl
  case marked =>
    have he : exec (.serviceEvent t) s = .next (s.taking (.serviceEvent t) fun s => s.takeServiceEvent t) := rfl
    rw [he, State.taking_run _ _ _ h0 (inTurn_free rfl), State.takeServiceEvent, if_pos (by simp [hp]),
      State.updPass_congr _ t _ fun _ => ⟨some k, true⟩]
    simp [hp]
  case answer =>
    have hx : ∀ why, exec (.passAdmissionAnswer t c need why) s
      = .next ((s.arrive (.passAdmissionAnswer t c need why)).takePassAnswer t c need why) :=
      fun why => congrArg _ (State.taking_run _ _ _ h0 (inTurn_free rfl))
    have hp' : ∀ m, (s.arrive m).pass t = ⟨some ⟨c, n, .asked⟩, again⟩ := fun m => hp
    refine ⟨?_, fun why => ?_⟩
    · rw [hx, State.takePassAnswer, hp']
      dsimp only
      rw [if_pos rfl, State.updPass_congr _ t _ fun _ => ⟨some ⟨c, n, .sent⟩, again⟩]
      · rfl
      · rw [hp']
    · rw [hx, State.takePassAnswer, hp']
      dsimp only
      rw [if_pos rfl, State.endPass, hp']
      refine congrArg (fun v : State => Host.Outcome.next v.admissionSettled) ?_
      cases again with
      | false => rfl
      | true =>
        dsimp only
        rw [if_pos rfl]
        cases hq : s.queue t with
        | nil => exact State.startPass_nil (u := s.arrive (.passAdmissionAnswer t c need (some why))) hq
        | cons e rest => exact State.startPass_cons (u := s.arrive (.passAdmissionAnswer t c need (some why))) hq
  case admitted =>
    have hx : exec (.admitClaimAnswer t c .QUEUED need left done) s
      = .next ((s.arrive (.admitClaimAnswer t c .QUEUED need left done)).takeAdmitAnswer t c .QUEUED need left done) :=
      congrArg _ (State.taking_run _ _ _ h0 (inTurn_free rfl))
    have hp' : ∀ m, (s.arrive m).pass t = ⟨some ⟨c, n, stage⟩, again⟩ := fun m => hp
    rw [hx, State.takeAdmitAnswer]
    dsimp only
    rw [hp']
    dsimp only
    rw [if_pos ⟨rfl, hst⟩, State.continuePass_eq]
    refine congrArg (fun v : State => Host.Outcome.next v.admissionSettled) ?_
    have hsame : ∀ v : State, v = (if done then (((s.arrive (.admitClaimAnswer t c .QUEUED need left done)).postGranted c need left).send
        (.admissionConfirmation t c)) else s.arrive (.admitClaimAnswer t c .QUEUED need left done)) →
        v.queue t = s.queue t ∧ v.pass t = s.pass t := by
      rintro v rfl
      unfold State.postGranted
      split
      · split <;> simp
      · exact ⟨rfl, rfl⟩
    obtain ⟨hq, hpass⟩ := hsame _ rfl
    rw [hq, hpass, hp]
    rfl

end Sys2Proof.Machine

/-! The Budget Unit: reservation claims, trip answers, the trunk profile claim and TRUNK CLEAR (1.2, 1.5, 5.6, 5.7). -/

namespace Sys2Proof.Machine

open Sys2Proof.Safety

/-! ### Reservation claims -/

/-- An admission claim for a channel with nothing charged (R14). -/
theorem State.takeAdmission_eq {s : State} {c : Channel} (hc : (s.acct c).charged = none) {need : Nat} (hn : 0 < need) (pass : Bool)
    (t : Trunk) (staged : Bool) : s.takeAdmission pass t c need staged =
      match (s.trunk t).profile with
      | none => s.send (admissionAnswer pass t c need (some .notNormal))
      | some p =>
        if (s.trunk t).state ≠ some .NORMAL then s.send (admissionAnswer pass t c need (some .notNormal))
        else if p.rating < (s.trunk t).reserved + need then s.send (admissionAnswer pass t c need (some .noHeadroom))
        else if staged = true ∧ (s.trunk t).slot ≠ none then s.send (admissionAnswer pass t c need (some .slotOccupied))
        else ((s.updTrunk t fun r => { r with
            reserved := r.reserved + need, slot := if staged then some c else r.slot }).updAcct c fun a =>
              { a with reservation := need, charged := some t }).send (admissionAnswer pass t c need none) := by
  have hcharge : s.charge c t need = (s.updTrunk t fun r => { r with reserved := r.reserved + need }).updAcct c
      fun a => { a with reservation := need, charged := some t } := by
    unfold State.charge
    rw [hc]
    simp only [show need ≠ 0 by omega, if_false]
  unfold State.takeAdmission TrunkRec.admissionRefusal
  cases hp : (s.trunk t).profile with
  | none => rfl
  | some p =>
    dsimp only
    by_cases hs : (s.trunk t).state ≠ some .NORMAL
    · rw [if_pos hs, if_pos hs]
    rw [if_neg hs, if_neg hs]
    by_cases hr : p.rating < (s.trunk t).reserved + need
    · rw [if_pos hr, if_pos hr]
    rw [if_neg hr, if_neg hr]
    simp only [Option.isSome_iff_ne_none]
    by_cases ho : staged = true ∧ (s.trunk t).slot ≠ none
    · rw [if_pos ho, if_pos ho]
    rw [if_neg ho, if_neg ho]
    dsimp only
    rw [hcharge]
    cases staged with
    | false => rfl
    | true =>
      have hswap : ∀ (u : State) (f : TrunkRec → TrunkRec) (g : Account → Account),
          (u.updAcct c g).updTrunk t f = (u.updTrunk t f).updAcct c g := fun _ _ _ => rfl
      rw [if_pos rfl, hswap, State.updTrunk_updTrunk]
      rfl

/-- Settles O42. -/
theorem reservationClaims : Obligations.ReservationClaims := by
  refine ⟨fun pass t c need staged s h0 hc hn => ?admission, fun c s h0 => ⟨fun hc => ?none, fun t hc => ?returned⟩,
    fun c s h0 => ⟨fun t l hc hl hpos => ?lowered, fun hc => ?nothing⟩⟩
  case admission =>
    have hx : exec (.admissionClaim pass t c need staged) s
      = .next ((s.arrive (.admissionClaim pass t c need staged)).takeAdmission pass t c need staged) :=
      congrArg _ (State.taking_run _ _ _ h0 (inTurn_free rfl))
    rw [hx, State.takeAdmission_eq (by simpa using hc) hn]
    rfl
  case none =>
    have hx : exec (.returnClaim c) s = .next ((s.arrive (.returnClaim c)).returnCharge c) :=
      congrArg _ (State.taking_run _ _ _ h0 (inTurn_free rfl))
    have hc' : ((s.arrive (.returnClaim c)).acct c).charged = none := hc
    rw [hx, State.returnCharge, hc']
  case returned =>
    have hx : exec (.returnClaim c) s = .next ((s.arrive (.returnClaim c)).returnCharge c) :=
      congrArg _ (State.taking_run _ _ _ h0 (inTurn_free rfl))
    rw [hx, State.returnCharge_eq]
    simp only [returned, returnedTrunks, returnedAccounts, returnEvents, State.arrive_reads, hc]
    by_cases hs : (s.trunk t).slot = some c
    · simp only [hs, if_true]
      simp [State.updTrunk, State.updAcct, State.send, State.setInFlight, State.arrive]
      exact ⟨rfl, rfl⟩
    · simp only [hs, if_false]
      rfl
  case lowered =>
    have hx : exec (.completionLowering c) s = .next (if ((s.arrive (.completionLowering c)).acct c).charged.isSome then
        (s.arrive (.completionLowering c)).lowerCharge c else s.arrive (.completionLowering c)) :=
      congrArg _ (State.taking_run _ _ _ h0 (inTurn_free rfl))
    have hc' : ((s.arrive (.completionLowering c)).acct c).charged = some t := hc
    have hd : (s.arrive (.completionLowering c)).declared c = l.declared := by simp [State.declared, hl]
    rw [hx, hc', Option.isSome_some, if_pos rfl, State.lowerCharge_eq _ c t (.inl hc'), hd, if_neg (show l.declared ≠ 0 by omega)]
    simp only [State.arrive_reads]
    by_cases hlow : l.declared < (s.acct c).reservation
    · by_cases hs : (s.trunk t).slot = some c
      · simp only [hlow, hs, if_true]
        rfl
      · simp only [hlow, hs, if_true, if_false, List.append_nil]
        rfl
    · by_cases hs : (s.trunk t).slot = some c
      · simp only [hlow, hs, if_true, if_false, List.append_nil]
        rfl
      · simp only [hlow, hs, if_false, List.append_nil]
        rfl
  case nothing =>
    have hx : exec (.completionLowering c) s = .next (if ((s.arrive (.completionLowering c)).acct c).charged.isSome then
        (s.arrive (.completionLowering c)).lowerCharge c else s.arrive (.completionLowering c)) :=
      congrArg _ (State.taking_run _ _ _ h0 (inTurn_free rfl))
    have hc' : ((s.arrive (.completionLowering c)).acct c).charged = none := hc
    rw [hx, hc']
    rfl

/-! ### Trip answers -/

/-- No entry into TRIPPED awaits the channel. -/
theorem settleTrip_none {c : Channel} {l : List Trip} (h : ∀ x ∈ l, c ∉ x.awaited) : settleTrip c l = (l, none) := by
  induction l with
  | nil => rfl
  | cons x rest ih =>
    rw [settleTrip, if_neg (by simpa using h x (by simp)), ih fun y hy => h y (by simp [hy])]

/-- The oldest entry into TRIPPED that awaits the channel is told (R102; log entry 22). -/
theorem settleTrip_oldest {c : Channel} {older later : List Trip} {h : Nat} {aw : List Channel} (ho : ∀ x ∈ older, c ∉ x.awaited)
    (hc : c ∈ aw) : settleTrip c (older ++ ⟨h, aw⟩ :: later) =
      if aw.erase c = [] then (older ++ later, some h) else (older ++ ⟨h, aw.erase c⟩ :: later, none) := by
  induction older with
  | nil =>
    rw [List.nil_append, settleTrip, if_pos (by simpa using hc)]
    simp only [List.isEmpty_iff, List.nil_append]
  | cons x older ih =>
    rw [List.cons_append, settleTrip, if_neg (by simpa using ho x (by simp)), ih fun y hy => ho y (by simp [hy])]
    by_cases he : aw.erase c = [] <;> simp [he]

/-- A trunk record replaced by itself. -/
theorem State.updTrunk_id {s : State} {t : Trunk} {f : TrunkRec → TrunkRec} (h : f (s.trunk t) = s.trunk t) : s.updTrunk t f = s := by
  rw [State.updTrunk, updAt_same _ _ _ h]

/-- The ports of a trunk notice look at the channels and the port view. -/
theorem trunkPorts_congr {s u : State} (hc : u.channels = s.channels) (hv : u.portView = s.portView) (t : Trunk) :
    trunkPorts u t = trunkPorts s t := by
  have hchan : u.chan = s.chan := by funext d; simp [State.chan, hc]
  have hview : u.viewOf = s.viewOf := by funext q; simp [State.viewOf, hv]
  have hholder : u.holder = s.holder := by funext d; simp [State.holder, hchan]
  simp only [trunkPorts, hchan, hview, hholder]

/-- Settles O41. -/
theorem tripAnswersAndConfirmation : Obligations.TripAnswersAndConfirmation := by
  refine ⟨fun t c heat done s h0 => ?answer, fun t c s h0 => ?confirmation⟩
  case confirmation =>
    have hx : exec (.admissionConfirmation t c) s
      = .next ((s.arrive (.admissionConfirmation t c)).takeConfirmation t c) :=
      congrArg _ (State.taking_run _ _ _ h0 (inTurn_free rfl))
    rw [hx]
    rfl
  case answer =>
    intro told
    have hx : ∀ conf, exec (.tripClaimAnswer t c heat conf done) s
      = .next ((s.arrive (.tripClaimAnswer t c heat conf done)).takeTripAnswer t c heat conf done) :=
      fun conf => congrArg _ (State.taking_run _ _ _ h0 (inTurn_free rfl))
    have htrunk : ∀ m, (s.arrive m).trunk t = s.trunk t := fun m => rfl
    have htoldTrunk : ∀ u, (told u).trunk t = u.trunk t := by
      intro u
      simp only [told]
      split <;> simp
    refine ⟨?_, fun hn => ?_, fun older h aw later htrips ho hc => ⟨fun hrest => ?_, fun hlast => ?_⟩⟩
    · rw [hx, State.takeTripAnswer]
      rfl
    · rw [hx, State.takeTripAnswer, htrunk, settleTrip_none hn]
      dsimp only
      refine congrArg Host.Outcome.next ?_
      change (told _).updTrunk t _ = told _
      exact State.updTrunk_id (by rw [htoldTrunk, htrunk])
    · rw [hx, State.takeTripAnswer, htrunk, htrips, settleTrip_oldest ho hc, if_neg hrest]
      rfl
    · rw [hx, State.takeTripAnswer, htrunk, htrips, settleTrip_oldest ho hc, if_pos hlast]
      dsimp only
      rw [if_neg (by simp), State.postTripped, State.postTrunk_eq]
      have hports : ∀ u : State, u.channels = s.channels → u.portView = s.portView → trunkPorts u t = trunkPorts s t := by
        intro u hch hv
        have hchan : u.chan = s.chan := by funext d; simp [State.chan, hch]
        have hview : u.viewOf = s.viewOf := by funext q; simp [State.viewOf, hv]
        have hholder : u.holder = s.holder := by funext d; simp [State.holder, hchan]
        simp only [trunkPorts, hchan, hview, hholder]
      have htp := trunkPorts_congr (s := s) (u := (told (s.arrive (.tripClaimAnswer t c heat false done))).updTrunk t
        fun r => { r with trips := older ++ later }) (by simp only [told]; split <;> simp) (by simp only [told]; split <;> simp) t
      refine congrArg Host.Outcome.next ?_
      change State.setInFlight _ (_ ++ (trunkPorts ((told (s.arrive (.tripClaimAnswer t c heat false done))).updTrunk t
        fun r => { r with trips := older ++ later }) t).map _) = _
      rw [htp]
      rfl

/-! ### TRUNK CLEAR -/

/-- The sender is in the access mask of a channel whose profile names the trunk (R104). -/
theorem State.mayClear_iff (s : State) (p : Port) (t : Trunk) :
    s.mayClear p t = true ↔ ∃ c, (s.profile c).trunk = some t ∧ s.permits c p = true := by
  simp [State.mayClear]

/-- Settles O44. -/
theorem trunkClear : Obligations.TrunkClear := by
  refine ⟨fun r b s hp hb => ?index, fun r t s => ?clear⟩
  case index =>
    have hx : exec (.trunkClear r b) s = .next ((taken s (.trunkClear r b) r).takeTrunkClear r.port b) :=
      congrArg _ (State.hostRequest_passed s _ r _ hp)
    rw [hx, State.takeTrunkClear, trunkOf_none hb]
  case clear =>
    intro i hp
    have hx : exec i s = .next ((taken s i r).takeTrunkClear r.port (BitVec.ofNat 8 t.val)) :=
      congrArg _ (State.hostRequest_passed s i r _ hp)
    have hmay : (taken s i r).mayClear r.port t = false ↔ ¬ ∃ c, (s.profile c).trunk = some t ∧ s.permits c r.port = true := by
      rw [← Bool.not_eq_true, State.mayClear_iff]
      rfl
    rw [hx, State.takeTrunkClear, trunkOf_ofNat]
    dsimp only
    simp only [hmay, State.postTrunk_eq]
    rfl

end Sys2Proof.Machine

/-! The trunk profile claim, and shedding (1.2, 5.3, 5.4). -/

namespace Sys2Proof.Machine

open Sys2Proof.Safety

/-! ### The trunk profile claim -/

/-- The state that a profile claim derives, by the levels (R4). -/
theorem derivedState_eq (latch : Bool) (h : Nat) : derivedState latch h =
    if latch = true ∨ 1310720 ≤ h then .TRIPPED else if 1048576 ≤ h then .SHEDDING else if 524288 ≤ h then .WARM else .NORMAL := rfl

/-- What a trunk profile claim derives, with the answers that follow (R4, R93, R100). -/
def Derives (s : State) (t : Trunk) (new : TrunkProfile) (u : State) (answers : List Instr) : Prop :=
  let r := s.trunk t
  let derived := derivedState r.latch r.heat
  let replaced : TrunkRec := { r with profile := some new }
  u = { s with trunks := u.trunks, inFlight := u.inFlight, drivers := u.drivers }
    ∧ (∀ v, v ≠ t → u.trunk v = s.trunk v)
    ∧ (r.state = some derived → u.trunk t = { replaced with latch := decide (derived = .TRIPPED) }
      ∧ u.drivers = s.drivers ∧ u.inFlight = s.inFlight ++ answers)
    ∧ (r.state ≠ some derived → u.trunk t = enteredTrunk s t replaced derived
      ∧ (∀ c, u.driver c = enteredDrivers s t derived c) ∧ u.inFlight = s.inFlight ++ entryMessages s t replaced derived ++ answers)
    ∧ (u.trunk t).profile = some new ∧ (u.trunk t).heat = r.heat ∧ (u.trunk t).state = some derived
    ∧ ((u.trunk t).latch = true ↔ derived = .TRIPPED)

/-- A trunk's entry into a state looks at the channels, the admission counter and the record that it is given. -/
theorem enteredTrunk_congr {s u : State} (hc : u.channels = s.channels) (ha : u.admissions = s.admissions) (t : Trunk) (r : TrunkRec)
    (st : TrunkState) : enteredTrunk u t r st = enteredTrunk s t r st := by
  have hcand : u.candidate t = s.candidate t := State.candidate_congr t hc ha
  have hchan : u.chan = s.chan := by funext d; simp [State.chan, hc]
  have hd : drivenChannels u t = drivenChannels s t := by simp only [drivenChannels, hchan]
  cases st <;> simp only [enteredTrunk, hcand, hd]

theorem entryMessages_congr {s u : State} (hc : u.channels = s.channels) (ha : u.admissions = s.admissions)
    (hv : u.portView = s.portView) (t : Trunk) (r : TrunkRec) (st : TrunkState) : entryMessages u t r st = entryMessages s t r st := by
  have hcand : u.candidate t = s.candidate t := State.candidate_congr t hc ha
  have hchan : u.chan = s.chan := by funext d; simp [State.chan, hc]
  have hd : drivenChannels u t = drivenChannels s t := by simp only [drivenChannels, hchan]
  have hp : trunkPorts u t = trunkPorts s t := trunkPorts_congr hc hv t
  cases st <;> simp only [entryMessages, hcand, hd, hp]

/-- The derivation of a replaced profile, and the answers behind it. -/
theorem State.derive_derives (s : State) (t : Trunk) (new : TrunkProfile) (answers : List Instr) :
    let w := (s.updTrunk t fun r => { r with profile := some new }).derive t
    Derives s t new (w.setInFlight (w.inFlight ++ answers)) answers := by
  intro w
  let v := s.updTrunk t fun r => { r with profile := some new }
  have hv : v.trunk t = { s.trunk t with profile := some new } := State.updTrunk_self _ _ _
  have hlatch : (v.trunk t).latch = (s.trunk t).latch := by rw [hv]
  have hheat : (v.trunk t).heat = (s.trunk t).heat := by rw [hv]
  have hw : w = v.derive t := rfl
  by_cases hst : (s.trunk t).state = some (derivedState (s.trunk t).latch (s.trunk t).heat)
  · have hkept : w = s.updTrunk t fun r => { { r with profile := some new } with
        latch := decide (derivedState (s.trunk t).latch (s.trunk t).heat = .TRIPPED) } := by
      rw [hw, State.derive, hlatch, hheat]
      rw [if_pos (by rw [hv]; exact hst), State.updTrunk_updTrunk]
    rw [hkept]
    refine ⟨rfl, fun k hk => State.updTrunk_ne _ _ _ _ hk, fun _ => ⟨State.updTrunk_self _ _ _, rfl, rfl⟩, fun h => absurd hst h, ?_⟩
    have hself : ∀ l, ((s.updTrunk t fun r => { { r with profile := some new } with
        latch := decide (derivedState (s.trunk t).latch (s.trunk t).heat = .TRIPPED) }).setInFlight l).trunk t
        = { { s.trunk t with profile := some new } with
          latch := decide (derivedState (s.trunk t).latch (s.trunk t).heat = .TRIPPED) } := fun l => State.updTrunk_self _ _ _
    rw [hself]
    exact ⟨rfl, rfl, hst, by simp⟩
  · have hentered : w = v.enterState t (derivedState (s.trunk t).latch (s.trunk t).heat) := by
      rw [hw, State.derive, hlatch, hheat]
      rw [if_neg (by rw [hv]; exact hst)]
    have htrunk : ∀ k, w.trunk k = if k = t then enteredTrunk s t { s.trunk t with profile := some new }
        (derivedState (s.trunk t).latch (s.trunk t).heat) else s.trunk k := by
      intro k
      rw [hentered, State.enterState_trunk, hv, enteredTrunk_congr (s := s) (u := v) rfl rfl]
      split
      · rfl
      · exact State.updTrunk_ne _ _ _ _ ‹_›
    have hself := htrunk t
    rw [if_pos rfl] at hself
    have heq := v.enterState_eq t (derivedState (s.trunk t).latch (s.trunk t).heat)
    rw [← hentered] at heq
    have hflight : w.inFlight = s.inFlight ++ entryMessages s t { s.trunk t with profile := some new }
        (derivedState (s.trunk t).latch (s.trunk t).heat) := by
      rw [heq, hv, entryMessages_congr (s := s) (u := v) rfl rfl rfl]
      rfl
    refine ⟨?_, fun k hk => ?_, fun h => absurd h hst, fun _ => ⟨hself, fun c => ?_, ?_⟩, ?_⟩
    · have hrest : w = { s with trunks := w.trunks, inFlight := w.inFlight, drivers := w.drivers } := by
        conv_lhs => rw [heq]
        rw [heq]
        rfl
      conv_lhs => rw [hrest]
      rfl
    · exact (htrunk k).trans (if_neg hk)
    · have hdriver := v.enterState_driver t (derivedState (s.trunk t).latch (s.trunk t).heat) c
      rw [← hentered] at hdriver
      exact hdriver
    · simp only [State.setInFlight_inFlight, hflight]
    · have hsame : ∀ l, (w.setInFlight l).trunk t = w.trunk t := fun l => rfl
      rw [hsame, hself, enteredTrunk_profile, enteredTrunk_heat, enteredTrunk_state, enteredTrunk_latch]
      refine ⟨rfl, rfl, rfl, ?_⟩
      cases hl : (s.trunk t).latch with
      | true => simp [derivedState_latched]
      | false => simp

/-- Settles O43. -/
theorem trunkProfileClaim : Obligations.TrunkProfileClaim := by
  intro t new o s h0 ht r derived replaced flight derives
  have hx : exec (.trunkProfileClaim o t new) s
    = .next ((s.arrive (.trunkProfileClaim o t new)).takeTrunkProfile o t new) :=
    congrArg _ (State.taking_run _ _ _ h0 ht)
  have hderives : ∀ u answers, Derives (s.arrive (.trunkProfileClaim o t new)) t new u answers → derives u answers := by
    intro u answers h
    dsimp only [Derives] at h
    rw [enteredTrunk_congr (s := s) (u := s.arrive (.trunkProfileClaim o t new)) rfl rfl,
      entryMessages_congr (s := s) (u := s.arrive (.trunkProfileClaim o t new)) rfl rfl rfl] at h
    exact h
  refine ⟨fun q ho => ⟨_, hx, hderives _ _ ?_⟩, fun ho hlow => ?_, fun ho hrating hp => ⟨_, hx, hderives _ _ ?_⟩,
    fun ho hrating hp => ?_⟩
  · subst ho
    exact State.derive_derives _ t new [.responseReady q .OK []]
  · subst ho
    rw [hx, State.takeTrunkProfile]
    dsimp only
    rw [if_pos (by simpa using hlow)]
  · subst ho
    have hn : ¬ new.rating < ((s.arrive (.trunkProfileClaim .apply t new)).trunk t).reserved := by simpa using hrating
    have hp' : ¬ ((s.arrive (.trunkProfileClaim .apply t new)).trunk t).profile.isSome = true := by
      simpa using hp
    rw [State.takeTrunkProfile]
    dsimp only
    rw [if_neg hn, if_neg hp']
    have hd := State.derive_derives (s.arrive (.trunkProfileClaim .apply t new)) t new [.serviceEvent t, .applyAnswer true]
    simpa [State.serviceEvent, State.send, State.setInFlight] using hd
  · subst ho
    have hn : ¬ new.rating < ((s.arrive (.trunkProfileClaim .apply t new)).trunk t).reserved := by simpa using hrating
    have hp' : ((s.arrive (.trunkProfileClaim .apply t new)).trunk t).profile.isSome = true := hp
    rw [hx, State.takeTrunkProfile]
    dsimp only
    rw [if_neg hn, if_pos hp']
    rfl

end Sys2Proof.Machine

/-! Shedding: the choice, the shed interval, the answer to a shed claim (5.3, 5.4). -/

namespace Sys2Proof.Machine

open Sys2Proof.Safety

/-! ### The choice of a shed -/

/-- A channel is shed no later than another: of lower priority, or of the same and not admitted before it (R94). -/
def shedFirst (s : State) (c d : Channel) : Prop :=
  (s.chan c).priority < (s.chan d).priority ∨ ((s.chan c).priority = (s.chan d).priority ∧ s.age c ≤ s.age d)

theorem shedFirst_trans {s : State} {a b c : Channel} (h1 : shedFirst s a b) (h2 : shedFirst s b c) : shedFirst s a c := by
  unfold shedFirst at *
  omega

theorem State.shedBefore_iff (s : State) (a b : Channel) : s.shedBefore a b = true ↔ ¬ shedFirst s b a := by
  unfold shedFirst
  simp only [State.shedBefore, Bool.or_eq_true, Bool.and_eq_true, decide_eq_true_eq]
  omega

/-- Where a list is not empty one is chosen, and shed before none of the others. -/
theorem State.choose_some {s : State} {l : List Channel} {c : Channel} (h : s.choose l = some c) :
    c ∈ l ∧ ∀ d ∈ l, shedFirst s c d := by
  induction l generalizing c with
  | nil => cases h
  | cons a rest ih =>
    rw [State.choose] at h
    cases hb : s.choose rest with
    | none =>
      rw [hb] at h
      cases h
      have hnil : rest = [] := by
        cases rest with
        | nil => rfl
        | cons x l =>
          rw [State.choose] at hb
          split at hb
          · cases hb
          · split at hb <;> cases hb
      subst hnil
      exact ⟨by simp, by simp [shedFirst]⟩
    | some b =>
      rw [hb] at h
      dsimp only at h
      obtain ⟨hmem, hfirst⟩ := ih hb
      split at h
      · next hlt =>
        cases h
        rw [State.shedBefore_iff] at hlt
        refine ⟨by simp [hmem], fun d hd => ?_⟩
        rcases List.mem_cons.1 hd with rfl | hd
        · unfold shedFirst at *
          omega
        · exact hfirst d hd
      · next hle =>
        cases h
        rw [State.shedBefore_iff, not_not] at hle
        refine ⟨by simp, fun d hd => ?_⟩
        rcases List.mem_cons.1 hd with rfl | hd
        · simp [shedFirst]
        · exact shedFirst_trans hle (hfirst d hd)

/-- None is chosen of an empty list alone. -/
theorem State.choose_none {s : State} {l : List Channel} (h : s.choose l = none) : l = [] := by
  cases l with
  | nil => rfl
  | cons a rest =>
    rw [State.choose] at h
    split at h
    · cases h
    · split at h <;> cases h

/-- The channels that a shed may choose from (R94). -/
theorem State.mem_candidates (s : State) (t : Trunk) (c : Channel) : c ∈ s.candidates t ↔
    (s.chan c).trunk = some t ∧ isDriven (s.chan c).state = true ∧ (s.chan c).priority ≤ 6 := by
  simp [State.candidates, State.drivenOn, and_assoc]

/-! ### One shed, and the sheds owed -/

/-- A message sent and a trunk record changed do not meet. -/
theorem State.send_updTrunk (s : State) (m : Instr) (t : Trunk) (f : TrunkRec → TrunkRec) :
    (s.send m).updTrunk t f = (s.updTrunk t f).send m := rfl

/-- A shed with one in hand is owed. -/
theorem State.makeShed_owed {s : State} {t : Trunk} {x : ShedInHand} (h : (s.trunk t).shedInHand = some x) (heat : Nat) :
    s.makeShed t heat = s.updTrunk t fun r => { r with owed := r.owed ++ [heat] } := by
  rw [State.makeShed, h, Option.isSome_some, if_pos rfl]

/-- Sheds with one in hand are owed, in their order. -/
theorem State.foldl_makeShed_owed (l : List Nat) {s : State} {t : Trunk} {x : ShedInHand} (h : (s.trunk t).shedInHand = some x) :
    l.foldl (fun s heat => s.makeShed t heat) s = s.updTrunk t fun r => { r with owed := r.owed ++ l } := by
  induction l generalizing s with
  | nil => exact (State.updTrunk_id (by simp)).symm
  | cons heat l ih =>
    rw [List.foldl_cons, State.makeShed_owed h, ih (by simpa using h), State.updTrunk_updTrunk]
    simp

/-- A shed with none in hand and no channel to choose does nothing. -/
theorem State.makeShed_nothing {s : State} {t : Trunk} (h : (s.trunk t).shedInHand = none) (hc : s.candidate t = none) (heat : Nat) :
    s.makeShed t heat = s := by
  rw [State.makeShed, h, hc]
  rfl

theorem State.foldl_makeShed_nothing (l : List Nat) {s : State} {t : Trunk} (h : (s.trunk t).shedInHand = none)
    (hc : s.candidate t = none) : l.foldl (fun s heat => s.makeShed t heat) s = s := by
  induction l with
  | nil => rfl
  | cons heat l ih => rw [List.foldl_cons, State.makeShed_nothing h hc, ih]

/-- A shed with none in hand and a channel to choose. -/
theorem State.makeShed_claim {s : State} {t : Trunk} {c : Channel} (h : (s.trunk t).shedInHand = none) (hc : s.candidate t = some c)
    (heat : Nat) :
    s.makeShed t heat = (s.updTrunk t fun r => { r with shedInHand := some ⟨c, heat, true⟩ }).send (.shedClaim t c) := by
  rw [State.makeShed, h, hc]
  rfl

/-- The sheds of a list, oldest first, with none in hand and none owed: one claim, and the rest owed (R96). -/
theorem State.foldl_makeShed {s : State} {t : Trunk} (l : List Nat) (h : (s.trunk t).shedInHand = none)
    (ho : (s.trunk t).owed = []) : l.foldl (fun s heat => s.makeShed t heat) s =
      match s.candidate t, l with
      | some c, heat :: rest =>
        (s.updTrunk t fun r => { r with shedInHand := some ⟨c, heat, true⟩, owed := rest }).send (.shedClaim t c)
      | _, _ => s := by
  cases hc : s.candidate t with
  | none => rw [State.foldl_makeShed_nothing l h hc]
  | some c =>
    cases l with
    | nil => rfl
    | cons heat rest =>
      have hin : (((s.updTrunk t fun r => { r with shedInHand := some ⟨c, heat, true⟩ }).send (.shedClaim t c)).trunk t).shedInHand
          = some ⟨c, heat, true⟩ := by simp
      rw [List.foldl_cons, State.makeShed_claim h hc, State.foldl_makeShed_owed rest hin]
      rw [State.send_updTrunk, State.updTrunk_updTrunk]
      dsimp only
      rw [State.updTrunk_congr s t _ fun r => { r with shedInHand := some ⟨c, heat, true⟩, owed := rest }]
      simp [ho]

/-- The sheds owed are made, with none in hand (R96). -/
theorem State.makeOwed_eq {s : State} {t : Trunk} (h : (s.trunk t).shedInHand = none) : s.makeOwed t =
    match s.candidate t, (s.trunk t).owed with
    | some c, heat :: rest =>
      (s.updTrunk t fun r => { r with shedInHand := some ⟨c, heat, true⟩, owed := rest }).send (.shedClaim t c)
    | _, _ => s.updTrunk t fun r => { r with owed := [] } := by
  have hcand : (s.updTrunk t fun r => { r with owed := [] }).candidate t = s.candidate t := State.candidate_congr t rfl rfl
  rw [State.makeOwed, State.foldl_makeShed _ (by simpa using h) (by simp), hcand]
  cases s.candidate t with
  | none => rfl
  | some c =>
    cases (s.trunk t).owed with
    | nil => rfl
    | cons heat rest => dsimp only; rw [State.updTrunk_updTrunk]

/-- A new choice, and then the sheds owed, with none in hand (R95, R96). -/
theorem State.makeShed_makeOwed {s : State} {t : Trunk} (h : (s.trunk t).shedInHand = none) (heat : Nat) :
    (s.makeShed t heat).makeOwed t =
      match s.candidate t with
      | some c => (s.updTrunk t fun r => { r with shedInHand := some ⟨c, heat, true⟩, owed := (s.trunk t).owed }).send (.shedClaim t c)
      | none => s.updTrunk t fun r => { r with owed := [] } := by
  cases hc : s.candidate t with
  | none =>
    rw [State.makeShed_nothing h hc, State.makeOwed_eq h, hc]
  | some c =>
    have hin : ((((s.updTrunk t fun r => { r with shedInHand := some ⟨c, heat, true⟩ }).send (.shedClaim t c)).updTrunk t
        fun r => { r with owed := [] }).trunk t).shedInHand = some ⟨c, heat, true⟩ := by simp
    rw [State.makeShed_claim h hc, State.makeOwed]
    dsimp only
    rw [State.foldl_makeShed_owed _ hin, State.send_updTrunk, State.send_updTrunk, State.updTrunk_updTrunk, State.updTrunk_updTrunk,
      State.updTrunk_congr s t _ fun r => { r with shedInHand := some ⟨c, heat, true⟩, owed := (s.trunk t).owed }]
    simp

/-! ### The shed interval -/

/-- The shed interval expiry with none in hand (R96). -/
theorem State.shedExpiry_free {s : State} {t : Trunk} {last : Nat} (hl : (s.trunk t).lastShed = some last)
    (h : (s.trunk t).shedInHand = none) : s.shedExpiry t =
      if (s.trunk t).heat < last then s.updTrunk t fun r => { r with shedTimer := some 20000 }
      else match s.candidate t with
        | none => s.updTrunk t fun r => { r with shedTimer := some 20000, lastShed := some (s.trunk t).heat }
        | some c => (s.updTrunk t fun r => { r with
            shedTimer := some 20000, lastShed := some (s.trunk t).heat, shedInHand := some ⟨c, (s.trunk t).heat, true⟩ }).send
            (.shedClaim t c) := by
  have hcand : (s.updTrunk t fun r => { r with shedTimer := some Config.shedInterval, lastShed := some (s.trunk t).heat }).candidate t
      = s.candidate t := State.candidate_congr t rfl rfl
  rw [State.shedExpiry, hl]
  dsimp only
  by_cases hlt : (s.trunk t).heat < last
  · rw [if_neg (by omega), if_pos hlt]
    rfl
  · rw [if_pos (by omega), if_neg hlt, State.updTrunk_updTrunk]
    cases hc : s.candidate t with
    | none => exact State.makeShed_nothing (by simpa using h) (hcand.trans hc) _
    | some c =>
      refine (State.makeShed_claim (by simpa using h) (hcand.trans hc) _).trans ?_
      rw [State.updTrunk_updTrunk]
      rfl

/-- The shed interval expiry with a shed in hand (R96). -/
theorem State.shedExpiry_inHand {s : State} {t : Trunk} {last : Nat} {x : ShedInHand} (hl : (s.trunk t).lastShed = some last)
    (h : (s.trunk t).shedInHand = some x) : s.shedExpiry t =
      if (s.trunk t).heat < last then s.updTrunk t fun r => { r with shedTimer := some 20000 }
      else s.updTrunk t fun r => { r with
        shedTimer := some 20000, lastShed := some (s.trunk t).heat, owed := r.owed ++ [(s.trunk t).heat] } := by
  rw [State.shedExpiry, hl]
  dsimp only
  by_cases hlt : (s.trunk t).heat < last
  · rw [if_neg (by omega), if_pos hlt]
    rfl
  · rw [if_pos (by omega), if_neg hlt, State.updTrunk_updTrunk, State.makeShed_owed (x := x) (by simpa using h),
      State.updTrunk_updTrunk]
    rfl

/-- Settles O40. -/
theorem shedding : Obligations.Shedding := by
  refine ⟨fun t s => ?choice, fun t last us s h0 hst htimer hlast hin => ?free, fun t s h0 hst => ?notTaken,
    fun t last us x s h0 hst htimer hlast hin => ?inHand, fun t c heat current done s h0 hin => ?answer⟩
  case choice =>
    intro may
    have hmay : ∀ c, c ∈ s.candidates t ↔ may c := s.mem_candidates t
    refine ⟨fun c hc => ?_, fun hn c hc => ?_, fun c x hx => ?_⟩
    · obtain ⟨hmem, hfirst⟩ := State.choose_some hc
      exact ⟨(hmay c).1 hmem, fun d hd => hfirst d ((hmay d).2 hd)⟩
    · have hmem := (hmay c).2 hc
      rw [State.choose_none hn] at hmem
      cases hmem
    · simp only [State.age, hx, BitVec.toNat_sub]
      have := x.isLt
      congr 1
      omega
  case free =>
    have hx : exec (.shedIntervalExpiry t) s = .next (if (s.trunk t).state = some .SHEDDING ∧ (s.trunk t).shedTimer.isSome then
      s.shedExpiry t else s) := congrArg _ (State.running_run _ _ h0)
    rw [hx, if_pos ⟨hst, by simp [htimer]⟩]
    exact congrArg Host.Outcome.next (State.shedExpiry_free hlast hin)
  case notTaken =>
    have hx : exec (.shedIntervalExpiry t) s = .next (if (s.trunk t).state = some .SHEDDING ∧ (s.trunk t).shedTimer.isSome then
      s.shedExpiry t else s) := congrArg _ (State.running_run _ _ h0)
    rw [hx, if_neg fun h => hst h.1]
  case inHand =>
    have hx : exec (.shedIntervalExpiry t) s = .next (if (s.trunk t).state = some .SHEDDING ∧ (s.trunk t).shedTimer.isSome then
      s.shedExpiry t else s) := congrArg _ (State.running_run _ _ h0)
    rw [hx, if_pos ⟨hst, by simp [htimer]⟩, State.shedExpiry_inHand hlast hin]
  case answer =>
    intro ended told
    have hx : exec (.shedAnswer t c done) s = .next ((s.arrive (.shedAnswer t c done)).takeShedAnswer t c done) :=
      congrArg _ (State.taking_run _ _ _ h0 (inTurn_free rfl))
    have hin' : ((s.arrive (.shedAnswer t c done)).trunk t).shedInHand = some ⟨c, heat, current⟩ := hin
    have hst : ((s.arrive (.shedAnswer t c done)).trunk t).state = (s.trunk t).state := rfl
    have htake : (s.arrive (.shedAnswer t c done)).takeShedAnswer t c done =
        let answered := if done then told
          else if current = true ∧ (s.trunk t).state = some .SHEDDING then ended.makeShed t heat else ended
        if (s.trunk t).state = some .SHEDDING then answered.makeOwed t else answered := by
      rw [State.takeShedAnswer, hin', hst]
      dsimp only
      rw [if_pos rfl]
      simp only [told, ended]
      cases done <;> rfl
    rw [hx, htake]
    refine ⟨fun hs => ?_, fun hs => ?_⟩
    · dsimp only
      rw [if_neg hs]
      cases done with
      | true => rfl
      | false =>
        rw [if_neg (by simp), if_neg fun h => hs h.2]
        rfl
    · have hfree : (told.trunk t).shedInHand = none := by
        simp only [told, ended]
        split <;> simp
      have howed : (told.trunk t).owed = (s.trunk t).owed := by
        simp only [told, ended]
        split <;> simp
      have hcand : told.candidate t = s.candidate t :=
        State.candidate_congr t (by simp only [told, ended]; split <;> simp) (by simp only [told, ended]; split <;> simp)
      dsimp only
      rw [if_pos hs]
      refine congrArg Host.Outcome.next ?_
      by_cases hnew : done = false ∧ current = true
      · obtain ⟨hd, hc⟩ := hnew
        have htold : told = ended := by simp only [told, hd]; rfl
        rw [if_neg (by simp [hd]), if_pos ⟨hc, hs⟩, ← htold, State.makeShed_makeOwed hfree, hcand, howed, if_pos ⟨hd, hc⟩]
        cases s.candidate t <;> rfl
      · have hanswered : (if done = true then told
            else if current = true ∧ (s.trunk t).state = some .SHEDDING then ended.makeShed t heat else ended) = told := by
          cases done with
          | true => rfl
          | false =>
            rw [if_neg (by simp), if_neg fun h => hnew ⟨rfl, h.1⟩]
            rfl
        rw [hanswered, State.makeOwed_eq hfree, hcand, howed, if_neg hnew]
        rfl

end Sys2Proof.Machine

/-! The transition of a trunk at its budget interval, and the overdraw check (1.3, 1.4, 1.6). -/

namespace Sys2Proof.Machine

open Sys2Proof.Safety

/-! ### The overdraw check of one channel -/

/-- The check leaves every trunk record but its reserved sum. -/
theorem State.overdrawCheck_trunk (s : State) (t v : Trunk) (margin : Nat) (c : Channel) :
    ∃ n, (s.overdrawCheck t margin c).trunk v = { s.trunk v with reserved := n } := by
  unfold State.overdrawCheck State.overdrawRaise
  dsimp only
  split
  · split
    · exact ⟨_, rfl⟩
    · simp only [(State.postHolder_reads _ _ _ _).1, State.updAcct_trunk, State.charge_trunk]
      exact ⟨_, rfl⟩
  · exact ⟨_, rfl⟩

/-- The checks of several channels leave every trunk record but its reserved sum. -/
theorem State.overdrawChecks_trunk (l : List Channel) (s : State) (t v : Trunk) (margin : Nat) :
    ∃ n, (l.foldl (fun s c => s.overdrawCheck t margin c) s).trunk v = { s.trunk v with reserved := n } := by
  induction l generalizing s with
  | nil => exact ⟨_, rfl⟩
  | cons c l ih =>
    obtain ⟨n, hn⟩ := ih (s.overdrawCheck t margin c)
    obtain ⟨k, hk⟩ := s.overdrawCheck_trunk t v margin c
    exact ⟨n, by rw [List.foldl_cons, hn, hk]⟩

/-- A notice to the holder port comes behind what is in flight. -/
theorem State.postHolder_sends (s : State) (b : Block) (c : Channel) (n : Notice) : s.inFlight <+: (s.postHolder b c n).inFlight := by
  unfold State.postHolder
  split
  · exact List.prefix_append _ _
  · exact List.prefix_rfl

/-- What a check sends comes behind what is in flight. -/
theorem State.overdrawCheck_sends (s : State) (t : Trunk) (margin : Nat) (c : Channel) :
    s.inFlight <+: (s.overdrawCheck t margin c).inFlight := by
  have hcharge : ∀ u mA, s.inFlight <+: (s.charge c u mA).inFlight := by
    intro u mA
    unfold State.charge
    dsimp only
    split
    · exact List.prefix_rfl
    · exact iteInduction (motive := fun u : State => s.inFlight <+: u.inFlight) (fun _ => List.prefix_append _ _)
        fun _ => List.prefix_rfl
  unfold State.overdrawCheck State.overdrawRaise
  dsimp only
  split
  · split
    · exact List.prefix_rfl
    · refine (hcharge ((s.acct c).charged.getD t) (roundUp100 s.sense.current[c])).trans ?_
      exact State.postHolder_sends (State.updAcct _ c _) _ _ _
  · exact List.prefix_rfl

theorem State.overdrawChecks_sends (l : List Channel) (s : State) (t : Trunk) (margin : Nat) :
    s.inFlight <+: (l.foldl (fun s c => s.overdrawCheck t margin c) s).inFlight := by
  induction l generalizing s with
  | nil => exact List.prefix_rfl
  | cons c l ih => exact (s.overdrawCheck_sends t margin c).trans (ih _)

/-- The account after the check of its channel (R20, R21). -/
def checkedAcct (s : State) (t : Trunk) (margin : Nat) (c : Channel) : Account :=
  let a := s.acct c
  let sample := s.sense.current[c]
  if a.reservation * (100 + margin) < sample * 100 then
    if a.runCount + 1 < 16 then { a with runCount := a.runCount + 1 }
    else ⟨(sample + 99) / 100 * 100, some (a.charged.getD t), true, 0⟩
  else { a with runCount := 0 }

/-- The check changes the account of its channel alone. -/
theorem State.overdrawCheck_acct (s : State) (t : Trunk) (margin : Nat) (c d : Channel) :
    (s.overdrawCheck t margin c).acct d = if d = c then checkedAcct s t margin c else s.acct d := by
  have hself : ∀ f : Account → Account, (s.updAcct c f).acct d = if d = c then f (s.acct c) else s.acct d :=
    fun f => State.updAcct_get s c f d
  unfold State.overdrawCheck State.overdrawRaise checkedAcct overLimit
  simp only [decide_eq_true_eq]
  by_cases hover : (s.acct c).reservation * (100 + margin) < s.sense.current[c] * 100
  · rw [if_pos hover, if_pos hover]
    by_cases hrun : (s.acct c).runCount + 1 < 16
    · rw [if_pos (show (s.acct c).runCount + 1 < Config.overdrawRun from hrun), if_pos hrun, hself]
    · rw [if_neg (show ¬ (s.acct c).runCount + 1 < Config.overdrawRun from hrun), if_neg hrun,
        (State.postHolder_reads _ _ _ _).2.1, State.updAcct_get]
      have hpos : ¬ roundUp100 s.sense.current[c] = 0 := by unfold roundUp100; omega
      by_cases hd : d = c
      · rw [if_pos hd, if_pos hd, State.charge_acct, if_pos rfl, if_neg hpos]
        rfl
      · rw [if_neg hd, if_neg hd, State.charge_acct, if_neg hd]
  · rw [if_neg hover, if_neg hover, hself]

/-- A channel that is not checked keeps its account. -/
theorem State.overdrawChecks_acct_ne {l : List Channel} {c : Channel} (hc : c ∉ l) (s : State) (t : Trunk) (margin : Nat) :
    (l.foldl (fun s c => s.overdrawCheck t margin c) s).acct c = s.acct c := by
  induction l generalizing s with
  | nil => rfl
  | cons d l ih =>
    rw [List.mem_cons, not_or] at hc
    rw [List.foldl_cons, ih hc.2, State.overdrawCheck_acct, if_neg hc.1]

/-- The checks look at the samples and the channels, which they leave. -/
theorem State.overdrawChecks_frame (l : List Channel) (s : State) (t : Trunk) (margin : Nat) :
    let u := l.foldl (fun s c => s.overdrawCheck t margin c) s
    u.sense = s.sense ∧ u.channels = s.channels ∧ u.drivers = s.drivers := by
  induction l generalizing s with
  | nil => exact ⟨rfl, rfl, rfl⟩
  | cons c l ih => simpa using ih (s.overdrawCheck t margin c)

/-- A channel that is checked has the account of its check, whatever is checked beside it. -/
theorem State.overdrawChecks_acct {l : List Channel} {c : Channel} (hl : l.Nodup) (hc : c ∈ l) (s : State) (t : Trunk) (margin : Nat) :
    (l.foldl (fun s c => s.overdrawCheck t margin c) s).acct c = checkedAcct s t margin c := by
  induction l generalizing s with
  | nil => cases hc
  | cons d l ih =>
    rw [List.nodup_cons] at hl
    rw [List.foldl_cons]
    rcases List.mem_cons.1 hc with rfl | hmem
    · rw [State.overdrawChecks_acct_ne hl.1, State.overdrawCheck_acct, if_pos rfl]
    · have hne : c ≠ d := fun h => hl.1 (h ▸ hmem)
      rw [ih hl.2 hmem]
      unfold checkedAcct
      rw [State.overdrawCheck_acct, if_neg hne]
      simp

/-- The sixteenth sample above the limit is posted (R21). -/
theorem State.overdrawCheck_posts {s : State} {t : Trunk} {margin : Nat} {c : Channel} {q : Port}
    (hover : (s.acct c).reservation * (100 + margin) < s.sense.current[c] * 100) (hrun : 16 ≤ (s.acct c).runCount + 1)
    (hq : s.holderPort c = some q) :
    .noticeCopyTaken .budgetUnit q ⟨.OVERDRAW, .channel c, none, some (.current s.sense.current[c])⟩
      ∈ (s.overdrawCheck t margin c).inFlight := by
  have hholder : ∀ u : State, u.channels = s.channels → u.holderPort c = some q := by
    intro u hu
    have hsame : u.holderPort c = s.holderPort c := by simp [State.holderPort, State.holder, State.chan, hu]
    rw [hsame, hq]
  unfold State.overdrawCheck State.overdrawRaise overLimit
  simp only [decide_eq_true_eq]
  rw [if_pos hover, if_neg (show ¬ (s.acct c).runCount + 1 < Config.overdrawRun from by
    simp only [Config.overdrawRun]; omega)]
  unfold State.postHolder
  rw [hholder _ (by simp)]
  exact List.mem_append_right _ (List.mem_singleton_self _)

theorem State.overdrawChecks_posts {l : List Channel} {c : Channel} (hc : c ∈ l) (hl : l.Nodup) {s : State} {t : Trunk} {margin : Nat}
    {q : Port} (hover : (s.acct c).reservation * (100 + margin) < s.sense.current[c] * 100) (hrun : 16 ≤ (s.acct c).runCount + 1)
    (hq : s.holderPort c = some q) :
    .noticeCopyTaken .budgetUnit q ⟨.OVERDRAW, .channel c, none, some (.current s.sense.current[c])⟩
      ∈ (l.foldl (fun s c => s.overdrawCheck t margin c) s).inFlight := by
  induction l generalizing s with
  | nil => cases hc
  | cons d l ih =>
    rw [List.nodup_cons] at hl
    rw [List.foldl_cons]
    rcases List.mem_cons.1 hc with rfl | hmem
    · exact (State.overdrawChecks_sends l _ t margin).subset (State.overdrawCheck_posts hover hrun hq)
    · have hne : c ≠ d := fun h => hl.1 (h ▸ hmem)
      have hacct : (s.overdrawCheck t margin d).acct c = s.acct c := by rw [State.overdrawCheck_acct, if_neg hne]
      have hsense : (s.overdrawCheck t margin d).sense = s.sense := by simp
      have hholder : (s.overdrawCheck t margin d).holderPort c = s.holderPort c := by
        simp [State.holderPort, State.holder, State.chan]
      have h := ih (s := s.overdrawCheck t margin d) hmem hl.2 (by rw [hacct, hsense]; exact hover) (by rw [hacct]; exact hrun)
        (by rw [hholder, hq])
      rw [hsense] at h
      exact h

/-! ### The expiry of a configured trunk -/

/-- The state behind the heat and the transition (R6). -/
def State.moved (s : State) (t : Trunk) (st : TrunkState) : State :=
  let new := nextTrunkState st ((s.trunk t).nextHeat (s.trunkCurrent t))
  if new = st then s.heatStep t else (s.heatStep t).enterState t new

/-- The channels that the overdraw check looks at (R6). -/
def State.checked (s : State) (t : Trunk) (st : TrunkState) : List Channel :=
  let new := nextTrunkState st ((s.trunk t).nextHeat (s.trunkCurrent t))
  (s.onChannels t).filter fun c => !(if new = st then [] else (s.heatStep t).claimedAt t new).contains c

/-- The expiry of a configured trunk: heat, transition, checks (R6). -/
theorem State.budgetExpiry_eq {s : State} {t : Trunk} {p : TrunkProfile} {st : TrunkState} (hp : (s.trunk t).profile = some p)
    (hst : (s.trunk t).state = some st) :
    s.budgetExpiry t = (s.checked t st).foldl (fun s c => s.overdrawCheck t p.margin c) (s.moved t st) := by
  unfold State.budgetExpiry State.checked State.moved
  rw [hp, hst]
  dsimp only
  rw [State.heatStep_heat_self]

theorem State.checked_nodup (s : State) (t : Trunk) (st : TrunkState) : (s.checked t st).Nodup :=
  (channelsWhere_nodup _).filter _

/-- The transition leaves accounts, channels and samples. -/
theorem State.moved_frame (s : State) (t : Trunk) (st : TrunkState) :
    (s.moved t st).accounts = s.accounts ∧ (s.moved t st).channels = s.channels ∧ (s.moved t st).sense = s.sense := by
  unfold State.moved
  dsimp only
  split <;> simp

/-- The heat step changes heat and interval of its trunk. -/
theorem State.heatStep_trunk (s : State) (t v : Trunk) : (s.heatStep t).trunk v =
    if v = t then { s.trunk t with heat := (s.trunk t).nextHeat (s.trunkCurrent t), interval := 1000 } else s.trunk v :=
  State.updTrunk_get _ _ _ _

/-- The trunk records behind the transition. -/
theorem State.moved_trunk (s : State) (t v : Trunk) (st : TrunkState) : (s.moved t st).trunk v =
    let h := (s.trunk t).nextHeat (s.trunkCurrent t)
    let warmed : TrunkRec := { s.trunk t with heat := h, interval := 1000 }
    if v = t then (if nextTrunkState st h = st then warmed else enteredTrunk s t warmed (nextTrunkState st h)) else s.trunk v := by
  unfold State.moved
  dsimp only
  split
  · rw [State.heatStep_trunk]
  · rw [State.enterState_trunk, State.heatStep_trunk, State.heatStep_trunk, if_pos rfl,
      enteredTrunk_congr (s := s) (u := s.heatStep t) rfl rfl]
    by_cases hv : v = t
    · rw [if_pos hv, if_pos hv]
    · rw [if_neg hv, if_neg hv, if_neg hv]

/-- The messages behind the transition, and the drivers. -/
theorem State.moved_entered {s : State} {t : Trunk} {st : TrunkState}
    (h : nextTrunkState st ((s.trunk t).nextHeat (s.trunkCurrent t)) ≠ st) :
    let new := nextTrunkState st ((s.trunk t).nextHeat (s.trunkCurrent t))
    let warmed : TrunkRec := { s.trunk t with heat := (s.trunk t).nextHeat (s.trunkCurrent t), interval := 1000 }
    (s.moved t st).inFlight = s.inFlight ++ entryMessages s t warmed new
      ∧ ∀ c, (s.moved t st).driver c = enteredDrivers s t new c := by
  intro new warmed
  have hmoved : s.moved t st = (s.heatStep t).enterState t new := if_neg h
  have htrunk : (s.heatStep t).trunk t = warmed := by rw [State.heatStep_trunk, if_pos rfl]
  refine ⟨?_, fun c => ?_⟩
  · rw [hmoved, State.enterState_eq, htrunk, entryMessages_congr (s := s) (u := s.heatStep t) rfl rfl rfl]
    rfl
  · rw [hmoved, State.enterState_driver]
    rfl

/-- The next state of a trunk by the levels (Table 1-5). -/
theorem nextTrunkState_eq (st : TrunkState) (h : Nat) : nextTrunkState st h =
    if st = .TRIPPED then .TRIPPED
    else if 1310720 ≤ h then .TRIPPED
    else if st = .SHEDDING then (if 524288 ≤ h then .SHEDDING else .NORMAL)
    else if 1048576 ≤ h then .SHEDDING
    else if 524288 ≤ h then .WARM
    else .NORMAL := by
  cases st <;> rfl

/-- Settles O38. -/
theorem trunkTransition : Obligations.TrunkTransition := by
  intro t p st s h0 hp hst
  refine ⟨s.budgetExpiry t, exec_budgetIntervalExpiry t s h0, ?frame, fun v hv => ?others, ?_⟩
  case frame =>
    have hframe := s.budgetExpiry_frame t
    generalize s.budgetExpiry t = u at hframe
    cases u
    simp_all
  case others =>
    rw [State.budgetExpiry_eq hp hst]
    obtain ⟨n, hn⟩ := State.overdrawChecks_trunk (s.checked t st) (s.moved t st) t v p.margin
    have hm := s.moved_trunk t v st
    dsimp only at hm
    rw [if_neg hv] at hm
    rw [hn, hm]
  · intro h new warmed
    have hheat : h = (s.trunk t).nextHeat (s.trunkCurrent t) := s.budgetExpiry_heat_self t
    have hnew : new = nextTrunkState st ((s.trunk t).nextHeat (s.trunkCurrent t)) := by rw [nextTrunkState_eq, ← hheat]
    have hwarmed : warmed = { s.trunk t with heat := (s.trunk t).nextHeat (s.trunkCurrent t), interval := 1000 } := by
      rw [← hheat]
    have hrec : (s.budgetExpiry t).trunk t = { (if new = st then warmed else enteredTrunk s t warmed new) with
        reserved := ((s.budgetExpiry t).trunk t).reserved } := by
      rw [State.budgetExpiry_eq hp hst]
      obtain ⟨n, hn⟩ := State.overdrawChecks_trunk (s.checked t st) (s.moved t st) t t p.margin
      have hm := s.moved_trunk t t st
      dsimp only at hm
      rw [if_pos rfl, ← hnew, ← hwarmed] at hm
      rw [hn, hm]
    have hdrivers : ∀ c, (s.budgetExpiry t).driver c = (s.moved t st).driver c := by
      intro c
      rw [State.budgetExpiry_eq hp hst]
      have hd := (State.overdrawChecks_frame (s.checked t st) (s.moved t st) t p.margin).2.2
      simp only [State.driver, hd]
    have hsent : new ≠ st → ∀ m ∈ entryMessages s t warmed new, m ∈ (s.budgetExpiry t).inFlight := by
      intro hne m hm
      rw [State.budgetExpiry_eq hp hst]
      refine (State.overdrawChecks_sends _ _ _ _).subset ?_
      rw [(State.moved_entered (hnew ▸ hne)).1, ← hnew, ← hwarmed]
      exact List.mem_append_right _ hm
    have hentered : new ≠ st → (s.budgetExpiry t).trunk t = { enteredTrunk s t warmed new with
        reserved := ((s.budgetExpiry t).trunk t).reserved } := by
      intro hne
      rwa [if_neg hne] at hrec
    refine ⟨?_, hrec, fun hne => ⟨hsent hne, fun c => ?_⟩, fun he c => ?_, fun hne hs => ?_, fun hne hs => ?_⟩
    · by_cases he : new = st
      · rw [hrec, if_pos he, he]
        exact hst
      · rw [hrec, if_neg he]
        exact enteredTrunk_state _ _ _ _
    · rw [hdrivers, (State.moved_entered (hnew ▸ hne)).2, ← hnew]
    · have hmoved : s.moved t st = s.heatStep t := if_pos (hnew ▸ he)
      rw [hdrivers, hmoved]
      rfl
    · have hsent' := hsent hne
      rw [hentered hne, hs]
      rw [hs] at hsent'
      refine ⟨rfl, rfl, fun c hc hin => hsent' _ ?_⟩
      have hin' : warmed.shedInHand = none := hin
      simp [entryMessages, hin', hc]
    · have hsent' := hsent hne
      rw [hentered hne, hs]
      rw [hs] at hsent'
      refine ⟨rfl, rfl, hsent' _ ?_, fun c ht hd => hsent' _ ?_⟩
      · have hh : warmed.heat = h := rfl
        simp [entryMessages, hh]
      · have hh : warmed.heat = h := rfl
        simp [entryMessages, hh, drivenChannels, ht, hd]

/-- What the transition has claimed of the channels in ON (R6). -/
theorem State.mem_checked (s : State) (t : Trunk) (st : TrunkState) (c : Channel) :
    let new := nextTrunkState st ((s.trunk t).nextHeat (s.trunkCurrent t))
    c ∈ s.checked t st ↔ (s.chan c).trunk = some t ∧ (s.chan c).state = .ON ∧ ¬ (new ≠ st ∧ (new = .TRIPPED ∧ isDriven (s.chan c).state = true
      ∨ new = .SHEDDING ∧ (s.trunk t).shedInHand = none ∧ s.candidate t = some c)) := by
  intro new
  have hcand : (s.heatStep t).candidate t = s.candidate t := State.candidate_congr t rfl rfl
  have hin : ((s.heatStep t).trunk t).shedInHand = (s.trunk t).shedInHand := by simp [State.heatStep_trunk]
  have hdriven : (s.heatStep t).drivenOn t = s.drivenOn t := rfl
  have hclaimed : (s.chan c).trunk = some t → (c ∈ (if new = st then [] else (s.heatStep t).claimedAt t new) ↔
      new ≠ st ∧ (new = .TRIPPED ∧ isDriven (s.chan c).state = true
        ∨ new = .SHEDDING ∧ (s.trunk t).shedInHand = none ∧ s.candidate t = some c)) := by
    intro ht
    by_cases he : new = st
    · simp [he]
    · rw [if_neg he]
      cases hnew : new with
      | NORMAL => simp [State.claimedAt]
      | WARM => simp [State.claimedAt]
      | SHEDDING =>
        rw [hnew] at he
        rw [State.claimedAt, hcand, hin]
        cases hx : (s.trunk t).shedInHand with
        | some x => simp
        | none => simp [he]
      | TRIPPED =>
        rw [hnew] at he
        rw [State.claimedAt, hdriven]
        simp [State.drivenOn, ht, he]
  unfold State.checked State.onChannels
  simp only [List.mem_filter, mem_channelsWhere, Bool.and_eq_true, decide_eq_true_eq, Bool.not_eq_true', List.contains_eq_mem,
    decide_eq_false_iff_not, and_assoc]
  exact and_congr_right fun ht => and_congr_right fun _ => not_congr (hclaimed ht)

/-- Settles O39. -/
theorem overdrawCheck : Obligations.OverdrawCheck := by
  intro t p st s h0 hp hst new claimed
  refine ⟨s.budgetExpiry t, exec_budgetIntervalExpiry t s h0, fun c => ?_⟩
  intro a sample
  obtain ⟨haccounts, hchannels, hsense⟩ := s.moved_frame t st
  have hacct : (s.moved t st).acct c = a := by simp only [State.acct, haccounts]; rfl
  have hsample : (s.moved t st).sense.current[c] = sample := by rw [hsense]
  have hholder : (s.moved t st).holderPort c = s.holderPort c := by simp [State.holderPort, State.holder, State.chan, hchannels]
  rw [State.budgetExpiry_eq hp hst]
  refine ⟨fun hc => ?_, fun hc => ?_⟩
  · have hmem : c ∈ s.checked t st := (s.mem_checked t st c).2 hc
    rw [State.overdrawChecks_acct (s.checked_nodup t st) hmem]
    unfold checkedAcct
    rw [hacct, hsample]
    dsimp only
    refine ⟨fun hover hrun => ?_, fun hover hrun => ⟨?_, fun q hq => ?_⟩, fun hle => ?_⟩
    · rw [if_pos hover, if_pos hrun]
    · rw [if_pos hover, if_neg (by omega)]
    · have h := State.overdrawChecks_posts (t := t) (margin := p.margin) (q := q) hmem (s.checked_nodup t st) (s := s.moved t st)
        (by rw [hacct, hsample]; exact hover) (by rw [hacct]; exact hrun) (by rw [hholder, hq])
      rwa [hsample] at h
    · rw [if_neg (by omega)]
  · rw [State.overdrawChecks_acct_ne (fun hmem => hc ((s.mem_checked t st c).1 hmem)), hacct]

end Sys2Proof.Machine

/-! Runs of the Staged Energize Unit (Chapter 4). -/

namespace Sys2Proof.Machine

open Sys2Proof.Safety

/-! ### The trunk of a channel's run -/

/-- The only run of a channel is the one found for it. -/
theorem State.runTrunk_of {s : State} {t : Trunk} {c : Channel} {r : Run} (h : RunOf s t c r) : s.runTrunk c = some t := by
  obtain ⟨hr, hc, hu⟩ := h
  rcases e : s.runTrunk c with _ | u
  · rw [State.runTrunk, List.find?_eq_none] at e
    exact absurd (by simp [hr, hc]) (e t (List.mem_finRange t))
  · rw [hu u (State.runTrunk_some e)]

/-- A channel that no run record names has no run. -/
theorem State.runTrunk_none {s : State} {c : Channel} (h : ∀ u, (s.run u).map (·.channel) ≠ some c) : s.runTrunk c = none := by
  rw [State.runTrunk, List.find?_eq_none]
  intro u _
  simpa using h u

/-- The run found for a channel has no claim of a kind pending that none of its runs has. -/
theorem State.runTrunk_pending {s : State} {c : Channel} {x : RunClaim}
    (h : ∀ u r, s.run u = some r → r.channel = c → r.pending ≠ some x) {t : Trunk} (ht : s.runTrunk c = some t) :
    (s.run t).map (·.pending) ≠ some (some x) := by
  obtain ⟨r, hr, hc⟩ := Option.map_eq_some_iff.1 (State.runTrunk_some ht)
  simpa [hr] using h t r hr hc

/-! ### Where a message or an expiry finds nothing to do -/

/-- An answer to an advance claim that was ignored, that finds no precharge fields, or that no run awaits (R81, R87). -/
theorem State.takeAdvanceAnswer_idle {s : State} {c : Channel} {done : Bool}
    (h : done = false ∨ (s.profile c).precharge = none ∨ (∀ u r, s.run u = some r → r.channel = c → r.pending ≠ some .ADVANCE)) :
    s.takeAdvanceAnswer c done = s := by
  unfold State.takeAdvanceAnswer State.precharge
  split
  next t p ht hp =>
    rcases h with rfl | h | h
    · rw [if_neg (by simp)]
    · cases hp.symm.trans h
    · rw [if_neg fun hx => State.runTrunk_pending h ht hx.2]
  next => rfl

/-- An answer to a failure claim that no run awaits (R87). -/
theorem State.takeFailureAnswer_idle {s : State} {c : Channel}
    (h : ∀ u r, s.run u = some r → r.channel = c → r.pending ≠ some .FAILURE) : s.takeFailureAnswer c = s := by
  unfold State.takeFailureAnswer
  split
  next t ht => rw [if_neg (State.runTrunk_pending h ht)]
  next => rfl

/-- A taken answer to a completion claim that no run awaits (R87). -/
theorem State.completionDone_idle {s : State} {c : Channel}
    (h : ∀ u r, s.run u = some r → r.channel = c → r.pending ≠ some .COMPLETION) : s.completionDone c = s := by
  unfold State.completionDone
  split
  next t ht => rw [if_neg (State.runTrunk_pending h ht)]
  next => rfl

/-- A period timer that is not one of a run in PROBE without a claim (R80). -/
theorem State.probeExpiry_idle {s : State} {t : Trunk} (h : ∀ d n us, s.run t ≠ some ⟨d, .PROBE n, none, some us⟩) :
    s.probeExpiry t = s := by
  unfold State.probeExpiry
  split
  next d n us hr => exact absurd hr (h d n us)
  next => rfl

/-- A period timer that is not one of a run in FILL without a claim (R82). -/
theorem State.fillExpiry_idle {s : State} {t : Trunk} (h : ∀ d timer us, s.run t ≠ some ⟨d, .FILL timer, none, some us⟩) :
    s.fillExpiry t = s := by
  unfold State.fillExpiry
  split
  next d timer us hr => exact absurd hr (h d timer us)
  next => rfl

/-- A fill timer that does not run (R84). -/
theorem State.fillTimeout_idle {s : State} {t : Trunk} (h : ∀ d us period, s.run t ≠ some ⟨d, .FILL (some us), none, period⟩) :
    s.fillTimeout t = s := by
  unfold State.fillTimeout
  split
  next d us period hr => exact absurd hr (h d us period)
  next => rfl

/-- An output sample of a channel without a run in FILL that awaits no answer (R83). -/
theorem State.takeOutputSample_idle {s : State} {c : Channel} (h : ∀ u timer us, s.run u ≠ some ⟨c, .FILL timer, none, us⟩) (v : Nat) :
    s.takeOutputSample c v = s := by
  unfold State.takeOutputSample
  split
  next => rfl
  next t ht =>
    split
    next d timer us hr =>
      have hd : d = c := by simpa [hr] using State.runTrunk_some ht
      exact absurd (hd ▸ hr) (h t timer us)
    next => rfl

/-! ### What the expiries and the sample do -/

/-- The check of a run in PROBE (R80). -/
theorem State.probeExpiry_run {s : State} {t : Trunk} {c : Channel} {n us : Nat} {p : Precharge}
    (hr : s.run t = some ⟨c, .PROBE n, none, some us⟩) (hp : (s.profile c).precharge = some p) :
    s.probeExpiry t = s.probeCheck t c n p := by
  simp [State.probeExpiry, hr, State.precharge, hp]

/-- The next fill pulse (R82). -/
theorem State.fillExpiry_run {s : State} {t : Trunk} {c : Channel} {timer : Option Nat} {us : Nat} {p : Precharge}
    (hr : s.run t = some ⟨c, .FILL timer, none, some us⟩) (hp : (s.profile c).precharge = some p) :
    s.fillExpiry t = (s.setRun t (some ⟨c, .FILL timer, none, some p.fillPeriod⟩)).send (.pulseCommand c p.fillOn) := by
  simp [State.fillExpiry, hr, State.precharge, hp]

/-- A sample has settled less than 100 mV below the feed (R83). -/
theorem settledAt_iff (feed v : Nat) : settledAt feed v = true ↔ feed < v + 100 := by
  unfold settledAt
  rw [decide_eq_true_eq]
  omega

/-- An output sample of a run in FILL (R83). -/
theorem State.takeOutputSample_run {s : State} {t : Trunk} {c : Channel} {timer us : Option Nat}
    (h : RunOf s t c ⟨c, .FILL timer, none, us⟩) (v : Nat) :
    s.takeOutputSample c v = if s.sense.vfeed[t] < v + 100 then
      (s.setRun t (some ⟨c, .FILL none, some .COMPLETION, none⟩)).send (.completionClaim c) else s := by
  simp [State.takeOutputSample, State.runTrunk_of h, h.1, settledAt_iff]

/-- Settles O45. -/
theorem probePhase : Obligations.ProbePhase := by
  refine ⟨fun t c p s h0 hp => ⟨fun ht hturn => ?start, fun n us hr => ?check, fun hn => ?noProbe, fun phase us hr hturn => ?advance⟩,
    fun c done s h0 => ⟨fun hturn h => ?ignored, fun hturn h => ?noStart, fun t n us hp hr => ?noFields⟩⟩
  case start =>
    have hx : exec (.start c) s = .next ((s.arrive (.start c)).takeStart c) := congrArg _ (State.taking_run _ _ _ h0 hturn)
    rw [hx, State.takeStart, show ((s.arrive (.start c)).chan c).trunk = some t from ht,
      show (s.arrive (.start c)).precharge c = some p from hp]
  case check =>
    have hx : exec (.probePeriodExpiry t) s = .next (s.probeExpiry t) := congrArg _ (State.running_run _ _ h0)
    rw [hx, State.probeExpiry_run hr hp]
    simp only [State.probeCheck, State.reached, decide_eq_true_eq]
  case noProbe =>
    exact congrArg Host.Outcome.next ((State.running_run _ _ h0).trans (State.probeExpiry_idle hn))
  case advance =>
    have hx : exec (.advanceAnswer c true) s = .next ((s.arrive (.advanceAnswer c true)).takeAdvanceAnswer c true) :=
      congrArg _ (State.taking_run _ _ _ h0 hturn)
    have hrun : RunOf (s.arrive (.advanceAnswer c true)) t c ⟨c, phase, some .ADVANCE, us⟩ := hr
    rw [hx, State.takeAdvanceAnswer, State.runTrunk_of hrun, show (s.arrive (.advanceAnswer c true)).precharge c = some p from hp]
    simp [hrun.1]
  case ignored =>
    exact congrArg Host.Outcome.next
      ((State.taking_run _ _ _ h0 hturn).trans (State.takeAdvanceAnswer_idle (s := s.arrive (.advanceAnswer c done)) h))
  case noStart =>
    have hx : exec (.start c) s = .next ((s.arrive (.start c)).takeStart c) := congrArg _ (State.taking_run _ _ _ h0 hturn)
    rw [hx]
    refine congrArg Host.Outcome.next ?_
    unfold State.takeStart State.precharge
    split
    next t p ht hp =>
      rcases h with h | h
      · cases ht.symm.trans h
      · cases hp.symm.trans h
    next => rfl
  case noFields =>
    have hx : exec (.probePeriodExpiry t) s = .next (s.probeExpiry t) := congrArg _ (State.running_run _ _ h0)
    rw [hx]
    refine congrArg Host.Outcome.next ?_
    simp [State.probeExpiry, hr, State.precharge, hp]

/-- Settles O46. -/
theorem fillPhase : Obligations.FillPhase := by
  intro t c p s h0
  refine ⟨fun timer us hp hr => ?pulse, fun timer us hp hr => ?noFields, fun hn => ?noFill, fun timer us vout hr => ?sample,
    fun vout hn => ?dropped, fun us period hr => ?timeout, fun hn => ?noTimer⟩
  case pulse => exact congrArg Host.Outcome.next ((State.running_run _ _ h0).trans (State.fillExpiry_run hr hp))
  case noFields =>
    refine congrArg Host.Outcome.next ((State.running_run _ _ h0).trans ?_)
    simp [State.fillExpiry, hr, State.precharge, hp]
  case noFill => exact congrArg Host.Outcome.next ((State.running_run _ _ h0).trans (State.fillExpiry_idle hn))
  case sample =>
    exact congrArg Host.Outcome.next ((State.taking_run _ _ _ h0 (inTurn_free rfl)).trans
      (State.takeOutputSample_run (s := s.arrive (.outputVoltageSample c vout)) hr vout))
  case dropped =>
    exact congrArg Host.Outcome.next ((State.taking_run _ _ _ h0 (inTurn_free rfl)).trans
      (State.takeOutputSample_idle (s := s.arrive (.outputVoltageSample c vout)) hn vout))
  case timeout =>
    refine congrArg Host.Outcome.next ((State.running_run _ _ h0).trans ?_)
    simp [State.fillTimeout, hr]
  case noTimer => exact congrArg Host.Outcome.next ((State.running_run _ _ h0).trans (State.fillTimeout_idle hn))

/-! ### The settling before a claim or request -/

/-- Behind the completion answers that it waits for, the Lease Manager takes what nothing holds back (R88). -/
theorem State.atLeaseManager_free {s : State} {i : Instr} (h : s.leaseBlocked i = false) (f : State → State) :
    s.atLeaseManager i f = f (s.settleCompletions i) := by
  simp [State.atLeaseManager, h]

/-- Settles O47. -/
theorem runEnds : Obligations.RunEnds := by
  refine ⟨fun t c r done s h0 => ⟨fun hr hpend hturn => ?completed, fun hturn => ?ignored, fun hr hpend hturn => ?failed,
      fun hr hturn => ?aborted, fun hn hturn => ?noRun, fun hn hturn => ?noCompletion, fun hn hturn => ?noFailure⟩,
    fun i first s he hi h0 hturn hb hf => ?claim, fun i r first s hi hp hb hf => ?request⟩
  case completed =>
    refine congrArg Host.Outcome.next ((State.taking_run _ _ _ h0 hturn).trans ?_)
    have hrun : RunOf (s.arrive (.completionAnswer c true)) t c r := hr
    show (s.arrive (.completionAnswer c true)).completionDone c = _
    rw [State.completionDone, State.runTrunk_of hrun]
    simp only [hrun.1, hpend, Option.map_some, if_true]
    rfl
  case ignored => exact congrArg Host.Outcome.next (State.taking_run _ _ _ h0 hturn)
  case failed =>
    refine congrArg Host.Outcome.next ((State.taking_run _ _ _ h0 hturn).trans ?_)
    have hrun : RunOf (s.arrive (.failureAnswer c done)) t c r := hr
    simp [State.takeFailureAnswer, State.runTrunk_of hrun, hrun.1, hpend]
  case aborted =>
    refine congrArg Host.Outcome.next ((State.taking_run _ _ _ h0 hturn).trans ?_)
    have hrun : RunOf (s.arrive (.abort c)) t c r := hr
    simp [State.takeAbort, State.runTrunk_of hrun]
  case noRun =>
    refine congrArg Host.Outcome.next ((State.taking_run _ _ _ h0 hturn).trans ?_)
    simp [State.takeAbort, State.runTrunk_none (s := s.arrive (.abort c)) hn]
  case noCompletion =>
    refine congrArg Host.Outcome.next ((State.taking_run _ _ _ h0 hturn).trans ?_)
    cases done
    · rfl
    · exact State.completionDone_idle (s := s.arrive (.completionAnswer c true)) hn
  case noFailure =>
    exact congrArg Host.Outcome.next ((State.taking_run _ _ _ h0 hturn).trans
      (State.takeFailureAnswer_idle (s := s.arrive (.failureAnswer c done)) hn))
  case claim =>
    have hb' : (s.arrive i).leaseBlocked i = false := by
      rw [State.leaseBlocked_congr s (s.arrive i) i (by simp) (by simp) (by simp) (by simp)]
      exact hb
    refine ⟨(s.arrive i).settleCompletions i, State.settleCompletions_inTurn _ i first h0
      ((takenFirst_congr (s := s) (u := s.arrive i) rfl rfl i _ first).2 hf), ?_⟩
    by_cases ha : ∀ t c found stamp need, i ≠ .admitClaim t c found stamp need
    · rw [exec_leaseClaim he hi ha, State.claimCommand, State.taking_run _ _ _ h0 hturn, State.atLeaseManager_free hb']
      cases i <;> first
        | rfl
        | exact absurd rfl (ha _ _ _ _ _)
    · push Not at ha
      obtain ⟨t, c, found, stamp, need, rfl⟩ := ha
      refine congrArg Host.Outcome.next ((State.taking_run _ _ _ h0 hturn).trans ?_)
      exact congrArg State.releaseHeldBack (State.atLeaseManager_free hb' _)
  case request =>
    obtain ⟨⟨_, _, _, ⟨h0, _⟩, _⟩, _⟩ := id hp
    have hb' : (taken s i r).leaseBlocked i = false := by
      rw [State.leaseBlocked_congr s (taken s i r) i (by simp) (by simp) (by simp) (by simp)]
      exact hb
    refine ⟨(taken s i r).settleCompletions i, State.settleCompletions_inTurn _ i first h0
      ((takenFirst_congr (s := s) (u := taken s i r) rfl rfl i _ first).2 hf), ?_⟩
    have hx : exec i s = .next (s.leaseCommand i) := by
      rcases hi with hi | ⟨ch, rfl⟩
      · cases i <;> first | rfl | exact absurd rfl hi
      · rfl
    rw [hx, State.leaseCommand, State.hostRequest_passed s i r _ hp, State.atLeaseManager_free hb']

end Sys2Proof.Machine

/-! The Sense Block and the Channel Drivers (Chapter 6). -/

namespace Sys2Proof.Machine

open Sys2Proof.Safety

/-! ### Samples -/

/-- The mean of a sample period, with a reverse current counted as 0 (R109). -/
theorem meanSample_eq (parts : List Int) :
    meanSample parts = min 65535 ((parts.map fun x => (max 0 x).toNat).sum / (1000 * parts.length)) := by
  have h : parts.map Int.toNat = parts.map fun x => (max 0 x).toNat := List.map_congr_left fun x _ => by omega
  rw [meanSample, h]
  rfl

/-- The latest output samples after a run of samples or deferrals (R110). -/
theorem foldl_sampleOrDefer_vout (l : List Channel) (u : State) (c : Channel) :
    (l.foldl (fun s c => s.sampleOrDefer c) u).sense.vout[c]
      = if c ∈ l ∧ (u.driver c).pulse = none then voltageSample u.sense.voPin[c] else u.sense.vout[c] := by
  induction l generalizing u with
  | nil => simp
  | cons d rest ih =>
    rw [List.foldl_cons, ih]
    have hdrv : (u.sampleOrDefer d).drivers = u.drivers := by
      unfold State.sampleOrDefer
      split <;> rfl
    have hpin : (u.sampleOrDefer d).sense.voPin = u.sense.voPin := by
      unfold State.sampleOrDefer
      split <;> rfl
    have hout : (u.sampleOrDefer d).sense.vout[c]
        = if c = d ∧ (u.driver c).pulse = none then voltageSample u.sense.voPin[c] else u.sense.vout[c] := by
      unfold State.sampleOrDefer
      split
      next h =>
        refine (if_neg ?_).symm
        rintro ⟨rfl, hn⟩
        simp [hn] at h
      next h =>
        refine (updAt_get u.sense.vout d c _).trans ?_
        by_cases e : c = d
        · subst e
          rw [if_pos rfl, if_pos ⟨rfl, by simpa using h⟩]
        · rw [if_neg e, if_neg (fun hx => e hx.1)]
    rw [State.driver, hdrv, hpin, hout]
    by_cases hr : c ∈ rest <;> by_cases e : c = d <;> by_cases hn : (u.driver c).pulse = none <;>
      simp_all [State.driver]

/-- The samples deferred after a run of samples or deferrals (R110). -/
theorem foldl_sampleOrDefer_deferred (l : List Channel) (u : State) (c : Channel) :
    (l.foldl (fun s c => s.sampleOrDefer c) u).sense.deferred[c]
      = if c ∈ l then (u.driver c).pulse.isSome else u.sense.deferred[c] := by
  induction l generalizing u with
  | nil => simp
  | cons d rest ih =>
    rw [List.foldl_cons, ih]
    have hdrv : (u.sampleOrDefer d).drivers = u.drivers := by
      unfold State.sampleOrDefer
      split <;> rfl
    have hdef : (u.sampleOrDefer d).sense.deferred[c] = if c = d then (u.driver c).pulse.isSome else u.sense.deferred[c] := by
      unfold State.sampleOrDefer
      split
      next h =>
        refine (updAt_get u.sense.deferred d c _).trans ?_
        by_cases e : c = d
        · subst e; simp [h]
        · simp [e]
      next h =>
        refine (updAt_get u.sense.deferred d c _).trans ?_
        by_cases e : c = d
        · subst e; simp [h]
        · simp [e]
    rw [State.driver, hdrv, hdef]
    by_cases hr : c ∈ rest
    · rw [if_pos hr, if_pos (List.mem_cons_of_mem _ hr)]
      rfl
    · by_cases e : c = d
      · subst e; simp [hr]
      · simp [hr, e]

/-- What a run of samples or deferrals writes besides: nothing but the messages of the samples taken (R110). -/
theorem foldl_sampleOrDefer (l : List Channel) (u v : State) (hv : v = l.foldl (fun s c => s.sampleOrDefer c) u) :
    v = { u with sense := v.sense, inFlight := u.inFlight ++ (l.filter fun c => (u.driver c).pulse.isNone).map fun c =>
        .outputVoltageSample c (voltageSample u.sense.voPin[c]) }
      ∧ v.sense = { u.sense with vout := v.sense.vout, deferred := v.sense.deferred } := by
  induction l generalizing u with
  | nil =>
    subst hv
    simp
  | cons d rest ih =>
    obtain ⟨h1, h2⟩ := ih (u.sampleOrDefer d) hv
    have hone : u.sampleOrDefer d = { u with
        sense := (u.sampleOrDefer d).sense
        inFlight := u.inFlight ++ if (u.driver d).pulse.isNone then
          [.outputVoltageSample d (voltageSample u.sense.voPin[d])] else [] } := by
      unfold State.sampleOrDefer
      cases h : (u.driver d).pulse <;> simp [State.sampleOutput, State.updSense, State.send, State.setInFlight]
    have hsense : (u.sampleOrDefer d).sense = { u.sense with
        vout := (u.sampleOrDefer d).sense.vout, deferred := (u.sampleOrDefer d).sense.deferred } := by
      unfold State.sampleOrDefer
      split <;> rfl
    have hdrv : (u.sampleOrDefer d).driver = u.driver := by
      rw [hone]; rfl
    refine ⟨?_, ?_⟩
    · rw [hdrv, hsense] at h1
      rw [h1, hone]
      cases h : (u.driver d).pulse <;> simp [h]
    · rw [h2, hsense]

/-- Settles O48. -/
theorem samples : Obligations.Samples := by
  intro sensed vo vf s h0
  have hcurrent : exec (.currentSample sensed) s = .next (s.running fun s => s.sampleCurrents sensed) := rfl
  have hinstant : exec (.sampleInstant vo vf) s = .next (s.running fun s => s.sampleAll vo vf) := rfl
  rw [State.running_run _ _ h0] at hcurrent hinstant
  refine ⟨⟨s.sampleCurrents sensed, hcurrent, ?current, fun c => ?pin⟩, ⟨s.sampleAll vo vf, hinstant, ?_⟩⟩
  case current =>
    have h : sensed.map meanSample
        = sensed.map fun parts => min 65535 ((parts.map fun x => (max 0 x).toNat).sum / (1000 * parts.length)) :=
      congrArg (sensed.map ·) (funext meanSample_eq)
    rw [← h]
    rfl
  case pin =>
    show (Vector.zipWith (fun parts old => parts.getLast?.getD old) sensed s.sense.isPin)[c] = _
    simp
  · have hall : s.sampleAll vo vf = (List.finRange 12).foldl (fun s c => s.sampleOrDefer c) (s.sampleFeeds vo vf) := by
      rw [State.sampleAll]
    have hout := foldl_sampleOrDefer_vout (List.finRange 12) (s.sampleFeeds vo vf)
    have hdef := foldl_sampleOrDefer_deferred (List.finRange 12) (s.sampleFeeds vo vf)
    obtain ⟨hstate, hsense⟩ := foldl_sampleOrDefer _ _ _ hall
    simp only [← hall] at hout hdef
    have hdrv : (s.sampleFeeds vo vf).driver = s.driver := rfl
    have hpin : (s.sampleFeeds vo vf).sense.voPin = vo := rfl
    refine ⟨hstate, by rw [hsense]; rfl, by rw [hsense]; rfl, by rw [hsense]; rfl, by rw [hsense]; rfl, by rw [hsense]; rfl,
      by rw [hsense]; rfl, fun t => ?_, fun c => ⟨fun hn => ⟨?_, ?_⟩, fun hn => ⟨?_, ?_⟩⟩⟩
    · rw [hsense]
      show (vf.map voltageSample)[t] = _
      simp [voltageSample, Config.sampleMax]
    · rw [hout, if_pos ⟨List.mem_finRange c, hn⟩]
      rfl
    · rw [hdef, if_pos (List.mem_finRange c), hdrv, hn]
      rfl
    · rw [hout, if_neg fun h => hn h.2]
      rfl
    · rw [hdef, if_pos (List.mem_finRange c), hdrv]
      exact Option.isSome_iff_ne_none.2 hn

/-! ### Pulses and shorts -/

/-- The trip hold of a channel's driver (R116). -/
theorem State.tripHold_iff (s : State) (c : Channel) :
    s.tripHold c = true ↔ ∃ t, (s.profile c).trunk = some t ∧ (s.trunk t).state = some .TRIPPED := by
  simp [State.tripHold, Option.any_eq_true]

/-- The drive is pulsing exactly in PROBE and FILL (R114). -/
theorem State.commanded_pulsing (s : State) (c : Channel) : s.commanded c = .pulsing ↔ isPulsing (s.chan c).state = true := by
  unfold State.commanded
  cases (s.chan c).state <;> simp [isPulsing]

/-- The drive is on exactly in ON (R114). -/
theorem State.commanded_on (s : State) (c : Channel) : s.commanded c = .on ↔ (s.chan c).state = .ON := by
  unfold State.commanded
  cases (s.chan c).state <;> simp

/-- The drive is off exactly in the states that are not driven (R114). -/
theorem State.commanded_off (s : State) (c : Channel) : s.commanded c = .off ↔ isDriven (s.chan c).state = false := by
  unfold State.commanded
  cases (s.chan c).state <;> simp [isDriven]

/-- Settles O49. -/
theorem pulsesAndShorts : Obligations.PulsesAndShorts := by
  intro c s h0 held
  have hheld : held ↔ (s.driver c).shortHold = true ∨ s.tripHold c = true := by rw [State.tripHold_iff]
  have hcarries : s.carriesOut c = true ↔ isPulsing (s.chan c).state = true ∧ ¬ held ∧ (s.driver c).pulse = none := by
    rw [hheld, ← State.commanded_pulsing]
    simp [State.carriesOut, and_assoc]
  have harmed : s.armed c = true ↔ isDriven (s.chan c).state = true ∧ ¬ held := by
    rw [hheld, ← Bool.not_eq_false (isDriven _), ← State.commanded_off]
    simp [State.armed, and_assoc]
  have hpulse : ∀ onTime, exec (.pulseCommand c onTime) s = .next ((s.arrive (.pulseCommand c onTime)).takePulse c onTime) :=
    fun onTime => congrArg _ (State.taking_run _ _ _ h0 (inTurn_free rfl))
  have hend : ∀ vo, exec (.pulseEnd c vo) s = .next (s.pulseEnd c vo) := fun vo => congrArg _ (State.running_run _ _ h0)
  have hshort : ∀ current, exec (.shortDetection c current) s = .next (s.detectShort c current) :=
    fun current => congrArg _ (State.running_run _ _ h0)
  refine ⟨fun onTime => ⟨fun h => ?carried, fun h => ?dropped⟩, fun vo => ⟨fun hd => ?deferred, fun hd hn => ?ended, fun hd hn => ?noPulse⟩,
    fun current => ⟨fun ⟨hd, hh, hl⟩ => ?detected, fun h => ?quiet, ?switch⟩⟩
  case carried =>
    have hc : (s.arrive (.pulseCommand c onTime)).carriesOut c = true := hcarries.2 h
    rw [hpulse, State.takePulse, if_pos hc]
  case dropped =>
    have hc : ¬ (s.arrive (.pulseCommand c onTime)).carriesOut c = true := fun hx => by
      obtain ⟨h1, h2, h3⟩ := hcarries.1 hx
      rcases h with h | h | h
      · cases h.symm.trans h1
      · exact h2 h
      · exact h h3
    rw [hpulse, State.takePulse, if_neg hc]
  case deferred =>
    have hpin : ((s.endPulse c).setOutputPin c vo).sense.voPin[c] = vo := updAt_self s.sense.voPin c _
    rw [hend, State.pulseEnd, if_pos hd, State.sampleOutput, hpin]
    rfl
  case ended =>
    rw [hend, State.pulseEnd, if_neg (by simp [hd]), if_pos (Option.isSome_iff_ne_none.2 hn)]
    rfl
  case noPulse => rw [hend, State.pulseEnd, if_neg (by simp [hd]), if_neg (by simp [hn])]
  case detected =>
    rw [hshort, State.detectShort, if_pos ⟨harmed.2 ⟨hd, hh⟩, hl⟩, State.endPulse, State.updDriver_updDriver]
  case quiet =>
    have hq : ¬ (s.armed c = true ∧ (s.profile c).limit < current) := fun ⟨hx, hl⟩ => by
      obtain ⟨h1, h2⟩ := harmed.1 hx
      rcases h with h | h | h
      · cases h.symm.trans h1
      · exact h2 h
      · omega
    rw [hshort, State.detectShort, if_neg hq]
  case switch =>
    rw [hheld, ← State.commanded_on, ← State.commanded_pulsing]
    unfold State.switchClosed
    cases s.commanded c <;> simp [h0, Option.isSome_iff_ne_none]

end Sys2Proof.Machine

/-! The Line Unit (Chapter 7). -/

namespace Sys2Proof.Machine

open Sys2Proof.Safety

/-! ### Levels and their events -/

/-- Another line than `l` withholds the channel (R126, R127). -/
theorem State.vetoedBy_iff (s : State) (l : Line) (c : Channel) : s.vetoedBy c (some l) = true ↔ VetoedByAnother s l c := by
  simp [State.vetoedBy, VetoedByAnother, LineRec.high, and_assoc, @eq_comm _ l]

/-- What the line's own record says counts for none of the other lines. -/
theorem vetoedByAnother_updLine (s : State) (l : Line) (f : LineRec → LineRec) (c : Channel) :
    VetoedByAnother (s.updLine l f) l c ↔ VetoedByAnother s l c := by
  refine exists_congr fun k => and_congr_right fun hk => ?_
  rw [State.updLine_ne _ _ _ _ hk]

/-- A channel that another line withholds is not resumed (R127). -/
theorem State.resumeUnlessVetoed_vetoed {s : State} {l : Line} {c : Channel} (h : VetoedByAnother s l c) :
    s.resumeUnlessVetoed l c = s := by
  rw [State.resumeUnlessVetoed, if_pos ((s.vetoedBy_iff l c).2 h)]

/-- A channel that no other line withholds is resumed (R127). -/
theorem State.resumeUnlessVetoed_free {s : State} {l : Line} {c : Channel} (h : ¬ VetoedByAnother s l c) :
    s.resumeUnlessVetoed l c = s.send (.resumeClaim l c) := by
  rw [State.resumeUnlessVetoed, if_neg fun hx => h ((s.vetoedBy_iff l c).1 hx)]

/-- The line claim of an ASSIST line (R121). -/
theorem State.sendLineClaim_assist {s : State} {l : Line} {c : Channel} {cur prio : Nat} (h : (s.line l).binding = .ASSIST c cur prio) :
    s.sendLineClaim l = (s.updLine l fun r => { r with claim := some .CLAIM }).send (.lineClaim l c cur prio) := by
  rw [State.sendLineClaim, h]

/-- The line release of an ASSIST line (R123). -/
theorem State.sendLineRelease_assist {s : State} {l : Line} {c : Channel} {cur prio : Nat}
    (h : (s.line l).binding = .ASSIST c cur prio) :
    s.sendLineRelease l = (s.updLine l fun r => { r with claim := some .RELEASE }).send (.lineRelease l c) := by
  rw [State.sendLineRelease, h]

/-- The level of a debounce timer that runs out (R119). -/
def debouncedLine (s : State) (l : Line) : State := s.updLine l fun r => { r with level := some r.raw, debounce := none }

/-- The debounced line has the binding, the lease and the claim that it had. -/
theorem debouncedLine_line (s : State) (l : Line) :
    (debouncedLine s l).line l = { s.line l with level := some (s.line l).raw, debounce := none } := State.updLine_self s l _

/-- A line whose debounced level does not change from or to high has no event (R119, R120). -/
theorem State.debounced_quiet {s : State} {l : Line} (h : s.config.phase = .COMMISSION ∨ (s.line l).level = some (s.line l).raw
    ∨ ((s.line l).level = none ∧ (s.line l).raw = false)) : s.debounced l = debouncedLine s l := by
  unfold State.debounced
  by_cases hp : s.config.phase ≠ .SERVICE
  · rw [if_pos hp]; rfl
  have hp' : s.config.phase = .SERVICE := by simpa using hp
  rw [if_neg hp]
  rcases h with h | h | ⟨h, hr⟩
  · cases h.symm.trans hp'
  · cases hr : (s.line l).raw <;> simp [h, hr] <;> rfl
  · simp [h, hr]; rfl

/-- A rising event (R119). -/
theorem State.debounced_rise {s : State} {l : Line} (hp : s.config.phase = .SERVICE) (hr : (s.line l).raw = true)
    (hl : (s.line l).level ≠ some true) : s.debounced l = (debouncedLine s l).lineRise l := by
  rw [State.debounced, if_neg (by simp [hp]), if_pos ⟨hr, hl⟩]
  rfl

/-- A falling event (R119). -/
theorem State.debounced_fall {s : State} {l : Line} (hp : s.config.phase = .SERVICE) (hr : (s.line l).raw = false)
    (hl : (s.line l).level = some true) : s.debounced l = (debouncedLine s l).lineFall l := by
  rw [State.debounced, if_neg (by simp [hp]), if_neg (by simp [hr]), if_pos ⟨hr, hl⟩]
  rfl

/-- Settles O50. -/
theorem lineLevels : Obligations.LineLevels := by
  refine ⟨fun l high s => ?raw, fun l s h0 => ?_⟩
  case raw =>
    refine congrArg Host.Outcome.next (State.updLine_congr s l _ _ ?_)
    unfold LineRec.rawChange
    by_cases h : (s.line l).raw = high
    · rw [if_pos h, if_pos h]
    · rw [if_neg h, if_neg h]
      cases s.inReset <;> rfl
  intro r u
  have hx : exec (.debounceExpiry l) s = .next (if (s.line l).debounce.isSome then s.debounced l else s) :=
    congrArg _ (State.running_run _ _ h0)
  have hbind : ((debouncedLine s l).line l).binding = r.binding := by rw [debouncedLine_line]
  have hheld : ((debouncedLine s l).line l).leaseHeld = r.leaseHeld := by rw [debouncedLine_line]
  have hclaim : ((debouncedLine s l).line l).claim = r.claim := by rw [debouncedLine_line]
  have hveto : ∀ c, VetoedByAnother (debouncedLine s l) l c ↔ VetoedByAnother s l c := vetoedByAnother_updLine s l _
  refine ⟨fun hd => by simp [hx, show (s.line l).debounce = none from hd], fun hd => ?_⟩
  have hx : exec (.debounceExpiry l) s = .next (s.debounced l) := by
    rw [hx, if_pos (Option.isSome_iff_ne_none.2 hd)]
  refine ⟨fun h => by rw [hx, State.debounced_quiet h]; rfl, fun hp hr hl => ?rise, fun hp hr hl => ?fall⟩
  case rise =>
    rw [hx, State.debounced_rise hp hr hl, State.lineRise]
    refine ⟨fun hb => ?_, fun c cur prio hb => ?_, fun c hb => ?_⟩ <;> rw [hbind, hb]
    · rfl
    · refine ⟨fun h => ?_, fun h1 h2 => ?_⟩ <;> simp only [State.assistRise]
      · rw [if_pos (by rwa [hheld, hclaim, Option.isSome_iff_ne_none])]
        rfl
      · rw [if_neg (by simp [hheld, hclaim, h1, h2]), State.sendLineClaim_assist (hbind.trans hb)]
        rfl
    · exact ⟨fun h => congrArg Host.Outcome.next (State.resumeUnlessVetoed_vetoed ((hveto c).2 h)),
        fun h => congrArg Host.Outcome.next (State.resumeUnlessVetoed_free fun hx => h ((hveto c).1 hx))⟩
  case fall =>
    rw [hx, State.debounced_fall hp hr hl, State.lineFall]
    refine ⟨fun hb => ?_, fun c cur prio hb => ?_, fun c hb => ?_⟩ <;> rw [hbind, hb]
    · rfl
    · refine ⟨fun h => ?_, fun h => ?_⟩ <;> simp only [State.assistFall]
      · rw [if_pos (by rwa [hheld, hclaim]), State.sendLineRelease_assist (hbind.trans hb)]
        rfl
      · rw [if_neg]
        · rfl
        · rw [hheld, hclaim]
          rintro ⟨h1, h2⟩
          rcases h with h | h
          · cases h.symm.trans h1
          · exact h h2
    · rfl

/-! ### Answers -/

/-- Settles O51. -/
theorem lineAnswers : Obligations.LineAnswers := by
  refine ⟨fun l c cur prio kind done s h0 hb => ?answer, fun c resumed st x s h0 => ?response, fun l s h0 => ⟨fun h => ?ended, fun h => ?noLine⟩⟩
  case answer =>
    intro u high
    have hx : exec (.lineClaimAnswer l kind done) s = .next (u.takeLineAnswer l kind done) :=
      congrArg _ (State.taking_run _ _ _ h0 (inTurn_free rfl))
    have hb' : (u.line l).binding = .ASSIST c cur prio := hb
    have hhigh : (u.line l).high = high := rfl
    rw [hx, State.takeLineAnswer, hb']
    simp only [hhigh]
    refine ⟨fun hn => by rw [if_pos (show (u.line l).claim ≠ some kind from hn)], fun hk => ?_⟩
    rw [if_neg (show ¬ (u.line l).claim ≠ some kind from fun h => h hk)]
    cases kind <;> cases done
    · rfl
    · cases high
      · exact congrArg Host.Outcome.next (State.sendLineRelease_assist (cur := cur) (prio := prio)
          ((congrArg LineRec.binding (State.updLine_self u l _)).trans hb'))
      · rfl
    all_goals
      cases high
      · rfl
      · refine congrArg Host.Outcome.next (State.sendLineClaim_assist ?_)
        rw [State.updLine_self]
        exact hb'
  case response =>
    have hx : exec (.lineEnergizeResponse c resumed st x) s
        = .next ((s.arrive (.lineEnergizeResponse c resumed st x)).takeLineResponse c resumed st x) :=
      congrArg _ (State.taking_run _ _ _ h0 (inTurn_free rfl))
    rw [hx, State.takeLineResponse]
  case ended =>
    obtain ⟨c, cur, prio, hb⟩ := h
    have hx : exec (.lineLeaseEnded l) s = .next ((s.arrive (.lineLeaseEnded l)).takeLeaseEnded l) :=
      congrArg _ (State.taking_run _ _ _ h0 (inTurn_free rfl))
    have hb' : ((s.arrive (.lineLeaseEnded l)).line l).binding = .ASSIST c cur prio := hb
    rw [hx, State.takeLeaseEnded, hb']
    rfl
  case noLine =>
    have hx : exec (.lineLeaseEnded l) s = .next ((s.arrive (.lineLeaseEnded l)).takeLeaseEnded l) :=
      congrArg _ (State.taking_run _ _ _ h0 (inTurn_free rfl))
    rw [hx]
    refine congrArg Host.Outcome.next ?_
    unfold State.takeLeaseEnded
    split
    next c cur prio hb => exact absurd hb (h c cur prio)
    next => rfl

/-! ### The claims of several lines at one report -/

/-- The line claim that a report calls for from an ASSIST line of which it may claim (R120, R122). -/
def reportClaim (may : LineRec → Channel → Bool) (r : LineRec) (l : Line) : Option Instr :=
  match r.binding with
  | .ASSIST c cur prio => if may r c = true ∧ r.level = some true ∧ r.claim = none then some (.lineClaim l c cur prio) else none
  | _ => none

/-- The record of a line after a report (R120, R122). -/
def reportedLine (may : LineRec → Channel → Bool) (r : LineRec) : LineRec :=
  match r.binding with
  | .ASSIST c _ _ => if may r c = true ∧ r.level = some true ∧ r.claim = none then { r with claim := some .CLAIM } else r
  | _ => r

/-- One line at a report: it claims, or nothing happens. -/
def State.reportLine (may : LineRec → Channel → Bool) (s : State) (l : Line) : State :=
  match reportClaim may (s.line l) l with
  | some m => (s.updLine l (reportedLine may)).send m
  | none => s

/-- A line that sends no claim keeps its record. -/
theorem reportedLine_none {may : LineRec → Channel → Bool} {r : LineRec} {l : Line} (h : reportClaim may r l = none) :
    reportedLine may r = r := by
  unfold reportClaim at h
  unfold reportedLine
  split <;> simp_all

/-- The record of each line after one line's report. -/
theorem State.reportLine_line (may : LineRec → Channel → Bool) (s : State) (l k : Line) :
    (s.reportLine may l).line k = if k = l then reportedLine may (s.line k) else s.line k := by
  unfold State.reportLine
  split
  next m hm =>
    by_cases e : k = l
    · subst e
      rw [if_pos rfl]
      exact State.updLine_self s k _
    · rw [if_neg e]
      exact State.updLine_ne s l _ k e
  next hm =>
    by_cases e : k = l
    · subst e
      rw [if_pos rfl, reportedLine_none hm]
    · rw [if_neg e]

/-- One line's report writes that line's record and sends its claim. -/
theorem State.reportLine_eq (may : LineRec → Channel → Bool) (s : State) (l : Line) :
    s.reportLine may l = { s with
      lines := (s.reportLine may l).lines, inFlight := s.inFlight ++ (reportClaim may (s.line l) l).toList } := by
  unfold State.reportLine
  cases reportClaim may (s.line l) l <;> simp [State.send, State.setInFlight, State.updLine]

/-- A report over several lines, each once. -/
theorem foldl_reportLine (may : LineRec → Channel → Bool) {ls : List Line} (hn : ls.Nodup) (s u : State)
    (hu : u = ls.foldl (State.reportLine may) s) :
    u = { s with lines := u.lines, inFlight := s.inFlight ++ ls.filterMap fun l => reportClaim may (s.line l) l }
      ∧ ∀ k, u.line k = if k ∈ ls then reportedLine may (s.line k) else s.line k := by
  induction ls generalizing s with
  | nil =>
    subst hu
    simp
  | cons l rest ih =>
    obtain ⟨hl, hrest⟩ := List.nodup_cons.1 hn
    obtain ⟨h1, h2⟩ := ih hrest (s.reportLine may l) hu
    have hclaims : (rest.filterMap fun k => reportClaim may ((s.reportLine may l).line k) k)
        = rest.filterMap fun k => reportClaim may (s.line k) k :=
      List.filterMap_congr fun k hk => by
        rw [State.reportLine_line, if_neg]
        rintro rfl
        exact hl hk
    refine ⟨?_, fun k => ?_⟩
    · rw [hclaims, State.reportLine_eq] at h1
      rw [h1]
      cases h : reportClaim may (s.line l) l <;> simp [h]
    · rw [h2 k, State.reportLine_line]
      by_cases e : k = l
      · subst e
        simp [hl]
      · simp [e]

/-- Lines chosen beforehand are chosen one by one, when each changes only its own record. -/
theorem foldl_filter_lines (p : LineRec → Bool) (f : State → Line → State) (hf : ∀ u l k, k ≠ l → (f u l).line k = u.line k)
    {ls : List Line} (hn : ls.Nodup) (s : State) :
    (ls.filter fun l => p (s.line l)).foldl f s = ls.foldl (fun u l => if p (u.line l) then f u l else u) s := by
  induction ls generalizing s with
  | nil => rfl
  | cons l rest ih =>
    obtain ⟨hl, hrest⟩ := List.nodup_cons.1 hn
    rw [List.foldl_cons, ← ih hrest]
    cases h : p (s.line l)
    · simp [h]
    · rw [List.filter_cons_of_pos (by simpa using h), List.foldl_cons, if_pos rfl]
      refine congrArg (List.foldl f (f s l)) (List.filter_congr fun k hk => ?_)
      rw [hf _ _ _ (by rintro rfl; exact hl hk)]

/-- A line claim changes the record of its line alone. -/
theorem State.sendLineClaim_ne (u : State) (l k : Line) (h : k ≠ l) : (u.sendLineClaim l).line k = u.line k := by
  unfold State.sendLineClaim
  split
  · exact State.updLine_ne _ _ _ _ h
  · rfl

/-- A free report is the report of every line that waits for the channel (R122). -/
theorem State.takeFreeReport_eq (s : State) (c : Channel) :
    s.takeFreeReport c = (List.finRange 4).foldl (State.reportLine fun r d => r.overruled && decide (d = c)) s := by
  rw [State.takeFreeReport, foldl_filter_lines (fun r => r.waitsFor c) _ State.sendLineClaim_ne (List.nodup_finRange 4)]
  refine congrFun (congrFun (congrArg List.foldl (funext fun u => funext fun l => ?_)) _) _
  unfold State.reportLine reportClaim LineRec.waitsFor
  cases hb : (u.line l).binding with
  | NONE => rfl
  | VETO d => rfl
  | ASSIST d cur prio =>
    have hiff : (decide (d = c) && (u.line l).overruled && (u.line l).high && (u.line l).claim.isNone) = true
        ↔ ((u.line l).overruled && decide (d = c)) = true ∧ (u.line l).level = some true ∧ (u.line l).claim = none := by
      simp only [LineRec.high, Bool.and_eq_true, decide_eq_true_eq, Option.isNone_iff_eq_none]
      tauto
    simp only [hiff]
    split
    next h =>
      rw [State.sendLineClaim_assist hb]
      refine congrArg (State.send · _) (State.updLine_congr u l _ _ ?_)
      rw [reportedLine, hb]
      exact (if_pos h).symm
    next => rfl

/-- The report of the SERVICE phase is that of every ASSIST line (R120). -/
theorem State.takeServicePhase_eq (s : State) :
    s.takeServicePhase = (List.finRange 4).foldl (State.reportLine fun r _ => !r.leaseHeld) s := by
  have hrise : ∀ (u : State) (l k : Line), k ≠ l → (u.assistRise l).line k = u.line k := fun u l k hk => by
    unfold State.assistRise
    split
    · rfl
    · exact State.sendLineClaim_ne u l k hk
  refine Eq.trans (foldl_filter_lines (fun r => r.high && match r.binding with | .ASSIST _ _ _ => true | _ => false) _ hrise
    (List.nodup_finRange 4) s) ?_
  refine congrFun (congrFun (congrArg List.foldl (funext fun u => funext fun l => ?_)) _) _
  unfold State.reportLine reportClaim
  cases hb : (u.line l).binding with
  | NONE => simp
  | VETO d => simp
  | ASSIST d cur prio =>
    by_cases h : (u.line l).leaseHeld = false ∧ (u.line l).level = some true ∧ (u.line l).claim = none
    · obtain ⟨h1, h2, h3⟩ := h
      simp only [LineRec.high, h2, h1, h3, State.assistRise]
      simp only [decide_true, Bool.and_self, if_true, Bool.not_false, and_self, Option.isSome_none, Bool.false_eq_true, or_self,
        if_false]
      rw [State.sendLineClaim_assist hb]
      refine congrArg (State.send · _) (State.updLine_congr u l _ _ ?_)
      rw [reportedLine, hb]
      simp [h1, h2, h3]
    · have hne : ¬ ((!(u.line l).leaseHeld) = true ∧ (u.line l).level = some true ∧ (u.line l).claim = none) := by simpa using h
      simp only [if_neg hne]
      split
      next hh =>
        rw [State.assistRise, if_pos]
        by_contra hx
        refine h ⟨?_, ?_, ?_⟩ <;> simp_all [LineRec.high]
      next => rfl

/-- Settles O52. -/
theorem reportsAndBindingClaim : Obligations.ReportsAndBindingClaim := by
  refine ⟨fun s h0 => ?reports, fun o l new s h0 hturn => ?binding⟩
  case reports =>
    intro claims
    have hclaims : ∀ (may : LineRec → Channel → Bool) (i : Instr),
        claims may i ((List.finRange 4).foldl (State.reportLine may) (s.arrive i)) := fun may i => by
      obtain ⟨h1, h2⟩ := foldl_reportLine may (List.nodup_finRange 4) (s.arrive i) _ rfl
      refine ⟨h1, fun k => ?_⟩
      rw [h2 k, if_pos (List.mem_finRange k)]
      rfl
    have hfree : ∀ c, exec (.freeReport c) s = .next ((s.arrive (.freeReport c)).takeFreeReport c) :=
      fun c => congrArg _ (State.taking_run _ _ _ h0 (inTurn_free rfl))
    have hservice : exec .servicePhaseReport s = .next (s.arrive .servicePhaseReport).takeServicePhase :=
      congrArg _ (State.taking_run _ _ _ h0 (inTurn_free rfl))
    refine ⟨fun c => ⟨_, hfree c, ?_⟩, _, hservice, ?_⟩
    · rw [State.takeFreeReport_eq]
      exact hclaims _ _
    · rw [State.takeServicePhase_eq]
      exact hclaims _ _
  case binding =>
    intro answer arrived
    have hx : exec (.bindingClaim o l new) s = .next (arrived.takeBinding o l new) := congrArg _ (State.taking_run _ _ _ h0 hturn)
    have hanswer : ∀ u done, u.answerBinding o done = answer u done := fun u done => by cases o <;> rfl
    have hrefused : ∀ h : (arrived.line l).leaseHeld = true ∨ (arrived.line l).claim.isSome = true,
        arrived.takeBinding o l new = answer arrived false := fun h => by
      rw [State.takeBinding, if_pos h, hanswer]
    have htaken : ∀ h : ¬ ((arrived.line l).leaseHeld = true ∨ (arrived.line l).claim.isSome = true),
        arrived.takeBinding o l new = answer (if arrived.config.phase = .SERVICE then
          ((arrived.updLine l fun r => { r with binding := new, overruled := false }).unbindLine l (arrived.line l).binding).bindLine l new
          else arrived.updLine l fun r => { r with binding := new, overruled := false }) true := fun h => by
      rw [State.takeBinding, if_neg h, hanswer]
    refine ⟨fun h => ?refused, fun hh hc => ?taken⟩
    case refused => rw [hx, hrefused (by rwa [Option.isSome_iff_ne_none])]
    case taken =>
      intro bound high
      have hfree : ¬ ((arrived.line l).leaseHeld = true ∨ (arrived.line l).claim.isSome = true) := by
        rw [Option.isSome_iff_ne_none]
        rintro (h | h)
        · cases h.symm.trans hh
        · exact h hc
      rw [hx, htaken hfree]
      refine ⟨fun hp => ?commission, fun hp => ⟨bound.unbindLine l (s.line l).binding, ⟨fun c hb hl hv => ?_, fun h => ?_⟩, ?_⟩⟩
      case commission =>
        rw [if_neg (show ¬ arrived.config.phase = .SERVICE by rw [show arrived.config.phase = _ from hp]; decide)]
      all_goals
        have hline : bound.line l = { s.line l with binding := new, overruled := false } := State.updLine_self arrived l _
        have hhigh : (bound.line l).high = true ↔ high := by rw [hline]; exact decide_eq_true_iff
      · rw [hb, State.unbindLine, if_neg fun h => hl (hhigh.1 h)]
        exact State.resumeUnlessVetoed_free fun h => hv ((vetoedByAnother_updLine arrived l _ c).1 h)
      · unfold State.unbindLine
        split
        next c hb =>
          rcases h c hb with h | h
          · rw [if_pos (hhigh.2 h)]
          · rw [State.resumeUnlessVetoed_vetoed ((vetoedByAnother_updLine arrived l _ c).2 h), ite_self]
        next => rfl
      · have hv : (bound.unbindLine l (s.line l).binding).line l = bound.line l := by
          unfold State.unbindLine State.resumeUnlessVetoed
          repeat' split
          all_goals rfl
        have hvhigh : ((bound.unbindLine l (s.line l).binding).line l).high = true ↔ high := by rw [hv]; exact hhigh
        have hphase : arrived.config.phase = .SERVICE := hp
        rw [if_pos hphase]
        change _ = Host.Outcome.next (answer _ true)
        refine congrArg (fun x => Host.Outcome.next (answer x true)) ?_
        change (bound.unbindLine l (s.line l).binding).bindLine l new = _
        cases new with
        | NONE => rfl
        | VETO c =>
          simp only [State.bindLine, hvhigh]
          rfl
        | ASSIST c cur prio =>
          have hb : ((bound.unbindLine l (s.line l).binding).line l).binding = .ASSIST c cur prio := by rw [hv, hline]
          simp only [State.bindLine, hvhigh, State.sendLineClaim_assist hb]
          rfl

end Sys2Proof.Machine

/-! The Configuration Unit (Chapter 8). -/

namespace Sys2Proof.Machine

open Sys2Proof.Safety

/-! ### Requests of the Configuration Unit -/

/-- A command is a request that the Configuration Unit judges, behind the session reports of its port, by `take` (R145, R154). -/
def Judges (i : Instr) (r : Req) (take : State → State) : Prop :=
  ∀ s, exec i s = .next (s.hostRequest i fun s => take (s.drainReports r.port))

/-- With no report in flight the request is judged at once. -/
theorem Judges.exec {i : Instr} {r : Req} {take : State → State} (hi : Judges i r take) {s : State} (hp : Passed s i r)
    (hn : NoReports s r.port) : exec i s = .next (take (taken s i r)) := by
  rw [hi, State.hostRequest_passed s i r _ hp, State.drainReports_none _ _ (show NoReports (taken s i r) r.port from hn)]

/-- A request is judged behind the reports of its port (R145, R154). -/
theorem Judges.behindReports {i : Instr} {r : Req} {take : State → State} (hi : Judges i r take) {s : State} (hp : Passed s i r) :
    BehindReports s i r := by
  obtain ⟨⟨code, payload, he, hw, hr⟩, hl⟩ := id hp
  obtain ⟨hturn, hnone⟩ := s.drainReports_inTurn r.port hw.1
  have hports : (s.drainReports r.port).ports = s.ports := by simp
  have hport : (s.drainReports r.port).port = s.port := by funext q; rw [State.port, State.port, hports]
  have hp' : Passed (s.drainReports r.port) i r := by
    refine ⟨⟨code, payload, he, ⟨by simpa using hw.1, ?_⟩, ?_⟩, ?_⟩
    · rw [hport]; exact hw.2
    · rw [hport]; exact hr
    · rw [hport]; exact hl
  refine ⟨_, hturn, hnone, hp', ?_⟩
  rw [hi.exec hp' hnone, hi, State.hostRequest_passed s i r _ hp, taken, State.drainReports_updPort]
  rfl

/-- The direct writes and CLOSE COMMISSIONING are requests of the Configuration Unit, which all are refused in SERVICE (R131, R136). -/
theorem judges_write {i : Instr} {r : Req} (hi : i = .closeCommissioning r ∨ (∃ b, i = .trunkProfileWrite r b)
    ∨ (∃ b, i = .channelProfileWrite r b) ∨ ∃ b, i = .lineBindingWrite r b) :
    ∃ take, Judges i r take ∧ ∀ s, s.config.phase = .SERVICE → take s = s.respond r.port .WRONG_PHASE [] := by
  rcases hi with rfl | ⟨b, rfl⟩ | ⟨b, rfl⟩ | ⟨b, rfl⟩
  · exact ⟨fun s => s.takeCloseCommissioning r.port, fun s => rfl, fun s h => by simp [State.takeCloseCommissioning, h]⟩
  · exact ⟨fun s => s.takeTrunkWrite r.port b, fun s => rfl, fun s h => by simp [State.takeTrunkWrite, State.directWrite, h]⟩
  · exact ⟨fun s => s.takeChannelWrite r.port b, fun s => rfl, fun s h => by simp [State.takeChannelWrite, State.directWrite, h]⟩
  · exact ⟨fun s => s.takeBindingWrite r.port b, fun s => rfl, fun s h => by simp [State.takeBindingWrite, State.directWrite, h]⟩

/-- PROPOSE is a request of the Configuration Unit (R139). -/
theorem judges_propose (r : Req) (b : ProposeBlock) : Judges (.propose r b) r fun s => s.takePropose r.port b := fun _ => rfl

/-- A direct write in COMMISSION (R131). -/
theorem State.directWrite_commission {α : Type} {s : State} (h : s.config.phase = .COMMISSION) (p : Port) (fields : Option α)
    (k : α → State) : s.directWrite p fields k = match fields with
      | none => s.respond p .BAD_ARGUMENT []
      | some x => k x := by
  unfold State.directWrite
  exact if_neg fun hn => hn h

/-! ### The close of commissioning -/

/-- A channel fails the check of CLOSE COMMISSIONING with a trunk: its profile names it and it is unconfigured (R136). -/
def FailsClose (s : State) (c : Channel) (t : Trunk) : Prop := (s.profile c).trunk = some t ∧ (s.trunk t).profile = none

/-- What the check of CLOSE COMMISSIONING finds at one channel (R136). -/
def State.failsAt (s : State) (c : Channel) : Option (Channel × Trunk) :=
  match (s.profile c).trunk with
  | some t => if s.unconfigured t then some (c, t) else none
  | none => none

/-- The check at one channel finds the channel with the trunk that it fails with. -/
theorem State.failsAt_iff (s : State) (c : Channel) (x : Channel × Trunk) : s.failsAt c = some x ↔ x.1 = c ∧ FailsClose s c x.2 := by
  obtain ⟨d, t⟩ := x
  unfold State.failsAt FailsClose State.unconfigured
  cases (s.profile c).trunk with
  | none => simp
  | some u =>
    simp only [Option.ite_none_right_eq_some, Option.isNone_iff_eq_none, Option.some.injEq, Prod.mk.injEq]
    constructor
    · rintro ⟨h, rfl, rfl⟩
      exact ⟨rfl, rfl, h⟩
    · rintro ⟨rfl, rfl, h⟩
      exact ⟨h, rfl, rfl⟩

/-- The check finds the lowest channel that fails (R136). -/
theorem State.failingChannel_lowest {s : State} {c : Channel} {t : Trunk} (h : FailsClose s c t)
    (hmin : ∀ d u, FailsClose s d u → c ≤ d) : s.failingChannel = some (c, t) := by
  have hc := (s.failsAt_iff c (c, t)).2 ⟨rfl, h⟩
  have hfind : s.failingChannel = (List.finRange 12).findSome? s.failsAt := rfl
  rcases e : s.failingChannel with _ | ⟨d, u⟩
  · rw [hfind, List.findSome?_eq_none_iff] at e
    cases (e c (List.mem_finRange c)).symm.trans hc
  · rw [hfind, List.findSome?_eq_some_iff] at e
    obtain ⟨before, k, after, hl, hk, hbefore⟩ := e
    obtain ⟨rfl, hd⟩ := (s.failsAt_iff k (d, u)).1 hk
    have hmem : c ∈ before ++ d :: after := hl ▸ List.mem_finRange c
    rcases List.mem_append.1 hmem with hm | hm
    · cases (hbefore c hm).symm.trans hc
    · have hsorted : (before ++ d :: after).Pairwise (· < ·) := hl ▸ List.pairwise_lt_finRange 12
      have hcd : c = d := by
        rcases List.mem_cons.1 hm with rfl | hm
        · rfl
        · have hlt := (List.pairwise_cons.1 (List.pairwise_append.1 hsorted).2.1).1 c hm
          exact absurd (hmin d u hd) (not_le.2 hlt)
      subst hcd
      rw [← hc, hk]

/-- The check finds nothing where no channel fails (R136). -/
theorem State.failingChannel_none {s : State} (h : ∀ c t, ¬ FailsClose s c t) : s.failingChannel = none := by
  have hfind : s.failingChannel = (List.finRange 12).findSome? s.failsAt := rfl
  rw [hfind, List.findSome?_eq_none_iff]
  intro c _
  by_contra hc
  obtain ⟨x, hx⟩ := Option.ne_none_iff_exists'.1 hc
  exact h c x.2 ((s.failsAt_iff c x).1 hx).2

/-- Settles O53. -/
theorem writesAndClose : Obligations.WritesAndClose := by
  refine ⟨fun i r s hp hn h => ?phase, fun r b s hc => ?trunk, fun r b s hc => ?channel, fun r b s hc => ?line,
    fun i r s hi hp => ?behind, fun r s hc => ?close⟩
  case phase =>
    rcases h with ⟨hi, hs⟩ | ⟨⟨b, rfl⟩, hs⟩
    · obtain ⟨take, hj, hservice⟩ := judges_write hi
      rw [hj.exec hp hn, hservice (taken s i r) hs]
    · rw [(judges_propose r b).exec hp hn, State.takePropose,
        if_pos (show (taken s (.propose r b) r).config.phase ≠ .SERVICE by rw [show (taken s _ r).config.phase = _ from hs]; decide)]
  case trunk =>
    intro i hp hn
    have hj : Judges i r fun s => s.takeTrunkWrite r.port b := fun _ => rfl
    rw [hj.exec hp hn, State.takeTrunkWrite, State.directWrite_commission (s := taken s i r) hc]
    cases trunkProfileOf b <;> rfl
  case channel =>
    intro i hp hn
    have hj : Judges i r fun s => s.takeChannelWrite r.port b := fun _ => rfl
    rw [hj.exec hp hn, State.takeChannelWrite, State.directWrite_commission (s := taken s i r) hc]
    cases channelProfileOf b <;> rfl
  case line =>
    intro i hp hn
    have hj : Judges i r fun s => s.takeBindingWrite r.port b := fun _ => rfl
    rw [hj.exec hp hn, State.takeBindingWrite, State.directWrite_commission (s := taken s i r) hc]
    cases lineBindingOf b <;> rfl
  case behind =>
    obtain ⟨take, hj, -⟩ := judges_write hi
    exact hj.behindReports hp
  case close =>
    intro i fails hp hn v hv
    obtain ⟨⟨_, _, _, ⟨h0, _⟩, _⟩, _⟩ := id hp
    have hj : Judges i r fun s => s.takeCloseCommissioning r.port := fun _ => rfl
    have hx : exec i s = .next (v.closePhase r.port) := by
      rw [hj.exec hp hn, State.takeCloseCommissioning, if_neg fun h => h hc, State.carryOutWrites_eq (taken s i r) v h0 hv]
    rw [hx]
    refine ⟨fun c t hf hmin => ?_, fun hf => ?_⟩
    · rw [State.closePhase, State.failingChannel_lowest hf hmin]
      rfl
    · rw [State.closePhase, State.failingChannel_none hf]

/-! ### Proposals -/

/-- A notice to every other LIVE port, in port order. -/
theorem State.postOthers_eq (s : State) (p : Port) (n : Notice) : s.postOthers p n = toOthers s p n := by
  unfold State.postOthers toOthers State.post
  rw [foldl_send]
  simp only [Bool.decide_and]

/-- A notice to the proposer. -/
theorem State.postProposer_eq (s : State) (p : Port) (n : Notice) : s.postProposer p n = toProposer s p n := rfl

/-- A proposal is OPEN exactly when its window timer runs. -/
theorem Proposal.isOpen_iff (x : Proposal) : x.isOpen = true ↔ ∃ us, x.status = .OPEN us := by
  unfold Proposal.isOpen Proposal.timer
  cases x.status <;> simp

/-- The OPEN proposal of a number, which CONCUR and WITHDRAW look for (R140, R143). -/
theorem State.openProposal_eq (s : State) (n : BitVec 16) (x : Proposal) :
    s.openProposal n = some x ↔ ∃ us q body, x = ⟨.OPEN us, n, q, body⟩ ∧ s.config.slot = some x := by
  unfold State.openProposal
  rw [Option.filter_eq_some_iff, Bool.and_eq_true, decide_eq_true_eq, Proposal.isOpen_iff]
  constructor
  · rintro ⟨hs, ⟨us, hu⟩, rfl⟩
    exact ⟨us, x.proposer, x.body, by rw [← hu], hs⟩
  · rintro ⟨us, q, body, rfl, hs⟩
    exact ⟨hs, ⟨us, rfl⟩, rfl⟩

/-- The Configuration Unit's own condition (Table 8-7). -/
theorem State.ownConditionFails_iff (s : State) (body : ProposalBody) : s.ownConditionFails body = true ↔ OwnConditionFails s body := by
  unfold State.ownConditionFails OwnConditionFails
  cases body <;> simp [Option.any_eq_true, State.unconfigured]

/-- The checks that CONCUR and WITHDRAW share, in COMMISSION (R140, R143). -/
theorem State.namedProposal_commission {s : State} (h : s.config.phase = .COMMISSION) (p : Port) (n : BitVec 16) (k : Proposal → State) :
    s.namedProposal p n k = s.respond p .WRONG_PHASE [] := by
  simp [State.namedProposal, h]

/-- The number 0 names no proposal (R140, R143). -/
theorem State.namedProposal_zero {s : State} (h : s.config.phase = .SERVICE) (p : Port) (k : Proposal → State) :
    s.namedProposal p 0#16 k = s.respond p .BAD_ARGUMENT [] := by
  simp [State.namedProposal, h]

/-- No OPEN proposal has the number (R140, R143). -/
theorem State.namedProposal_none {s : State} (h : s.config.phase = .SERVICE) {n : BitVec 16} (hn : n ≠ 0#16)
    (hs : ∀ us q body, s.config.slot ≠ some ⟨.OPEN us, n, q, body⟩) (p : Port) (k : Proposal → State) :
    s.namedProposal p n k = s.respond p .NO_PROPOSAL [] := by
  have hnone : s.openProposal n = none := Option.eq_none_iff_forall_ne_some.2 fun x hx => by
    obtain ⟨us, q, body, rfl, hx⟩ := (s.openProposal_eq n x).1 hx
    exact hs us q body hx
  simp [State.namedProposal, h, hn, hnone]

/-- The OPEN proposal of the number (R140, R143). -/
theorem State.namedProposal_open {s : State} (h : s.config.phase = .SERVICE) {n : BitVec 16} (hn : n ≠ 0#16) {us : Nat} {q : Port}
    {body : ProposalBody} (hs : s.config.slot = some ⟨.OPEN us, n, q, body⟩) (p : Port) (k : Proposal → State) :
    s.namedProposal p n k = k ⟨.OPEN us, n, q, body⟩ := by
  have hopen : s.openProposal n = some ⟨.OPEN us, n, q, body⟩ := (s.openProposal_eq n _).2 ⟨us, q, body, rfl, hs⟩
  simp [State.namedProposal, h, hn, hopen]

/-- CONCUR and WITHDRAW are requests of the Configuration Unit that begin with the shared checks (R140, R143). -/
theorem judges_named {i : Instr} {r : Req} {n : BitVec 16} (hi : i = .concur r n ∨ i = .withdraw r n) :
    ∃ take, Judges i r take ∧ ∀ s, ∃ k, take s = s.namedProposal r.port n k := by
  rcases hi with rfl | rfl
  · exact ⟨fun s => s.takeConcur r.port n, fun s => rfl, fun s => ⟨_, rfl⟩⟩
  · exact ⟨fun s => s.takeWithdraw r.port n, fun s => rfl, fun s => ⟨_, rfl⟩⟩

/-- A CONCUR of the OPEN proposal of its number (R140). -/
theorem State.takeConcur_open {s : State} (h : s.config.phase = .SERVICE) {n : BitVec 16} (hn : n ≠ 0#16) {us : Nat} {q : Port}
    {body : ProposalBody} (hs : s.config.slot = some ⟨.OPEN us, n, q, body⟩) (p : Port) :
    s.takeConcur p n = if q = p then s.respond p .SELF_CONCUR []
      else if s.ownConditionFails body then s.applyRefused ⟨.OPEN us, n, q, body⟩ p .INCOMPLETE
      else (s.setSlot (some ⟨.APPLYING p, n, q, body⟩)).send body.applyClaim :=
  State.namedProposal_open h hn hs p _

/-- A WITHDRAW of the OPEN proposal of its number (R143). -/
theorem State.takeWithdraw_open {s : State} (h : s.config.phase = .SERVICE) {n : BitVec 16} (hn : n ≠ 0#16) {us : Nat} {q : Port}
    {body : ProposalBody} (hs : s.config.slot = some ⟨.OPEN us, n, q, body⟩) (p : Port) :
    s.takeWithdraw p n = if q ≠ p then s.respond p .NOT_PERMITTED []
      else (s.respond p .OK []).withdrawSlot ⟨.OPEN us, n, q, body⟩ .WITHDRAW :=
  State.namedProposal_open h hn hs p _

/-- Settles O55. -/
theorem concurAndWithdraw : Obligations.ConcurAndWithdraw := by
  intro i r n s hi hp
  obtain ⟨take, hj, hnamed⟩ := judges_named hi
  obtain ⟨k, hk⟩ := hnamed (taken s i r)
  refine ⟨hj.behindReports hp, fun hn => ⟨fun hc => ?commission, fun hs => ⟨fun h0 => ?zero, fun h0 hslot => ?noProposal,
    fun us q body h0 hslot => ?_⟩⟩⟩
  case commission => rw [hj.exec hp hn, hk, State.namedProposal_commission (s := taken s i r) hc]
  case zero =>
    subst h0
    rw [hj.exec hp hn, hk, State.namedProposal_zero (s := taken s i r) hs]
  case noProposal => rw [hj.exec hp hn, hk, State.namedProposal_none (s := taken s i r) hs h0 hslot]
  have hconcur : i = .concur r n → exec i s = .next ((taken s i r).takeConcur r.port n) := fun hi => by
    have hj : Judges i r fun s => s.takeConcur r.port n := by subst hi; exact fun s => rfl
    exact hj.exec hp hn
  have hwithdraw : i = .withdraw r n → exec i s = .next ((taken s i r).takeWithdraw r.port n) := fun hi => by
    have hj : Judges i r fun s => s.takeWithdraw r.port n := by subst hi; exact fun s => rfl
    exact hj.exec hp hn
  rw [State.takeConcur_open (s := taken s i r) hs h0 hslot] at hconcur
  rw [State.takeWithdraw_open (s := taken s i r) hs h0 hslot] at hwithdraw
  have hown : (taken s i r).ownConditionFails body = true ↔ OwnConditionFails s body := State.ownConditionFails_iff s body
  refine ⟨fun hi hq => ?_, fun hi hq hf => ?_, fun hi hq hf => ?_, fun hi hq => ?_, fun hi hq => ?_⟩
  · rw [hconcur hi, if_pos hq]
  · rw [hconcur hi, if_neg hq, if_pos (hown.2 hf)]
    rfl
  · rw [hconcur hi, if_neg hq, if_neg fun h => hf (hown.1 h)]
    cases body <;> rfl
  · rw [hwithdraw hi, if_pos hq]
  · subst hq
    rw [hwithdraw hi, if_neg (by simp), State.withdrawSlot, State.postOthers_eq]
    rfl

/-- Settles O56. -/
theorem proposalEnds : Obligations.ProposalEnds := by
  refine ⟨fun p change s h0 hturn => ?report, fun s h0 => ⟨fun us n q body hs => ?expired, fun hs => ?noWindow⟩,
    fun done k q n body s h0 hs => ?answer⟩
  case report =>
    intro seen
    have hx : exec (.sessionReport p change) s = .next ((s.arrive (.sessionReport p change)).takeSessionReport p change) :=
      congrArg _ (State.taking_run _ _ _ h0 hturn)
    have hslot : (s.arrive (.sessionReport p change)).config.slot = s.config.slot := rfl
    rw [hx, State.takeSessionReport, hslot]
    have hseen : ((s.arrive (.sessionReport p change)).updConfig fun g =>
        { g with view := updAt g.view p fun _ => standingAfter change }) = seen := by cases change <;> rfl
    simp only [hseen]
    refine ⟨fun us n body cause hs hc => ?_, fun h => ?_⟩
    · rw [hs]
      rcases hc with ⟨rfl, rfl⟩ | ⟨rfl, rfl⟩ <;>
        simp only [withdrawalOf, Proposal.isOpen, Proposal.timer, Option.isSome_some, and_self, if_true, State.withdrawSlot,
          State.postOthers_eq] <;> rfl
    · rcases h with rfl | h
      · rcases s.config.slot with _ | x <;> rfl
      · split
        next x cause hs hc =>
          rw [if_neg]
          rintro ⟨hq, ho⟩
          obtain ⟨us, hu⟩ := (Proposal.isOpen_iff x).1 ho
          exact h us x.number x.body (by rw [hs, ← hu, ← hq])
        next => rfl
  case expired =>
    have hx : exec .windowTimerExpiry s = .next s.windowExpiry := congrArg _ (State.running_run _ _ h0)
    rw [hx, State.windowExpiry, hs]
    rfl
  case noWindow =>
    have hx : exec .windowTimerExpiry s = .next s.windowExpiry := congrArg _ (State.running_run _ _ h0)
    rw [hx]
    refine congrArg Host.Outcome.next ?_
    unfold State.windowExpiry
    split
    next x hx =>
      rw [if_neg]
      intro ho
      obtain ⟨us, hu⟩ := (Proposal.isOpen_iff x).1 ho
      exact hs us x.number x.proposer x.body (by rw [hx, ← hu])
    next => rfl
  case answer =>
    have hx : exec (.applyAnswer done) s = .next ((s.arrive (.applyAnswer done)).takeApplyAnswer done) :=
      congrArg _ (State.taking_run _ _ _ h0 (inTurn_free rfl))
    have hslot : (s.arrive (.applyAnswer done)).config.slot = _ := hs
    rw [hx, State.takeApplyAnswer, hslot]
    cases done <;> cases body <;> rfl

end Sys2Proof.Machine

/-! The ranges of the proposals' fields (8.2, 8.3). -/

namespace Sys2Proof.Machine

open Sys2Proof.Safety

/-! ### Bytes that name a trunk, a channel or a line -/

/-- A byte names a trunk exactly when it is the trunk's number. -/
theorem trunkOf_toNat {b : Byte} {t : Trunk} : trunkOf b = some t ↔ b.toNat = t.val := by
  unfold trunkOf
  split
  next h => simp [Fin.ext_iff]
  next h => exact ⟨nofun, fun hx => absurd (hx ▸ t.isLt) h⟩

/-- A byte names a channel exactly when it is the channel's number. -/
theorem channelOf_toNat {b : Byte} {c : Channel} : channelOf b = some c ↔ b.toNat = c.val := by
  unfold channelOf
  split
  next h => simp [Fin.ext_iff]
  next h => exact ⟨nofun, fun hx => absurd (hx ▸ c.isLt) h⟩

/-- A byte names a line exactly when it is the line's number. -/
theorem lineOf_toNat {b : Byte} {l : Line} : lineOf b = some l ↔ b.toNat = l.val := by
  unfold lineOf
  split
  next h => simp [Fin.ext_iff]
  next h => exact ⟨nofun, fun hx => absurd (hx ▸ l.isLt) h⟩

/-- The trunk byte of a channel profile: 0 to 2, or 3 for UNUSED. -/
theorem profileTrunkOf_iff {b : Byte} {x : Option Trunk} :
    profileTrunkOf b = some x ↔ b.toNat = match x with | some t => t.val | none => 3 := by
  have h3 : b = 3#8 ↔ b.toNat = 3 := ⟨fun h => by rw [h]; rfl, fun h => BitVec.eq_of_toNat_eq h⟩
  unfold profileTrunkOf
  simp only [h3]
  cases x with
  | none => by_cases h : b.toNat = 3 <;> simp [h]
  | some t =>
    have ht := t.isLt
    by_cases h : b.toNat = 3
    · rw [if_pos h]
      exact ⟨nofun, fun hx => by dsimp only at hx; omega⟩
    · rw [if_neg h]
      simp [trunkOf_toNat]

/-! ### The blocks -/

/-- A trunk profile block in range (Table 8-2). -/
theorem trunkProfileOf_iff {b : TrunkBlock} {t : Trunk} {p : TrunkProfile} : trunkProfileOf b = some (t, p) ↔
    b.trunk.toNat = t.val ∧ p = ⟨100 * b.rating.toNat, b.tNom.toNat, b.k.toNat, 10 * b.margin.toNat⟩
      ∧ 1000 ≤ p.rating ∧ p.rating ≤ 250000 ∧ 10 ≤ p.tNom ∧ 4 ≤ p.k ∧ p.k ≤ 16 ∧ 10 ≤ p.margin ∧ p.margin ≤ 100 := by
  rw [← trunkOf_toNat]
  unfold trunkProfileOf
  split
  next h => simp [h]
  next u h =>
    rw [h]
    constructor
    · intro hx
      split at hx
      next hr =>
        cases hx
        exact ⟨rfl, rfl, by dsimp only; omega⟩
      next => cases hx
    · rintro ⟨hu, rfl, hr⟩
      dsimp only at hr
      rw [if_pos (by omega), Option.some.inj hu]

/-- Precharge fields in range (Table 4-1, R73). -/
theorem prechargeOf_iff {b : PrechargeBlock} {p : Precharge} : prechargeOf b = some p ↔
    p = ⟨100 * b.allowance.toNat, 500 * b.probePeriod.toNat, b.probeOn.toNat, b.pulseLimit.toNat, b.target.toNat,
        50 * b.fillPeriod.toNat, b.fillOn.toNat, 10000 * b.fillTimeout.toNat⟩
      ∧ 100 ≤ p.allowance ∧ p.allowance ≤ 65500 ∧ 2000 ≤ p.probePeriod ∧ p.probePeriod ≤ 8000 ∧ 1 ≤ p.probeOn
      ∧ 4 ≤ p.pulseLimit ∧ p.pulseLimit ≤ 40 ∧ 1 ≤ p.target ∧ p.target ≤ 15 ∧ 50 ≤ p.fillPeriod ∧ p.fillPeriod ≤ 4000
      ∧ 1 ≤ p.fillOn ∧ p.fillOn < p.fillPeriod ∧ 10000 ≤ p.fillTimeout := by
  unfold prechargeOf
  constructor
  · intro hx
    split at hx
    next hr =>
      cases hx
      refine ⟨rfl, ?_⟩
      simp only [Config.msec]
      omega
    next => cases hx
  · rintro ⟨rfl, hr⟩
    dsimp only at hr
    rw [if_pos (by omega)]
    rfl

/-- The optional precharge fields of a channel profile block. -/
theorem optionalPrechargeOf_iff {x : Option PrechargeBlock} {y : Option Precharge} :
    optionalPrechargeOf x = some y ↔ match x, y with
      | none, none => True
      | some x, some y => prechargeOf x = some y
      | _, _ => False := by
  cases x <;> cases y <;> simp [optionalPrechargeOf]

/-- A channel profile block in range (Table 8-3). -/
theorem channelProfileOf_iff {b : ChannelBlock} {c : Channel} {p : ChannelProfile} : channelProfileOf b = some (c, p) ↔
    b.channel.toNat = c.val ∧ profileTrunkOf b.trunk = some p.trunk
      ∧ b.mask.toNat = p.mask.toNat ∧ p.limit = 100 * b.limit.toNat ∧ 1000 ≤ p.limit ∧ p.limit ≤ 65500
      ∧ optionalPrechargeOf b.precharge = some p.precharge := by
  rw [← channelOf_toNat]
  unfold channelProfileOf
  split
  next d t q hd ht hq =>
    rw [hd, ht, hq]
    constructor
    · intro hx
      split at hx
      next hr =>
        cases hx
        refine ⟨rfl, rfl, ?_, rfl, ?_⟩
        · simp only [BitVec.truncate_eq_setWidth, BitVec.toNat_setWidth]
          omega
        · simp only [and_true]
          omega
      next => cases hx
    · rintro ⟨h1, h2, h3, h4, h5, h6, h7⟩
      obtain ⟨pt, pm, pl, pp⟩ := p
      dsimp only at h4
      subst h4
      cases h1
      cases h2
      cases h7
      have hm : pm = b.mask.truncate 4 := BitVec.eq_of_toNat_eq (by
        have := pm.isLt
        simp only [BitVec.truncate_eq_setWidth, BitVec.toNat_setWidth] at h3 ⊢
        omega)
      have := pm.isLt
      dsimp only at h3 h5 h6
      rw [if_pos (by omega), hm]
  next hn =>
    refine ⟨nofun, fun ⟨h1, h2, h3, h4, h5, h6, h7⟩ => absurd h7 (hn c p.trunk p.precharge h1 h2)⟩

/-- A line binding block in range (Table 8-4). -/
theorem lineBindingOf_iff {b : LineBlock} {l : Line} {x : Binding} :
    lineBindingOf b = some (l, x) ↔ b.line.toNat = l.val ∧ bindingOf b.body = some x := by
  rw [← lineOf_toNat]
  unfold lineBindingOf
  split
  next k y hk hy => simp [hk, hy]
  next hn => exact ⟨nofun, fun ⟨h1, h2⟩ => absurd h2 (hn l x h1)⟩

/-- The part of a line binding block that its mode selects (Table 8-4). -/
theorem bindingOf_iff {b : LineBody} {x : Binding} : bindingOf b = some x ↔ match b, x with
    | .NONE, .NONE => True
    | .VETO ch, .VETO c => ch.toNat = c.val
    | .ASSIST ch w pr, .ASSIST c cur prio =>
      ch.toNat = c.val ∧ cur = 100 * w.toNat ∧ 100 ≤ cur ∧ cur ≤ 65500 ∧ prio = pr.toNat ∧ prio ≤ 7
    | _, _ => False := by
  cases b with
  | NONE => cases x <;> simp [bindingOf]
  | VETO ch => cases x <;> simp [bindingOf, channelOf_toNat]
  | ASSIST ch w pr =>
    have hparts : bindingOf (.ASSIST ch w pr) = some x ↔ ∃ c cur prio, x = .ASSIST c cur prio ∧ channelOf ch = some c
        ∧ currentOf w = some cur ∧ priorityOf pr = some prio := by
      unfold bindingOf
      dsimp only
      split
      next c cur prio h1 h2 h3 =>
        rw [h1, h2, h3]
        exact ⟨fun h => ⟨c, cur, prio, (Option.some.inj h).symm, rfl, rfl, rfl⟩, by
          rintro ⟨_, _, _, rfl, h1, h2, h3⟩
          cases h1; cases h2; cases h3; rfl⟩
      next hn => exact ⟨nofun, fun ⟨c, cur, prio, _, h1, h2, h3⟩ => absurd h3 (hn c cur prio h1 h2)⟩
    rw [hparts]
    cases x with
    | NONE => simp
    | VETO c => simp
    | ASSIST c cur prio =>
      simp only [channelOf_toNat, currentOf_iff, priorityOf_iff]
      constructor
      · rintro ⟨_, _, _, h, h1, h2, h3⟩
        cases h
        exact ⟨h1, by omega⟩
      · rintro ⟨h1, h2⟩
        exact ⟨c, cur, prio, rfl, h1, by omega, by omega⟩

/-- Settles O54. -/
theorem proposeRequest : Obligations.ProposeRequest := by
  refine ⟨fun r b s => ?propose, fun r b s hp => (judges_propose r b).behindReports hp, fun b t p => trunkProfileOf_iff,
    fun b body => ?body, fun b c p => ?channel, fun b p => prechargeOf_iff, fun b l x => ?line⟩
  case propose =>
    intro i hp hn hs
    have hphase : (taken s i r).config.phase = .SERVICE := hs
    have hslot : (taken s i r).config.slot = s.config.slot := rfl
    rw [(judges_propose r b).exec hp hn, State.takePropose, if_neg fun h => h hphase]
    cases proposalOf b with
    | none => rfl
    | some body =>
      rw [hslot]
      cases s.config.slot with
      | some x => rfl
      | none => simp only [State.postOthers_eq]; rfl
  case body =>
    cases b <;> cases body <;> simp [proposalOf, channelOf_toNat]
  case channel =>
    have h := channelProfileOf_iff (b := b) (c := c) (p := p)
    rw [profileTrunkOf_iff, optionalPrechargeOf_iff] at h
    refine h.trans ?_
    obtain ⟨pt, pm, pl, pp⟩ := p
    cases b.precharge <;> cases pp <;> cases pt <;> rfl
  case line =>
    have h := lineBindingOf_iff (b := b) (l := l) (x := x)
    rw [bindingOf_iff] at h
    refine h.trans ?_
    cases b.body <;> cases x <;> rfl

end Sys2Proof.Machine

/-! Sessions (9.4, 9.5) and the records that a host reads (11.4). -/

namespace Sys2Proof.Machine

open Sys2Proof.Safety

/-! ### Sessions -/

/-- A supervision period of 10 ms units is 0 exactly for the byte 0. -/
theorem tenMsOf_zero (period : Byte) : tenMsOf period = 0 ↔ period = 0#8 := by
  unfold tenMsOf
  refine ⟨fun h => BitVec.eq_of_toNat_eq ?_, fun h => by rw [h]; rfl⟩
  simp only [BitVec.toNat_ofNat]
  omega

/-- OPEN of a port that is not LIVE (R157, R172). -/
theorem State.ownOpen_opened {s : State} {p : Port} (h : (s.port p).state ≠ .LIVE) (period : Byte) :
    s.ownOpen p period = ((s.updPort p fun x => { x with
        state := .LIVE
        epoch := x.epoch + 1
        period := some (10 * period.toNat)
        timer := if period = 0#8 then none else some (10000 * period.toNat)
        replay := none
        queue := if x.state = .DOWN then [] else x.queue
        lost := if x.state = .DOWN then 0 else x.lost }).send
      (.openClaim p ((s.port p).epoch + 1))).send (.sessionReport p .OPEN) := by
  have htimer : (if tenMsOf period = 0 then none else some (tenMsOf period * Config.msec))
      = if period = 0#8 then none else some (10000 * period.toNat) := by
    simp only [tenMsOf_zero]
    refine if_congr Iff.rfl rfl (congrArg some ?_)
    simp only [tenMsOf, Config.msec]
    omega
  rw [State.ownOpen, if_neg h]
  dsimp only
  refine congrArg (fun u : State => (u.send _).send _) (State.updPort_congr _ _ _ _ ?_)
  rw [htimer]
  by_cases hd : (s.port p).state = .DOWN <;> simp only [hd, if_true, if_false] <;> rfl

/-- Settles O12. -/
theorem sessions : Obligations.Sessions := by
  refine ⟨fun r period s hf => ⟨fun hl => ?openLive, fun hl => ?opened⟩, fun r s hp => ?closed,
    fun p s h0 => ⟨fun hl ht => ?lapse, fun h => ?noLapse, ?attn⟩⟩
  case openLive =>
    have hx : exec (.openPort r period) s = .next ((taken s (.openPort r period) r).ownOpen r.port period) :=
      congrArg _ (s.hostRequest_fresh _ r _ hf (.inl rfl))
    rw [hx, State.ownOpen, taken_port, if_pos ((takenPort_frame _ _).1.trans hl), s.finish_taken _ _ _ _ hf,
      (takenPort_frame _ _).2.1]
  case opened =>
    have hx : exec (.openPort r period) s = .next ((taken s (.openPort r period) r).ownOpen r.port period) :=
      congrArg _ (s.hostRequest_fresh _ r _ hf (.inl rfl))
    have hport : ((taken s (.openPort r period) r).port r.port).state = (s.port r.port).state := by simp
    have hepoch : ((taken s (.openPort r period) r).port r.port).epoch = (s.port r.port).epoch := by simp
    rw [hx, State.ownOpen_opened (by rwa [hport]), hepoch]
  case closed => exact congrArg _ (s.hostRequest_passed _ r _ hp)
  case lapse =>
    have hx : exec (.supervisionExpiry p) s = .next (if (s.port p).state = .LIVE ∧ (s.port p).timer.isSome then
        ((s.updPort p fun r => { r with state := .LAPSED, timer := none }).send (.lapseClaim p)).send (.sessionReport p .LAPSE)
      else s) := congrArg _ (State.running_run _ _ h0)
    rw [hx, if_pos ⟨hl, ht⟩]
  case noLapse =>
    have hx : exec (.supervisionExpiry p) s = .next (if (s.port p).state = .LIVE ∧ (s.port p).timer.isSome then
        ((s.updPort p fun r => { r with state := .LAPSED, timer := none }).send (.lapseClaim p)).send (.sessionReport p .LAPSE)
      else s) := congrArg _ (State.running_run _ _ h0)
    rw [hx, if_neg]
    rintro ⟨hl, ht⟩
    rcases h with h | h
    · exact h hl
    · simp [h] at ht
  case attn => simp [PortRec.attn]

/-! ### Numbers in bytes -/

/-- A 16-bit field is its number in two bytes. -/
theorem be16_eq (w : BitVec 16) : be16 w = twoBytes w.toNat := by
  have h := w.isLt
  refine congrArg₂ (fun a b => [a, b]) (BitVec.eq_of_toNat_eq ?_) (BitVec.eq_of_toNat_eq ?_) <;>
    simp only [oneByte, BitVec.extractLsb'_toNat, BitVec.toNat_ofNat, Nat.shiftRight_eq_div_pow, Nat.reducePow] <;> omega

/-- A number below 2^16 in two bytes. -/
theorem nat16_eq (n : Nat) : nat16 n = twoBytes n := by
  rw [nat16, be16_eq]
  refine congrArg₂ (fun a b => [a, b]) (BitVec.eq_of_toNat_eq ?_) (BitVec.eq_of_toNat_eq ?_) <;>
    simp only [oneByte, BitVec.toNat_ofNat, Nat.reducePow] <;> omega

/-- A number in three bytes. -/
theorem nat24_eq (n : Nat) : nat24 n = threeBytes n := rfl

/-- A 32-bit field is its number in four bytes. -/
theorem be32_eq (w : BitVec 32) : be32 w = fourBytes w.toNat := by
  have h := w.isLt
  have hcons : ∀ {a b c d a' b' c' d' : Byte}, a = a' → b = b' → c = c' → d = d' → [a, b, c, d] = [a', b', c', d'] := by
    rintro _ _ _ _ _ _ _ _ rfl rfl rfl rfl
    rfl
  refine hcons (BitVec.eq_of_toNat_eq ?_) (BitVec.eq_of_toNat_eq ?_) (BitVec.eq_of_toNat_eq ?_) (BitVec.eq_of_toNat_eq ?_) <;>
    simp only [oneByte, BitVec.extractLsb'_toNat, BitVec.toNat_ofNat, Nat.shiftRight_eq_div_pow, Nat.reducePow] <;> omega

/-- A timer in two bytes. -/
theorem timerBytes_eq (timer : Option Nat) : timerBytes timer = leftBytes timer := by
  cases timer with
  | none => rfl
  | some us => exact nat16_eq _

/-- A timer takes two bytes. -/
theorem leftBytes_length (timer : Option Nat) : (leftBytes timer).length = 2 := by
  cases timer <;> rfl

/-! ### The records -/

/-- The lease fields take eight bytes (Table 11-8). -/
theorem leaseFields_length (lease : Option Lease) : (leaseFields lease).length = 8 := by
  rcases lease with _ | ⟨holder, orphan, declared, priority, wait⟩
  · rfl
  · cases holder <;> rfl

/-- The lease fields of the channel record (Table 11-8, R177). -/
theorem State.leaseFields_eq (s : State) (c : Channel) :
    [holderByte (s.holder c)] ++ epochBytes (s.holder c) ++ [leaseTermsByte ((s.chan c).lease.bind (·.orphan))]
      ++ nat16 (s.declared c / 100) ++ [match (s.chan c).lease with | some l => byteOf l.priority | none => 0xFF#8,
        match (s.chan c).lease with | some l => byteOf (l.wait / 10) | none => 0#8]
      = leaseFields (s.chan c).lease := by
  rw [State.holder, State.declared, nat16_eq]
  cases (s.chan c).lease with
  | none => rfl
  | some l =>
    obtain ⟨holder, orphan, declared, priority, wait⟩ := l
    cases holder <;> rcases orphan with _ | _ | _ | q <;>
      simp only [Option.map_some, epochBytes, be16_eq] <;> rfl

/-- The cause byte of the channel record (Table 11-8). -/
theorem channelCauseByte_eq (r : ChannelRec) : channelCauseByte r = match r.state, r.faultCause, r.shedCause with
    | .FAULTED, some .SHORT, _ => 3#8
    | .FAULTED, some .PRECHARGE_SHORT, _ => 4#8
    | .FAULTED, some .PRECHARGE_TIMEOUT, _ => 5#8
    | .SHED, _, some .SHED => 1#8
    | .SHED, _, some .TRIP => 2#8
    | _, _, _ => 0xFF#8 := by
  unfold channelCauseByte
  rcases r.faultCause with _ | f <;> rcases r.shedCause with _ | x <;> cases r.state <;> first
    | rfl
    | cases f <;> rfl
    | cases x <;> rfl

/-- The channel record (Table 11-8). -/
theorem State.channelRecord_eq (s : State) (c : Channel) : s.channelRecord c = channelFields s c := by
  have htrunk : trunkByte (s.chan c).trunk = oneByte (match (s.chan c).trunk with | some t => t.val | none => 3) := by
    cases (s.chan c).trunk <;> rfl
  unfold State.channelRecord channelFields
  simp only [← s.leaseFields_eq c, channelCauseByte_eq, timerBytes_eq, nat16_eq, be32_eq, htrunk, Nat.mul_comm 64, Nat.mul_comm 16]
  simp only [List.append_assoc, List.cons_append, List.nil_append]
  rfl

/-- The channel record takes 24 bytes. -/
theorem channelFields_length (s : State) (c : Channel) : (channelFields s c).length = 24 := by
  unfold channelFields
  dsimp only
  simp only [List.length_append, leaseFields_length, leftBytes_length]
  cases (s.chan c).stamp <;> rfl

/-- The trunk record (Table 11-9). -/
theorem State.trunkRecord_eq (s : State) (t : Trunk) : s.trunkRecord t = trunkFields s t := by
  unfold State.trunkRecord trunkFields profileField TrunkRec.headroom
  simp only [be16_eq, nat16_eq]
  cases (s.trunk t).profile <;> cases (s.trunk t).slot <;> cases (s.trunk t).lastShed <;> rfl

/-- The trunk record takes 20 bytes. -/
theorem trunkFields_length (s : State) (t : Trunk) : (trunkFields s t).length = 20 := by
  unfold trunkFields
  dsimp only
  cases (s.trunk t).profile <;> cases (s.trunk t).lastShed <;> rfl

/-- The port record (Table 11-10). -/
theorem State.portRecord_eq (s : State) (p : Port) : s.portRecord p = portFields s p := by
  have hheld : s.heldCount p = (channelsWhere fun c => decide (s.holder c = some (.port p (s.viewOf p).epoch))).length := rfl
  unfold State.portRecord portFields
  simp only [be16_eq, timerBytes_eq, hheld]
  cases (s.port p).period <;> rfl

/-- The port record takes 11 bytes. -/
theorem portFields_length (s : State) (p : Port) : (portFields s p).length = 11 := by
  simp only [portFields, List.length_append, List.length_cons, List.length_nil, leftBytes_length]
  rfl

/-- The block of a proposal (Table 11-5). -/
theorem ProposalBody.block_eq (body : ProposalBody) : body.block = blockFields body := by
  rcases body with ⟨t, p⟩ | ⟨c, p⟩ | ⟨l, x⟩ | c
  · simp only [ProposalBody.block, blockFields, nat16_eq]; rfl
  · have htrunk : trunkByte p.trunk = oneByte (match p.trunk with | some t => t.val | none => 3) := by
      cases p.trunk <;> rfl
    simp only [ProposalBody.block, blockFields, nat16_eq, htrunk, prechargeBytes]
    cases p.precharge <;> rfl
  · cases x <;> simp only [ProposalBody.block, blockFields, nat16_eq] <;> rfl
  · rfl

/-- The block of a proposal takes at most 15 bytes. -/
theorem blockFields_length (body : ProposalBody) : (blockFields body).length ≤ 15 := by
  rcases body with ⟨t, p⟩ | ⟨c, p⟩ | ⟨l, x⟩ | c
  · exact Nat.le_of_ble_eq_true rfl
  · unfold blockFields
    dsimp only
    cases p.precharge <;> exact Nat.le_of_ble_eq_true rfl
  · cases x <;> exact Nat.le_of_ble_eq_true rfl
  · exact Nat.le_of_ble_eq_true rfl

/-- The proposal record (Table 11-11). -/
theorem State.proposalRecord_eq (s : State) : s.proposalRecord = proposalFields s := by
  unfold State.proposalRecord proposalFields
  dsimp only
  cases s.config.slot with
  | none =>
    simp only [be16_eq, padTo]
    generalize decide (s.config.phase = .SERVICE) = service
    cases service <;> rfl
  | some x =>
    obtain ⟨status, n, p, body⟩ := x
    have hpad : 24 - (3 + (6 + (blockFields body).length)) = 15 - (blockFields body).length := by omega
    simp only [be16_eq, padTo, timerBytes_eq, ProposalBody.block_eq, Proposal.timer, List.length_append, leftBytes_length]
    cases status <;> cases body <;>
      simp [twoBytes, partiesByte, slotStatusCode, byteOf, oneByte, flagBit, weigh, kindByte, ProposalBody.kindOf, hpad,
        Nat.mul_comm 16]

/-- The proposal record takes 24 bytes. -/
theorem proposalFields_length (s : State) : (proposalFields s).length = 24 := by
  unfold proposalFields
  cases s.config.slot with
  | none => rfl
  | some x =>
    obtain ⟨status, n, p, body⟩ := x
    have h := blockFields_length body
    cases status <;> simp [twoBytes, leftBytes_length] <;> omega

/-- The notice record (Table 11-12). -/
theorem noticeRecord_eq (q : QueuedNotice) : noticeRecord q = noticeFields q := by
  obtain ⟨seq, kind, subject, cause, value⟩ := q
  have hsubject : subjectBytes subject = match subject with
      | .channel c => twoBytes c.val
      | .trunk t => twoBytes t.val
      | .proposal n => twoBytes n.toNat := by
    cases subject with
    | channel c => exact nat16_eq _
    | trunk t => exact nat16_eq _
    | proposal n => exact be16_eq n
  have hcause : noticeCauseByte cause = match cause with
      | none => 0xFF#8
      | some (.shed .SHED) => 1#8
      | some (.shed .TRIP) => 2#8
      | some (.fault .SHORT) => 3#8
      | some (.fault .PRECHARGE_SHORT) => 4#8
      | some (.fault .PRECHARGE_TIMEOUT) => 5#8
      | some (.withdraw .WITHDRAW) => 6#8
      | some (.withdraw .LAPSE) => 7#8
      | some (.withdraw .CLOSE) => 8#8
      | some (.kind .TRUNK_PROFILE) => 0#8
      | some (.kind .CHANNEL_PROFILE) => 1#8
      | some (.kind .LINE_BINDING) => 2#8
      | some (.kind .RELEASE_LOCKOUT) => 3#8
      | some (.status st) => statusCode st := by
    rcases cause with _ | x | x | x | x | x
    · rfl
    all_goals cases x <;> rfl
  unfold noticeRecord noticeFields
  simp only [hsubject, hcause]
  rcases value with _ | x | x | x | x | x | x <;> rfl

/-- The notice record takes 8 bytes. -/
theorem noticeFields_length (q : QueuedNotice) : (noticeFields q).length = 8 := by
  obtain ⟨seq, kind, subject, cause, value⟩ := q
  unfold noticeFields
  cases subject <;> rcases value with _ | x | x | x | x | x | x <;> rfl

/-- A part of a millisecond left counts either way (log entry 6). -/
theorem msLeft_bounds (us : Nat) : us / 1000 ≤ msLeft us ∧ msLeft us ≤ (us + 999) / 1000 := by
  by_cases h : us % Config.msec = 0
  · rw [msLeft, if_pos h]
    simp only [Config.msec] at h ⊢
    omega
  · rw [msLeft, if_neg h]
    simp only [Config.msec] at h ⊢
    split <;> omega

/-- Settles O14. -/
theorem statusReads : Obligations.StatusReads := by
  refine ⟨fun r b s hp => ⟨fun q hb => ?port, fun hb => ?noPort⟩, fun r b s hp ht => ⟨fun c hb => ?channel, fun hb => ?noChannel⟩,
    fun r b s hp => ⟨fun t hb => ?trunk, fun hb => ?noTrunk⟩, fun r s hp hn => ?proposal, fun r s hp => ?behind,
    fun s c t p q => ⟨⟨s.channelRecord_eq c, ?_⟩, ⟨s.trunkRecord_eq t, ?_⟩, ⟨s.portRecord_eq p, ?_⟩, ⟨s.proposalRecord_eq, ?_⟩,
      noticeRecord_eq q, ?_⟩, msLeft_bounds, by decide, by decide, by decide, by decide, by decide, by decide⟩
  case port =>
    have hx : exec (.readPort r b) s = .next ((taken s (.readPort r b) r).ownReadPort r.port b) :=
      congrArg _ (s.hostRequest_passed _ r _ hp)
    rw [hx, State.ownReadPort, portOf_iff.2 hb, ← s.finish_taken _ _ _ _ hp.1]
  case noPort =>
    have hx : exec (.readPort r b) s = .next ((taken s (.readPort r b) r).ownReadPort r.port b) :=
      congrArg _ (s.hostRequest_passed _ r _ hp)
    rw [hx, State.ownReadPort, portOf_none hb, ← s.finish_taken _ _ _ _ hp.1]
  case channel =>
    have hx : exec (.readChannel r b) s = .next ((taken s (.readChannel r b) r).takeReadChannel r.port b) :=
      congrArg _ (State.leaseCommand_taken s _ r hp ht)
    rw [hx, State.takeReadChannel, channelOf_iff.2 hb]
    rfl
  case noChannel =>
    have hx : exec (.readChannel r b) s = .next ((taken s (.readChannel r b) r).takeReadChannel r.port b) :=
      congrArg _ (State.leaseCommand_taken s _ r hp ht)
    rw [hx, State.takeReadChannel, channelOf_none hb]
  case trunk =>
    have hx : exec (.readTrunk r b) s = .next ((taken s (.readTrunk r b) r).takeReadTrunk r.port b) :=
      congrArg _ (s.hostRequest_passed _ r _ hp)
    rw [hx, State.takeReadTrunk, hb, trunkOf_ofNat]
    rfl
  case noTrunk =>
    have hx : exec (.readTrunk r b) s = .next ((taken s (.readTrunk r b) r).takeReadTrunk r.port b) :=
      congrArg _ (s.hostRequest_passed _ r _ hp)
    rw [hx, State.takeReadTrunk, trunkOf_none hb]
  case proposal =>
    have hj : Judges (.readProposal r) r fun s => s.takeReadProposal r.port := fun _ => rfl
    exact hj.exec hp hn
  case behind =>
    have hj : Judges (.readProposal r) r fun s => s.takeReadProposal r.port := fun _ => rfl
    exact hj.behindReports hp
  · rw [s.channelRecord_eq, channelFields_length]
  · rw [s.trunkRecord_eq, trunkFields_length]
  · rw [s.portRecord_eq, portFields_length]
  · rw [s.proposalRecord_eq, proposalFields_length]
  · rw [noticeRecord_eq, noticeFields_length]

end Sys2Proof.Machine

/-! The part's own clock (log entry 7). -/

namespace Sys2Proof.Machine

open Sys2Proof.Safety

/-! ### What is due -/

/-- A pulse is over: it has run for its on-time, or has ended with its sample still to take (R110). -/
theorem State.pulseOver_iff (s : State) (c : Channel) : s.pulseOver c = true
    ↔ (s.driver c).pulse = some 0 ∨ ((s.driver c).pulse = none ∧ s.sense.deferred[c] = true) := by
  simp [State.pulseOver, runOut]

/-- The period timer of a run in PROBE has run out. -/
theorem Run.periodOut_probe (r : Run) : r.periodOut true = true ↔ ∃ n, r.phase = .PROBE n ∧ r.period = some 0 := by
  unfold Run.periodOut
  cases r.phase <;> simp [runOut]

/-- The period timer of a run in FILL has run out. -/
theorem Run.periodOut_fill (r : Run) : r.periodOut false = true ↔ ∃ timer, r.phase = .FILL timer ∧ r.period = some 0 := by
  unfold Run.periodOut
  cases r.phase <;> simp [runOut]

/-- The fill timer of a run has run out. -/
theorem Run.fillOut_iff (r : Run) : r.fillOut = true ↔ r.phase = .FILL (some 0) := by
  unfold Run.fillOut
  cases r.phase <;> simp [runOut]

/-- The window timer of a proposal has run out. -/
theorem Proposal.runOut_iff (x : Proposal) : runOut x.timer = true ↔ x.status = .OPEN 0 := by
  unfold Proposal.timer
  cases x.status <;> simp [runOut]

/-- The commands due are those whose timer has run out. -/
theorem State.mem_dueList (s : State) (d : Instr) : d ∈ s.dueList ↔ DueWhen s d := by
  simp only [State.dueList, List.mem_append, List.mem_map, mem_channelsWhere, List.mem_filter, List.mem_finRange, true_and,
    decide_eq_true_eq, List.mem_flatMap, List.mem_ite_nil_right, List.mem_singleton, State.pulseOver_iff, Option.any_eq_true,
    Run.periodOut_probe, Run.periodOut_fill, Run.fillOut_iff, Proposal.runOut_iff, or_assoc]
  cases d <;> simp [DueWhen, runOut]
  case waitLimitExpiry c =>
    constructor
    · rintro ⟨e, ⟨⟨t, ht⟩, h0⟩, hc⟩
      exact ⟨t, e, ht, hc, h0⟩
    · rintro ⟨t, e, ht, hc, h0⟩
      exact ⟨e, ⟨⟨t, ht⟩, h0⟩, hc⟩
  case pulseEnd c vo => rw [and_comm, @eq_comm _ vo]

/-! ### The order of what is due at once -/

/-- The commands of a list stand in the order of log entry 7, with places from `lo` on and before `hi`. -/
def Ranked (lo hi : Nat) (l : List Instr) : Prop :=
  l.Pairwise (fun a b => dueRank a ≤ dueRank b) ∧ ∀ d ∈ l, lo ≤ dueRank d ∧ dueRank d < hi

/-- Two lists in order, one behind the other. -/
theorem Ranked.append {a b c : Nat} {l m : List Instr} (hl : Ranked a b l) (hm : Ranked b c m) (hab : a ≤ b) (hbc : b ≤ c) :
    Ranked a c (l ++ m) := by
  refine ⟨List.pairwise_append.2 ⟨hl.1, hm.1, fun x hx y hy => ?_⟩, fun d hd => ?_⟩
  · have := hl.2 x hx
    have := hm.2 y hy
    omega
  · rcases List.mem_append.1 hd with h | h
    · have := hl.2 d h
      omega
    · have := hm.2 d h
      omega

/-- The commands of the members of a unit's list that are due. -/
theorem ranked_map {n : Nat} (p : Fin n → Bool) (f : Fin n → Instr) (k : Nat) (h : ∀ x, dueRank (f x) = k + x.val) :
    Ranked k (k + n) (((List.finRange n).filter p).map f) := by
  refine ⟨List.pairwise_map.2 (((List.pairwise_lt_finRange n).filter p).imp fun {a b} hab => ?_), fun d hd => ?_⟩
  · rw [h, h]
    have : a.val < b.val := hab
    omega
  · obtain ⟨x, -, rfl⟩ := List.mem_map.1 hd
    rw [h]
    omega

/-- A command that is due or not. -/
theorem ranked_ite (c : Prop) [Decidable c] (i : Instr) (k : Nat) (h : dueRank i = k) : Ranked k (k + 1) (if c then [i] else []) := by
  split
  · exact ⟨List.pairwise_singleton _ _, fun d hd => by rw [List.mem_singleton.1 hd]; omega⟩
  · exact ⟨List.Pairwise.nil, fun d hd => nomatch hd⟩

/-- Commands of one place. -/
theorem ranked_same {α : Type} (f : α → Instr) (l : List α) (k : Nat) (h : ∀ x, dueRank (f x) = k) : Ranked k (k + 1) (l.map f) := by
  refine ⟨List.pairwise_map.2 (List.pairwise_of_forall fun a b => by rw [h, h]), fun d hd => ?_⟩
  obtain ⟨x, -, rfl⟩ := List.mem_map.1 hd
  rw [h]
  omega

/-- What is due stands in the order of log entry 7. -/
theorem State.dueList_ranked (s : State) : Ranked 0 51 s.dueList := by
  have h0 := ranked_map s.pulseOver (fun c => Instr.pulseEnd c s.sense.voPin[c]) 0 fun x => (Nat.zero_add _).symm
  have h1 := h0.append (ranked_ite (s.sense.voltageTimer = 0) (.sampleInstant s.sense.voPin s.sense.vfPin) 12 rfl) (by decide) (by decide)
  have h2 := h1.append (ranked_ite (s.sense.currentTimer = 0) (.currentSample (s.sense.isPin.map fun x => [x])) 13 rfl) (by decide)
    (by decide)
  have h3 := h2.append (ranked_map (fun t => decide ((s.trunk t).interval = 0)) .budgetIntervalExpiry 14 fun x => rfl) (by decide) (by decide)
  have h4 := h3.append (ranked_map (fun t => runOut (s.trunk t).shedTimer) .shedIntervalExpiry 17 fun x => rfl) (by decide) (by decide)
  have h5 := h4.append (ranked_map (fun t => (s.run t).any fun r => r.periodOut true) .probePeriodExpiry 20 fun x => rfl)
    (by decide) (by decide)
  have h6 := h5.append (ranked_map (fun t => (s.run t).any fun r => r.periodOut false) .fillPeriodExpiry 23 fun x => rfl)
    (by decide) (by decide)
  have h7 := h6.append (ranked_map (fun t => (s.run t).any Run.fillOut) .fillTimerExpiry 26 fun x => rfl) (by decide) (by decide)
  have h8 := h7.append (ranked_map (fun c => runOut (s.chan c).onStable) .onStableExpiry 29 fun x => rfl) (by decide) (by decide)
  have h9 := h8.append (ranked_map (fun l => runOut (s.line l).debounce) .debounceExpiry 41 fun x => rfl) (by decide) (by decide)
  have h10 := h9.append (ranked_same (fun e : Entry => .waitLimitExpiry e.channel)
    ((List.finRange 3).flatMap fun t => (s.queue t).filter fun e => runOut e.timer) 45 fun x => rfl) (by decide) (by decide)
  have h11 := h10.append (ranked_ite (s.config.slot.any (fun x => runOut x.timer) = true) .windowTimerExpiry 46 rfl) (by decide) (by decide)
  exact h11.append (ranked_map (fun p => runOut (s.port p).timer) .supervisionExpiry 47 fun x => rfl) (by decide) (by decide)

/-- Settles O2. -/
theorem emptyQueueStep : Obligations.EmptyQueueStep := by
  intro s hq
  have hstep : step s = idle s := by rw [step, hq]
  rw [hstep]
  refine ⟨fun h => ?held, fun h m rest hm => ?message, fun h hm c hc => ?expiry, fun h hm hc => ?tick, ?none, fun c hc => ?first, ?later⟩
  case held => rw [idle, if_pos h]
  case message =>
    have hown : s.ownCommand = some m := by rw [State.ownCommand, hm]
    rw [idle, if_neg (by simp [h]), hown]
  case expiry =>
    have hown : s.ownCommand = some c := by rw [State.ownCommand, hm, hc]
    rw [idle, if_neg (by simp [h]), hown]
  case tick =>
    have hown : s.ownCommand = none := by rw [State.ownCommand, hm, hc]
    rw [idle, if_neg (by simp [h]), hown]
  case none =>
    rw [State.due, List.head?_eq_none_iff, List.eq_nil_iff_forall_not_mem]
    exact forall_congr' fun c => not_congr (s.mem_dueList c)
  case first =>
    obtain ⟨rest, hl⟩ := List.head?_eq_some_iff.1 (show s.dueList.head? = some c from hc)
    have hranked := s.dueList_ranked.1
    rw [hl] at hranked
    refine ⟨(s.mem_dueList c).1 (hl ▸ List.mem_cons_self), fun d hd => ?_⟩
    have hd' : d ∈ c :: rest := hl ▸ (s.mem_dueList d).2 hd
    rcases List.mem_cons.1 hd' with rfl | hd'
    · exact le_rfl
    · exact (List.pairwise_cons.1 hranked).1 d hd'
  case later =>
    have hrun : ∀ r : Run, r.tick = laterRun r := fun ⟨_, phase, _, _⟩ => by cases phase <;> rfl
    have hproposal : ∀ x : Proposal, x.tick = laterProposal x := fun ⟨status, _, _, _⟩ => by cases status <;> rfl
    refine ⟨rfl, fun k => ?_, fun c => ?_, fun k => ?_, fun k => ?_, fun c => ?_, rfl, fun l => ?_, fun p => ?_, ?_⟩
    · exact Vector.getElem_map _ _
    · exact Vector.getElem_map _ _
    · exact Vector.getElem_map _ _
    · refine (Vector.getElem_map _ _).trans ?_
      rw [funext hrun]
      rfl
    · exact Vector.getElem_map _ _
    · exact Vector.getElem_map _ _
    · exact Vector.getElem_map _ _
    · rw [← funext hproposal]
      rfl

end Sys2Proof.Machine

/-! The leases of a port that lapses or closes (2.5). -/

namespace Sys2Proof.Machine

open Sys2Proof.Safety

/-! ### Sums over the channels -/

/-- A sum over the channels of which one gains a term. -/
theorem sum_gain (f g : Channel → Nat) (c : Channel) (hc : f c = 0) (hne : ∀ d, d ≠ c → g d = f d) :
    ((List.finRange 12).map g).sum = ((List.finRange 12).map f).sum + g c := by
  have hrest : ∑ d ∈ Finset.univ.erase c, g d = ∑ d ∈ Finset.univ.erase c, f d :=
    Finset.sum_congr rfl fun d hd => hne d (Finset.ne_of_mem_erase hd)
  rw [← Fin.sum_univ_def, ← Fin.sum_univ_def, ← Finset.add_sum_erase _ g (Finset.mem_univ c), ← Finset.add_sum_erase _ f (Finset.mem_univ c),
    hc, hrest, Nat.zero_add, Nat.add_comm]

/-! ### What the end of one lease adds -/

/-- With no lease ended nothing has changed. -/
theorem leasesEnded_none {s u : State} (ht : u.trunks = s.trunks) (ha : u.accounts = s.accounts) (hq : u.queues = s.queues)
    (hd : u.drivers = s.drivers) : LeasesEnded s u fun _ => false := by
  have htrunk : ∀ t, u.trunk t = s.trunk t := fun t => by rw [State.trunk, State.trunk, ht]
  have hacct : ∀ c, u.acct c = s.acct c := fun c => by rw [State.acct, State.acct, ha]
  have hqueue : ∀ t, u.queue t = s.queue t := fun t => by rw [State.queue, State.queue, hq]
  have hdriver : ∀ c, u.driver c = s.driver c := fun c => by rw [State.driver, State.driver, hd]
  refine ⟨fun c hc => (Bool.false_ne_true hc).elim, fun c _ => ⟨hacct c, hdriver c⟩, fun c _ => hacct c, fun t => ⟨?_, ?_⟩⟩
  · rw [htrunk]
    simp
  · rw [hqueue]
    simp

/-- A change of what is no part of the ends of leases. -/
theorem leasesEnded_congr {s u v : State} {ends ends' : Channel → Bool} (h : LeasesEnded s u ends) (he : ends' = ends)
    (ht : v.trunks = u.trunks) (ha : v.accounts = u.accounts) (hq : v.queues = u.queues) (hd : v.drivers = u.drivers)
    (hc : ∀ c, ends c = true → v.chan c = u.chan c) (hm : ∀ m ∈ u.inFlight, m ∈ v.inFlight) : LeasesEnded s v ends' := by
  subst he
  have htrunk : ∀ t, v.trunk t = u.trunk t := fun t => by rw [State.trunk, State.trunk, ht]
  have hacct : ∀ c, v.acct c = u.acct c := fun c => by rw [State.acct, State.acct, ha]
  have hqueue : ∀ t, v.queue t = u.queue t := fun t => by rw [State.queue, State.queue, hq]
  have hdriver : ∀ c, v.driver c = u.driver c := fun c => by rw [State.driver, State.driver, hd]
  obtain ⟨h1, h2, h3, h4⟩ := h
  refine ⟨fun c hx => ?_, fun c hx => ?_, fun c hx => ?_, fun t => ?_⟩
  · obtain ⟨hchan, hdrv, hfree, habort, hcharge, hhead⟩ := h1 c hx
    rw [hc c hx, hdriver, hacct]
    exact ⟨hchan, hdrv, fun h => hm _ (hfree h), fun h => hm _ (habort h), fun t hx hy => ⟨(hcharge t hx hy).1, hm _ (hcharge t hx hy).2⟩,
      fun t hx hy hz => hm _ (hhead t hx hy hz)⟩
  · rw [hacct, hdriver]
    exact h2 c hx
  · rw [hacct]
    exact h3 c hx
  · rw [htrunk, hqueue]
    exact h4 t

/-- The entry of a channel leaves the queue of its trunk, when it is QUEUED. -/
theorem leaseEnded_queue (u : State) (c : Channel) (own : Bool) (t : Trunk) : (leaseEnded u c own).queue t
    = (u.queue t).filter fun e => !(decide (e.channel = c) && decide ((u.chan c).state = .QUEUED) && decide ((u.chan c).trunk = some t)) := by
  have hq : (leaseEnded u c own).queue t = (if (u.chan c).state = .QUEUED then queuesWithout u c else u.queues)[t] := rfl
  rw [hq]
  by_cases h : (u.chan c).state = .QUEUED
  · rw [if_pos h, queuesWithout]
    cases htr : (u.chan c).trunk with
    | none => simp [State.queue]
    | some k =>
      refine (updAt_get u.queues k t _).trans ?_
      by_cases e : t = k
      · subst e
        rw [if_pos rfl]
        refine List.filter_congr fun x _ => ?_
        simp [h]
      · rw [if_neg e]
        simp [State.queue, Ne.symm e]
  · rw [if_neg h]
    simp [State.queue, h]

/-- The account of a channel after the end of a lease: that of the driven channel is cleared. -/
theorem leaseEnded_acct (u : State) (c d : Channel) (own : Bool) : (leaseEnded u c own).acct d
    = if d = c ∧ isDriven (u.chan c).state = true ∧ (u.acct c).charged ≠ none then Account.reset else u.acct d := by
  have ha : (leaseEnded u c own).acct d = (if isDriven (u.chan c).state then returnedAccounts u c else u.accounts)[d] := rfl
  rw [ha]
  by_cases h : isDriven (u.chan c).state = true
  · rw [if_pos h, returnedAccounts]
    cases hch : (u.acct c).charged with
    | none => simp [State.acct]
    | some k =>
      refine (updAt_get u.accounts c d _).trans ?_
      by_cases e : d = c <;> simp [e, h, State.acct]
  · rw [if_neg h]
    simp [State.acct, h]

/-- The trunk record after the end of a lease: the reservation of a driven channel charged against it is returned. -/
theorem leaseEnded_trunk (u : State) (c : Channel) (own : Bool) (t : Trunk) : (leaseEnded u c own).trunk t
    = if isDriven (u.chan c).state = true ∧ (u.acct c).charged = some t then returnedFrom u c (u.trunk t) else u.trunk t := by
  have ht : (leaseEnded u c own).trunk t = (if isDriven (u.chan c).state then returnedTrunks u c else u.trunks)[t] := rfl
  rw [ht]
  by_cases h : isDriven (u.chan c).state = true
  · rw [if_pos h, returnedTrunks]
    cases hch : (u.acct c).charged with
    | none => simp [State.trunk]
    | some k =>
      refine (updAt_get u.trunks k t _).trans ?_
      by_cases e : t = k
      · subst e
        simp [h, State.trunk]
      · simp [e, Ne.symm e, State.trunk]
  · rw [if_neg h]
    simp [State.trunk, h]

/-- The record of the channel whose lease has ended, and of the others. -/
theorem leaseEnded_chan (u : State) (c d : Channel) (own : Bool) :
    (leaseEnded u c own).chan d = if d = c then freed (u.chan c) else u.chan d := updAt_get u.channels c d _

/-- The driver of the channel whose lease has ended, and the others. -/
theorem leaseEnded_driver (u : State) (c d : Channel) (own : Bool) :
    (leaseEnded u c own).driver d = if d = c then { u.driver c with pulse := none } else u.driver d := updAt_get u.drivers c d _

/-- The messages of the end of a lease. -/
theorem leaseEnded_inFlight (u : State) (c : Channel) (own : Bool) :
    (leaseEnded u c own).inFlight = u.inFlight ++ departure u c true ++ endReports u c (u.chan c).lockedOut own := rfl

/-- One lease more has ended. -/
theorem leasesEnded_endLease {s u : State} {ends ends' : Channel → Bool} {c : Channel} (h : LeasesEnded s u ends)
    (hu : u.chan c = s.chan c) (hc : ends c = false) (hc' : ends' c = true) (hne : ∀ d, d ≠ c → ends' d = ends d) :
    LeasesEnded s (u.endLease c false true) ends' := by
  rw [State.endLease_eq]
  obtain ⟨h1, h2, h3, h4⟩ := h
  obtain ⟨hacct, hdriver⟩ := h2 c hc
  have hold : ∀ m ∈ u.inFlight, m ∈ (leaseEnded u c false).inFlight := fun m hm => by
    rw [leaseEnded_inFlight, List.append_assoc]
    exact List.mem_append_left _ hm
  have hdeparts : ∀ m ∈ departure u c true, m ∈ (leaseEnded u c false).inFlight := fun m hm => by
    rw [leaseEnded_inFlight, List.append_assoc]
    exact List.mem_append_right _ (List.mem_append_left _ hm)
  have hreturn : isDriven (s.chan c).state = true → ∀ m ∈ returnEvents u c, m ∈ (leaseEnded u c false).inFlight := fun hd m hm => by
    refine hdeparts m ?_
    unfold departure
    rw [hu]
    cases hs : (s.chan c).state <;> simp_all [isDriven]
  refine ⟨fun d hd => ?ended, fun d hd => ?others, fun d hd => ?undriven, fun t => ?trunk⟩
  case ended =>
    rw [leaseEnded_chan, leaseEnded_driver, leaseEnded_acct]
    by_cases e : d = c
    · subst e
      rw [if_pos rfl, if_pos rfl, hu, hacct, hdriver]
      refine ⟨rfl, rfl, fun hl => ?_, fun hp => hdeparts _ ?_, fun t hd hch => ⟨?_, hreturn hd _ ?_⟩, fun t hq ht hh => hdeparts _ ?_⟩
      · rw [leaseEnded_inFlight]
        refine List.mem_append_right _ ?_
        simp [endReports, hu, hl]
      · unfold departure
        rw [hu]
        cases hs : (s.chan d).state <;> simp_all [isPulsing]
      · rw [if_pos ⟨rfl, hd, by simp [hch]⟩]
        rfl
      · unfold returnEvents
        rw [hacct, hch]
        dsimp only
        split <;> simp
      · have hqueue := (h4 t).2
        have hhead : u.isHead t d = true := by
          obtain ⟨x, hx, hxc⟩ := Option.map_eq_some_iff.1 hh
          obtain ⟨rest, hr⟩ := List.head?_eq_some_iff.1 hx
          have hkeep : (!(ends x.channel && decide ((s.chan x.channel).state = .QUEUED)
              && decide ((s.chan x.channel).trunk = some t))) = true := by rw [hxc, hc]; rfl
          rw [hr, List.filter_cons, if_pos hkeep] at hqueue
          simp [State.isHead, hqueue, hxc]
        simp [departure, hu, hq, headEvents, ht, hhead]
    · rw [hne d e] at hd
      obtain ⟨hchan, hdrv, hfree, habort, hcharge, hhead⟩ := h1 d hd
      rw [if_neg e, if_neg e, if_neg fun hx => e hx.1]
      exact ⟨hchan, hdrv, fun h => hold _ (hfree h), fun h => hold _ (habort h),
        fun t hx hy => ⟨(hcharge t hx hy).1, hold _ (hcharge t hx hy).2⟩, fun t hx hy hz => hold _ (hhead t hx hy hz)⟩
  case others =>
    have e : d ≠ c := by rintro rfl; simp [hc'] at hd
    rw [hne d e] at hd
    rw [leaseEnded_acct, leaseEnded_driver, if_neg fun hx => e hx.1, if_neg e]
    exact h2 d hd
  case undriven =>
    rw [leaseEnded_acct, if_neg]
    · exact h3 d hd
    · rintro ⟨rfl, hx, -⟩
      rw [hu, hd] at hx
      cases hx
  case trunk =>
    obtain ⟨htrunk, hqueue⟩ := h4 t
    rw [leaseEnded_trunk, leaseEnded_queue, hu, hacct]
    refine ⟨?_, ?_⟩
    · have hsum := sum_gain
        (fun d => if (ends d && isDriven (s.chan d).state && decide ((s.acct d).charged = some t)) = true then (s.acct d).reservation else 0)
        (fun d => if (ends' d && isDriven (s.chan d).state && decide ((s.acct d).charged = some t)) = true then (s.acct d).reservation else 0)
        c (by simp [hc]) (fun d hd => by rw [hne d hd])
      rw [hsum]
      have hany : ∀ b : Bool, (b = (isDriven (s.chan c).state && decide ((s.acct c).charged = some t))) →
          ((s.trunk t).slot.any fun d => ends' d && isDriven (s.chan d).state && decide ((s.acct d).charged = some t))
          = (((s.trunk t).slot.any fun d => ends d && isDriven (s.chan d).state && decide ((s.acct d).charged = some t))
            || (decide ((s.trunk t).slot = some c) && b)) := by
        rintro _ rfl
        cases hslot : (s.trunk t).slot with
        | none => rfl
        | some d =>
          by_cases e : d = c
          · subst e; simp [hc, hc']
          · simp [hne d e, e]
      by_cases hr : isDriven (s.chan c).state = true ∧ (s.acct c).charged = some t
      · rw [if_pos hr, htrunk, hany true (by simp [hr.1, hr.2])]
        simp only [returnedFrom, hacct, hc', hr.1, hr.2, Nat.sub_sub, Bool.and_true, decide_true, if_true]
        by_cases hx : ((s.trunk t).slot.any fun d => ends d && isDriven (s.chan d).state && decide ((s.acct d).charged = some t)) = true
        · simp [hx]
        · rw [Bool.not_eq_true] at hx
          simp [hx]
      · have hb : (isDriven (s.chan c).state && decide ((s.acct c).charged = some t)) = false := by
          simpa using hr
        rw [if_neg hr, htrunk, hany false hb.symm]
        have hzero : (ends' c && isDriven (s.chan c).state && decide ((s.acct c).charged = some t)) = false := by
          rw [Bool.and_assoc, hb, Bool.and_false]
        simp [hzero]
    · rw [hqueue, List.filter_filter]
      refine List.filter_congr fun e _ => ?_
      by_cases h : e.channel = c
      · rw [h, hc, hc']
        simp
      · rw [hne _ h]
        simp [h]

/-! ### The treatment of the leases of a port -/

/-- From `s`, with port view `view`, the leases of the channels of a list have been treated: those of `ends` have ended, each record is
`becomes` of its channel, and the notices `told` are sent. -/
structure LeasesTreated (s : State) (view : Vector PortView 4) (ends : Channel → Bool) (becomes : Channel → ChannelRec)
    (told : Channel → List Instr) (treated : List Channel) (u : State) : Prop where
  frame : u = { s with channels := u.channels, portView := view, inFlight := u.inFlight, trunks := u.trunks,
                       accounts := u.accounts, queues := u.queues, drivers := u.drivers }
  ended : LeasesEnded s u fun c => decide (c ∈ treated) && ends c
  done : ∀ c ∈ treated, u.chan c = becomes c
  left : ∀ c, c ∉ treated → u.chan c = s.chan c
  sent : ∀ c ∈ treated, ∀ m ∈ told c, m ∈ u.inFlight

section

variable {s u : State} {view : Vector PortView 4} {ends : Channel → Bool} {becomes : Channel → ChannelRec}
  {told : Channel → List Instr} {treated : List Channel} {c : Channel}

/-- A lease that ends. -/
theorem LeasesTreated.endLease (h : LeasesTreated s view ends becomes told treated u) (hc : c ∉ treated) (he : ends c = true)
    (hb : becomes c = freed (s.chan c)) (hm : told c = []) :
    LeasesTreated s view ends becomes told (c :: treated) (u.endLease c false true) := by
  have hu := h.left c hc
  have hchan : ∀ d, (u.endLease c false true).chan d = if d = c then freed (u.chan c) else u.chan d := fun d => by
    rw [State.endLease_eq, leaseEnded_chan]
  refine ⟨?frame, ?ended, fun d hd => ?done, fun d hd => ?left, fun d hd m hx => ?sent⟩
  case frame =>
    rw [State.endLease_eq]
    have := h.frame
    unfold leaseEnded goneTo State.setInFlight
    rw [this]
  case ended =>
    refine leasesEnded_endLease h.ended hu (by simp [hc]) (by simp [he]) fun d hd => by simp [hd]
  case done =>
    rw [hchan]
    by_cases e : d = c
    · rw [if_pos e, hu, e, hb]
    · rw [if_neg e]
      exact h.done d ((List.mem_cons.1 hd).resolve_left e)
  case left =>
    rw [hchan, if_neg (show ¬ d = c by rintro rfl; exact hd List.mem_cons_self)]
    exact h.left d fun hx => hd (List.mem_cons_of_mem _ hx)
  case sent =>
    rcases List.mem_cons.1 hd with rfl | hd
    · rw [hm] at hx
      cases hx
    · rw [State.endLease_eq, leaseEnded_inFlight, List.append_assoc]
      exact List.mem_append_left _ (h.sent d hd m hx)

/-- A lease that stays. -/
theorem LeasesTreated.keep (h : LeasesTreated s view ends becomes told treated u) (hc : c ∉ treated) (he : ends c = false)
    (hb : becomes c = s.chan c) (hm : told c = []) : LeasesTreated s view ends becomes told (c :: treated) u := by
  refine ⟨h.frame, leasesEnded_congr h.ended (funext fun d => ?_) rfl rfl rfl rfl (fun _ _ => rfl) (fun _ => id), fun d hd => ?_,
    fun d hd => h.left d fun hx => hd (List.mem_cons_of_mem _ hx), fun d hd m hx => ?_⟩
  · by_cases e : d = c
    · rw [e, he, Bool.and_false, Bool.and_false]
    · simp [e]
  · rcases List.mem_cons.1 hd with rfl | hd
    · rw [h.left d hc, hb]
    · exact h.done d hd
  · rcases List.mem_cons.1 hd with rfl | hd
    · rw [hm] at hx
      cases hx
    · exact h.sent d hd m hx

/-- A lease that passes on, with the message that says so. -/
theorem LeasesTreated.hand (h : LeasesTreated s view ends becomes told treated u) (hc : c ∉ treated) (he : ends c = false)
    {f : ChannelRec → ChannelRec} (hb : becomes c = f (s.chan c)) {i : Instr} (hm : told c = [i]) :
    LeasesTreated s view ends becomes told (c :: treated) ((u.updChan c f).send i) := by
  have hchan : ∀ d, ((u.updChan c f).send i).chan d = if d = c then f (u.chan c) else u.chan d := fun d => updAt_get u.channels c d f
  have hold : ∀ m ∈ u.inFlight, m ∈ ((u.updChan c f).send i).inFlight := fun m hm => List.mem_append_left _ hm
  refine ⟨?frame, leasesEnded_congr h.ended (funext fun d => ?_) rfl rfl rfl rfl (fun d hd => ?_) hold, fun d hd => ?_, fun d hd => ?_,
    fun d hd m hx => ?_⟩
  case frame =>
    have := h.frame
    unfold State.send State.setInFlight State.updChan
    rw [this]
  · by_cases e : d = c
    · rw [e, he, Bool.and_false, Bool.and_false]
    · simp [e]
  · rw [hchan, if_neg]
    rintro rfl
    simp [hc] at hd
  · rw [hchan]
    by_cases e : d = c
    · rw [if_pos e, h.left c hc, e, hb]
    · rw [if_neg e]
      exact h.done d ((List.mem_cons.1 hd).resolve_left e)
  · rw [hchan, if_neg (show ¬ d = c by rintro rfl; exact hd List.mem_cons_self)]
    exact h.left d fun hx => hd (List.mem_cons_of_mem _ hx)
  · rcases List.mem_cons.1 hd with rfl | hd
    · rw [hm] at hx
      rw [List.mem_singleton.1 hx]
      exact List.mem_append_right _ List.mem_cons_self
    · exact hold m (h.sent d hd m hx)

/-- The treatment of one lease after the other. -/
theorem LeasesTreated.foldl {f : State → Channel → State} {l : List Channel}
    (step : ∀ u done c, c ∈ l → c ∉ done → LeasesTreated s view ends becomes told done u →
      LeasesTreated s view ends becomes told (c :: done) (f u c))
    (hn : (l.reverse ++ treated).Nodup) (h : LeasesTreated s view ends becomes told treated u) :
    LeasesTreated s view ends becomes told (l.reverse ++ treated) (l.foldl f u) := by
  induction l generalizing u treated with
  | nil => exact h
  | cons c rest ih =>
    rw [List.reverse_cons, List.append_assoc] at hn ⊢
    have hc : c ∉ treated := (List.nodup_cons.1 (List.nodup_append.1 hn).2.1).1
    exact ih (fun u done d hd => step u done d (List.mem_cons_of_mem _ hd)) hn (step u treated c List.mem_cons_self hc h)

end

/-! ### A lapse claim and a CLOSE claim -/

/-- The record of a channel of a lapsing port (R40). -/
def lapsedRec (s : State) (p : Port) (c : Channel) : ChannelRec :=
  if lapseEnds s p c then freed (s.chan c)
  else match (s.chan c).lease.bind (·.orphan) with
    | some (.HAND q) => { s.chan c with lease := (s.chan c).lease.map fun l =>
        { l with holder := .port q (s.viewOf q).epoch, orphan := some .DROP } }
    | _ => s.chan c

/-- The notice of a lease that passes on (R40). -/
def lapseTold (s : State) (p : Port) (c : Channel) : List Instr :=
  if lapseEnds s p c then []
  else match (s.chan c).lease.bind (·.orphan) with
    | some (.HAND q) => [.noticeCopyTaken .leaseManager q ⟨.LEASE_HANDED, .channel c, none, some (.port p)⟩]
    | _ => []

/-- The port view after a lapse claim. -/
def lapsedView (s : State) (p : Port) : Vector PortView 4 := updAt s.portView p fun v => { v with standing := .LAPSED }

/-- The standing of a port in the view after a lapse claim. -/
theorem lapsedView_live (s : State) (p q : Port) :
    (lapsedView s p)[q].standing = .LIVE ↔ q ≠ p ∧ (s.viewOf q).standing = .LIVE := by
  rw [lapsedView, updAt_get]
  by_cases e : q = p
  · simp [e]
  · simp [e, State.viewOf]

/-- The port that holds a channel holds it under an epoch. -/
theorem State.holder_of_holderPort {s : State} {c : Channel} {p : Port} (h : s.holderPort c = some p) :
    ∃ e, s.holder c = some (.port p e) := by
  unfold State.holderPort at h
  split at h
  next q e hq =>
    cases h
    exact ⟨e, hq⟩
  all_goals cases h

/-- The lease of a channel that the lapsing port holds is treated by its orphan policy (R40). -/
theorem LeasesTreated.lapse {s u : State} {p : Port} {treated : List Channel} {c : Channel} (hp : s.holderPort c = some p)
    (hc : c ∉ treated) (h : LeasesTreated s (lapsedView s p) (lapseEnds s p) (lapsedRec s p) (lapseTold s p) treated u) :
    LeasesTreated s (lapsedView s p) (lapseEnds s p) (lapsedRec s p) (lapseTold s p) (c :: treated) (u.lapseLease p c) := by
  have hu := h.left c hc
  have hview : u.portView = lapsedView s p := by rw [h.frame]
  obtain ⟨e, hholder⟩ := State.holder_of_holderPort hp
  have hends : lapseEnds s p c = match (s.chan c).lease.bind (·.orphan) with
      | some .KEEP => false
      | some (.HAND x) => decide (x = p) || decide ((s.viewOf x).standing ≠ .LIVE)
      | _ => true := by
    unfold lapseEnds
    rw [hholder]
    rcases (s.chan c).lease.bind (·.orphan) with _ | _ | _ | x <;> simp
  unfold State.lapseLease
  rw [hu]
  have hended : lapseEnds s p c = true → LeasesTreated s (lapsedView s p) (lapseEnds s p) (lapsedRec s p) (lapseTold s p) (c :: treated)
      (u.endLease c false true) := fun he =>
    h.endLease hc he (by rw [lapsedRec, if_pos he]) (by rw [lapseTold, if_pos he])
  rcases ho : (s.chan c).lease.bind (·.orphan) with _ | _ | _ | q <;> rw [ho] at hends
  · exact hended hends
  · exact h.keep hc hends (by rw [lapsedRec, if_neg (by simp [hends]), ho]) (by rw [lapseTold, if_neg (by simp [hends]), ho])
  · exact hended hends
  · have hlive : (u.viewOf q).standing = .LIVE ↔ q ≠ p ∧ (s.viewOf q).standing = .LIVE := by
      rw [State.viewOf, hview]
      exact lapsedView_live s p q
    by_cases hq : q ≠ p ∧ (s.viewOf q).standing = .LIVE
    · have hf : lapseEnds s p c = false := by rw [hends]; simp [hq.1, hq.2]
      have hepoch : (u.viewOf q).epoch = (s.viewOf q).epoch := by
        rw [State.viewOf, hview, lapsedView]
        exact congrArg PortView.epoch (updAt_ne s.portView p q _ hq.1)
      dsimp only
      rw [if_pos (hlive.2 hq), hepoch]
      exact h.hand hc hf (by rw [lapsedRec, if_neg (by simp [hf]), ho]) (by rw [lapseTold, if_neg (by simp [hf]), ho])
    · have hf : lapseEnds s p c = true := by
        rw [hends]
        simp only [Bool.or_eq_true, decide_eq_true_eq]
        tauto
      dsimp only
      rw [if_neg fun hx => hq (hlive.1 hx)]
      exact hended hf

/-- The channels that a port holds. -/
theorem State.mem_leasesOf (s : State) (p : Port) (c : Channel) : c ∈ s.leasesOf p ↔ s.holderPort c = some p := by
  simp [State.leasesOf]

/-- The leases of a port, each once. -/
theorem State.leasesOf_nodup (s : State) (p : Port) : ((s.leasesOf p).reverse ++ []).Nodup := by
  rw [List.append_nil]
  exact List.nodup_reverse.2 (channelsWhere_nodup _)

/-- Before a lease has been treated nothing has changed but the view and the messages. -/
theorem leasesTreated_nil {s u : State} {view : Vector PortView 4} (ends : Channel → Bool) (becomes : Channel → ChannelRec)
    (told : Channel → List Instr) (h : u = { s with portView := view, inFlight := u.inFlight }) :
    LeasesTreated s view ends becomes told [] u := by
  have hends : (fun c => decide (c ∈ ([] : List Channel)) && ends c) = fun _ => false := by simp
  refine ⟨by rw [h], ?_, fun c hc => (nomatch hc), fun c _ => by rw [h]; rfl, fun c hc => (nomatch hc)⟩
  rw [hends]
  exact leasesEnded_none (by rw [h]) (by rw [h]) (by rw [h]) (by rw [h])

/-- A lapse claim treats every lease of the port (R40). -/
theorem leasesTreated_lapse (s : State) (p : Port) :
    LeasesTreated s (lapsedView s p) (lapseEnds s p) (lapsedRec s p) (lapseTold s p) (s.leasesOf p).reverse
      ((s.arrive (.lapseClaim p)).takeLapseClaim p) := by
  have hall := (leasesTreated_nil (s := s) (u := (s.arrive (.lapseClaim p)).updView p fun v => { v with standing := .LAPSED })
    (lapseEnds s p) (lapsedRec s p) (lapseTold s p) rfl).foldl (f := fun s c => s.lapseLease p c) (l := s.leasesOf p)
    (fun u done c hc hn hd => hd.lapse ((s.mem_leasesOf p c).1 hc) hn) (s.leasesOf_nodup p)
  rwa [List.append_nil] at hall

/-- A CLOSE claim ends every lease of the port, and then changes the view and answers (R41). -/
theorem leasesTreated_close (s : State) (p : Port) :
    ∃ u, LeasesTreated s s.portView (closeEnds s p) (fun c => freed (s.chan c)) (fun _ => []) (s.leasesOf p).reverse u
      ∧ (s.arrive (.closeClaim p)).takeCloseClaim p
        = (u.updView p fun v => { v with standing := .DOWN }).respond p .OK [] := by
  have hall := (leasesTreated_nil (s := s) (u := s.arrive (.closeClaim p)) (closeEnds s p) (fun c => freed (s.chan c)) (fun _ => [])
    rfl).foldl (f := fun s c => s.endLease c false true) (l := s.leasesOf p)
    (fun u done c hc hn hd => hd.endLease hn (decide_eq_true ((s.mem_leasesOf p c).1 hc)) rfl rfl) (s.leasesOf_nodup p)
  rw [List.append_nil] at hall
  exact ⟨_, hall, rfl⟩

/-- Settles O24. -/
theorem lapseAndCloseClaims : Obligations.LapseAndCloseClaims := by
  intro p s
  refine ⟨fun h => ?lapse, fun h => ?close⟩
  case lapse =>
    have hx : exec (.lapseClaim p) s = .next ((s.arrive (.lapseClaim p)).takeLapseClaim p) := exec_claim rfl h
    have hall := leasesTreated_lapse s p
    have htreated : ∀ c, c ∈ (s.leasesOf p).reverse ↔ s.holderPort c = some p := fun c => by rw [List.mem_reverse, State.mem_leasesOf]
    generalize (s.arrive (.lapseClaim p)).takeLapseClaim p = u at hx hall
    refine ⟨u, hx, ?_⟩
    have hview : u.portView = lapsedView s p := by rw [hall.frame]
    have hframe := hall.frame
    rw [← hview] at hframe
    have hrec : ∀ c, s.holderPort c = some p → u.chan c = lapsedRec s p c := fun c hc => hall.done c ((htreated c).2 hc)
    refine ⟨hframe, ?_, fun q hq => ?_, leasesEnded_congr hall.ended (funext fun c => ?_) rfl rfl rfl rfl (fun _ _ => rfl) (fun _ => id),
      fun c => ⟨fun hc => hall.left c fun hx => hc ((htreated c).1 hx), fun l hc hl => ?_⟩⟩
    · rw [State.viewOf, hview]
      exact updAt_self s.portView p _
    · rw [State.viewOf, hview]
      exact updAt_ne s.portView p q _ hq
    · by_cases hc : s.holderPort c = some p
      · rw [decide_eq_true ((htreated c).2 hc), Bool.true_and]
      · rw [decide_eq_false fun hx => hc ((htreated c).1 hx), Bool.false_and]
        have hne : ∀ e, s.holder c ≠ some (.port p e) := fun e he => hc (by rw [State.holderPort, he])
        unfold lapseEnds
        rcases hh : s.holder c with _ | ⟨q, e⟩ | k
        · rfl
        · have hqp : q ≠ p := by
            rintro rfl
            exact hne e hh
          rcases (s.chan c).lease.bind (·.orphan) with _ | _ | _ | x <;> simp [hqp]
        · rfl
    · have horphan : (s.chan c).lease.bind (·.orphan) = l.orphan := by rw [hl]; rfl
      obtain ⟨e, hholder⟩ := State.holder_of_holderPort hc
      rw [hrec c hc, lapsedRec, horphan]
      refine ⟨fun ho => ?_, fun q ho hq hlive => ?_, fun ho hq => ?_⟩
      · have hf : lapseEnds s p c = false := by simp [lapseEnds, hholder, horphan, ho]
        rw [if_neg (by simp [hf]), ho]
      · have hf : lapseEnds s p c = false := by simp [lapseEnds, hholder, horphan, ho, hq, hlive]
        refine ⟨?_, hall.sent c ((htreated c).2 hc) _ ?_⟩
        · rw [if_neg (by simp [hf]), ho, hl]
          rfl
        · rw [lapseTold, if_neg (by simp [hf]), horphan, ho]
          exact List.mem_singleton_self _
      · have hf : lapseEnds s p c = true := by
          rcases hl' : l.orphan with _ | _ | _ | q
          · simp [lapseEnds, hholder, horphan, hl']
          · exact absurd hl' ho
          · simp [lapseEnds, hholder, horphan, hl']
          · have := hq q hl'
            simpa [lapseEnds, hholder, horphan, hl'] using this
        rw [if_pos hf]
  case close =>
    have hx : exec (.closeClaim p) s = .next ((s.arrive (.closeClaim p)).takeCloseClaim p) := exec_claim rfl h
    obtain ⟨u, hall, hu⟩ := leasesTreated_close s p
    rw [hu] at hx
    have htreated : ∀ c, c ∈ (s.leasesOf p).reverse ↔ s.holderPort c = some p := fun c => by rw [List.mem_reverse, State.mem_leasesOf]
    refine ⟨_, hx, ?_⟩
    have hview : u.portView = s.portView := by rw [hall.frame]
    refine ⟨?_, ?_, fun q hq => ?_, List.mem_append_right _ List.mem_cons_self,
      leasesEnded_congr hall.ended (funext fun c => ?_) rfl rfl rfl rfl (fun _ _ => rfl) (fun m hm => List.mem_append_left _ hm),
      fun c => ⟨fun hc => hall.done c ((htreated c).2 hc), fun hc => hall.left c fun hx => hc ((htreated c).1 hx)⟩⟩
    · have := hall.frame
      unfold State.respond State.send State.setInFlight State.updView
      rw [this]
    · refine (updAt_self u.portView p _).trans ?_
      rw [hview]
      rfl
    · refine (updAt_ne u.portView p q _ hq).trans ?_
      rw [hview]
      rfl
    · by_cases hc : s.holderPort c = some p
      · simp [closeEnds, hc, htreated]
      · simp [closeEnds, hc]

end Sys2Proof.Machine

/-! Which commands change the phase, the heat, a trip latch and a locked-out mark (R45, R106, R130). -/

namespace Sys2Proof.Machine

open Sys2Proof.Safety

/-! ### The locked-out mark of a channel stays -/

/-- The channel carries the locked-out mark. -/
def Locked (c : Channel) (s : State) : Prop := (s.chan c).lockedOut = true

namespace Locked

variable {c : Channel} {s : State}

/-- A change that leaves the channel records. -/
theorem same {u : State} (hu : u.channels = s.channels) (h : Locked c s) : Locked c u := by
  unfold Locked State.chan at h ⊢
  rwa [hu]

theorem send {m : Instr} (h : Locked c s) : Locked c (s.send m) := h
theorem respond {p : Port} {st : Status} {pl : List Byte} (h : Locked c s) : Locked c (s.respond p st pl) := h
theorem post {b : Block} {p : Port} {n : Notice} (h : Locked c s) : Locked c (s.post b p n) := h
theorem postHolder {b : Block} {d : Channel} {n : Notice} (h : Locked c s) : Locked c (s.postHolder b d n) := h.same (by simp)

/-- A change of a channel record that keeps its mark. -/
theorem updChan {d : Channel} {f : ChannelRec → ChannelRec} (hf : ∀ r, r.lockedOut = true → (f r).lockedOut = true) (h : Locked c s) :
    Locked c (s.updChan d f) := by
  unfold Locked at h ⊢
  rw [State.updChan_get]
  split
  next e => exact hf _ (e ▸ h)
  next => exact h

/-- A channel that leaves its state for a record that keeps the mark. -/
theorem goneTo {d : Channel} {new : ChannelRec} {abort : Bool} (hn : (s.chan d).lockedOut = true → new.lockedOut = true)
    (h : Locked c s) : Locked c (Safety.goneTo s d new abort) := by
  have hchan : (Safety.goneTo s d new abort).chan c = if c = d then new else s.chan c := updAt_get s.channels d c _
  unfold Locked at h ⊢
  rw [hchan]
  split
  next e => exact hn (e ▸ h)
  next => exact h

theorem leaveFor {d : Channel} {st : ChanState} {abort : Bool} {f : ChannelRec → ChannelRec} (ht : ∀ r, (f r).trunk = r.trunk)
    (hf : ∀ r, r.lockedOut = true → (f r).lockedOut = true) (h : Locked c s) : Locked c (s.leaveFor d st abort f) := by
  rw [State.leaveFor_eq _ _ _ _ _ (ht _)]
  exact h.goneTo fun hl => hf _ hl

theorem endLease {d : Channel} {own abort : Bool} (h : Locked c s) : Locked c (s.endLease d own abort) := by
  rw [State.endLease_goneTo]
  exact same (s := Safety.goneTo s d (freed (s.chan d)) abort) rfl (h.goneTo fun hl => hl)

theorem takeFault {d : Channel} {cause : FaultCause} {abort : Bool} (h : Locked c s) : Locked c (s.takeFault d cause abort) := by
  rw [State.takeFault_eq]
  unfold faulted
  dsimp only
  split
  · refine postHolder (h.goneTo fun hl => hl)
  · have hu : Locked c (Safety.goneTo s d { freed (s.chan d) with faultCount := Config.lockoutFaults, lockedOut := true } abort) :=
      h.goneTo fun _ => rfl
    split
    · exact post (hu.same rfl)
    · exact hu.same rfl

/-- Changes of channel records, one after the other. -/
theorem foldl {α : Type} {f : State → α → State} {l : List α} (hf : ∀ u a, Locked c u → Locked c (f u a)) (h : Locked c s) :
    Locked c (l.foldl f s) := foldl_inv hf h

/-! ### Requests and claims at the Lease Manager -/

theorem leaseRequest {p : Port} {ch : Byte} {k : Channel → State} (h : Locked c s) (hk : ∀ d, Locked c (k d)) :
    Locked c (s.leaseRequest p ch k) := by
  unfold State.leaseRequest
  repeat' split
  · exact h
  · exact h
  · exact hk _

theorem holderRequest {p : Port} {ch : Byte} {k : Channel → State} (h : Locked c s) (hk : ∀ d, Locked c (k d)) :
    Locked c (s.holderRequest p ch k) := by
  refine leaseRequest h fun d => ?_
  repeat' split
  · exact h
  · exact hk d
  · exact h

theorem takeClaim {p : Port} {ch : Byte} {cur : BitVec 16} {prio policy successor wait : Byte} (h : Locked c s) :
    Locked c (s.takeClaim p ch cur prio policy successor wait) := by
  refine leaseRequest h fun d => ?_
  repeat' split
  case isFalse.isFalse.isFalse.isFalse => exact respond (h.updChan fun _ => id)
  all_goals exact h

theorem takeAdopt {p : Port} {ch : Byte} (h : Locked c s) : Locked c (s.takeAdopt p ch) := by
  refine leaseRequest h fun d => ?_
  repeat' split
  · exact h
  · exact h
  · exact respond (post (h.updChan fun _ => id))

theorem toIdle {d : Channel} {abort : Bool} (h : Locked c s) : Locked c (s.leaveFor d .IDLE abort id) :=
  h.leaveFor (fun _ => rfl) fun _ => id

theorem takeDeEnergize {p : Port} {ch : Byte} (h : Locked c s) : Locked c (s.takeDeEnergize p ch) := by
  refine holderRequest h fun d => ?_
  split
  · exact h
  · exact h
  · exact respond h.toIdle

theorem takeClearFault {p : Port} {ch : Byte} (h : Locked c s) : Locked c (s.takeClearFault p ch) := by
  refine holderRequest h fun d => ?_
  split
  · exact respond h.toIdle
  · exact h

theorem takeRestate {p : Port} {ch : Byte} {cur : BitVec 16} (h : Locked c s) : Locked c (s.takeRestate p ch cur) := by
  refine leaseRequest h fun _ => ?_
  split
  · exact h
  · refine holderRequest h fun d => ?_
    have hd : ∀ mA, Locked c (s.setDeclared d mA) := fun mA => h.updChan fun _ => id
    split
    · exact hd _
    · exact hd _
    · exact hd _
    · dsimp only
      split
      · exact hd _
      · exact hd _
    · exact send (h.updChan fun _ => id)
    · exact h

theorem takeOpenClaim {p : Port} {epoch : BitVec 16} (h : Locked c s) : Locked c (s.takeOpenClaim p epoch) := by
  unfold State.takeOpenClaim
  dsimp only
  refine respond (same (s := List.foldl _ _ _) rfl (foldl (fun u d hu => ?_) h))
  exact hu.updChan fun _ => id

theorem lapseLease {p : Port} {d : Channel} (h : Locked c s) : Locked c (s.lapseLease p d) := by
  unfold State.lapseLease
  repeat' split
  · exact h
  · exact post (h.updChan fun _ => id)
  · exact h.endLease
  · exact h.endLease

theorem takeLapseClaim {p : Port} (h : Locked c s) : Locked c (s.takeLapseClaim p) :=
  foldl (fun _ _ hu => hu.lapseLease) (h.same rfl)

theorem takeCloseClaim {p : Port} (h : Locked c s) : Locked c (s.takeCloseClaim p) :=
  (h.foldl fun _ _ hu => hu.endLease : Locked c _)

theorem takeChannelProfile {o : Origin} {d : Channel} {new : ChannelProfile} (h : Locked c s) :
    Locked c (s.takeChannelProfile o d new) := by
  unfold State.takeChannelProfile
  split
  · split
    · exact respond (h.updChan fun _ => id)
    · exact h
  · split
    · have hu : Locked c ((s.updConfig fun g => { g with channelProfiles := updAt g.channelProfiles d fun _ => new }).updChan d
          fun r => { r with trunk := new.trunk }) :=
        updChan (s := s.updConfig fun g => { g with channelProfiles := updAt g.channelProfiles d fun _ => new }) (fun _ => id) h
      dsimp only
      split
      · exact hu
      · exact hu
    · exact h

/-- A lockout release of another channel. -/
theorem takeLockoutRelease {d : Channel} (hd : d ≠ c) (h : Locked c s) : Locked c (s.takeLockoutRelease d) := by
  unfold State.takeLockoutRelease
  split
  · refine send (send ?_)
    unfold Locked at h ⊢
    rwa [State.updChan_ne _ _ _ _ (Ne.symm hd)]
  · exact h

theorem takeQueueEntry {d : Channel} {found : Found} (h : Locked c s) : Locked c (s.takeQueueEntry d found) := by
  unfold State.takeQueueEntry
  split
  · split
    · exact same (s := s.updChan d fun r => { r with state := .QUEUED, shedCause := none }) rfl (h.updChan fun _ => id)
    · exact h
  · exact h

theorem takeWithhold {d : Channel} {found : Found} (h : Locked c s) : Locked c (s.takeWithhold d found) := by
  unfold State.takeWithhold
  split
  · exact send (h.updChan fun _ => id)
  · exact h

theorem takeAdmit {t : Trunk} {d : Channel} {found : Found} {stamp : BitVec 32} {need : Nat} (h : Locked c s) :
    Locked c (s.takeAdmit t d found stamp need) := by
  have hset : Locked c (if found = .QUEUED then s.updPass t fun x => x.settle d else s) := by
    split <;> exact h
  have hchan : ∀ v, Locked c v → Locked c (v.updChan d fun r => r.admitted (s.staged d) stamp) := fun v hv => hv.updChan fun _ => id
  unfold State.takeAdmit
  dsimp only
  split
  · refine send ?_
    have hleft : ∀ v, Locked c v → Locked c (if found = .QUEUED then v.leaveQueue d else v) := fun v hv => by
      split
      · exact hv.same (by simp)
      · exact hv
    split
    · exact send (hleft _ (hchan _ hset))
    · exact hleft _ (hchan _ hset)
  · exact send (hset.same (by simp))

theorem takeWaitExpiry {d : Channel} (h : Locked c s) : Locked c (s.takeWaitExpiry d) := by
  unfold State.takeWaitExpiry
  split
  · exact postHolder h.toIdle
  · exact h

theorem takeFlush {d : Channel} {heat : Nat} (h : Locked c s) : Locked c (s.takeFlush d heat) := by
  unfold State.takeFlush
  split
  · have hu : Locked c (((s.leaveQueue d).updChan d fun r => { r with state := .IDLE })) :=
      updChan (s := s.leaveQueue d) (fun _ => id) (h.same (by simp))
    dsimp only
    split
    · exact same (by simp) hu
    · exact postHolder hu
  · exact h

theorem takeAdvance {d : Channel} (h : Locked c s) : Locked c (s.takeAdvance d) := by
  unfold State.takeAdvance
  split
  · exact send (h.updChan fun _ => id)
  · exact h

theorem takeCompletion {d : Channel} (h : Locked c s) : Locked c (s.takeCompletion d) := by
  unfold State.takeCompletion
  split
  · exact send (same (s := s.updChan d fun r => { r with state := .ON, onStable := some Config.onStable }) (by simp)
      (h.updChan fun _ => id))
  · exact h

theorem takeFailure {d : Channel} {cause : FaultCause} (h : Locked c s) : Locked c (s.takeFailure d cause) := by
  unfold State.takeFailure
  split
  · exact send h.takeFault
  · exact h

theorem toShed {d : Channel} {cause : ShedCause} (h : Locked c s) :
    Locked c (s.leaveFor d .SHED true fun r => { r with shedCause := some cause }) := h.leaveFor (fun _ => rfl) fun _ => id

theorem takeShed {t : Trunk} {d : Channel} (h : Locked c s) : Locked c (s.takeShed t d) := by
  unfold State.takeShed
  split
  · exact send h.toShed
  · exact h

theorem takeTrip {t : Trunk} {d : Channel} {heat : Nat} {conf : Bool} (h : Locked c s) : Locked c (s.takeTrip t d heat conf) := by
  unfold State.takeTrip
  split
  · exact send h.toShed
  · exact h

theorem takeShort {d : Channel} (h : Locked c s) : Locked c (s.takeShort d) := by
  have hj : Locked c (if isDriven (s.chan d).state then s.takeFault d .SHORT true else s) := by
    split
    · exact h.takeFault
    · exact h
  exact hj.same rfl

theorem takeLineClaim {l : Line} {d : Channel} {cur prio : Nat} (h : Locked c s) : Locked c (s.takeLineClaim l d cur prio) := by
  unfold State.takeLineClaim
  split
  · exact send (h.updChan fun _ => id)
  · exact h

theorem takeLineRelease {l : Line} {d : Channel} (h : Locked c s) : Locked c (s.takeLineRelease l d) := by
  unfold State.takeLineRelease
  split
  · exact send h.endLease
  · exact h

theorem takeInhibit {l : Line} {d : Channel} (h : Locked c s) : Locked c (s.takeInhibit l d) := by
  unfold State.takeInhibit
  split
  · exact postHolder (h.leaveFor (fun _ => rfl) fun _ => id)
  · exact h

theorem takeResume {d : Channel} (h : Locked c s) : Locked c (s.takeResume d) := by
  unfold State.takeResume
  split
  · dsimp only
    split
    · exact send h.toIdle
    · exact h.toIdle
  · exact h

/-- What the Lease Manager takes clears the mark of no channel but in a lockout release of it (R45). -/
theorem leaseTake {i : Instr} (hi : i ≠ .lockoutReleaseClaim c) (h : Locked c s) : Locked c (Machine.leaseTake i s) := by
  cases i
  case claim => exact h.takeClaim
  case release => exact holderRequest h fun _ => respond h.endLease
  case adopt => exact h.takeAdopt
  case deEnergize => exact h.takeDeEnergize
  case clearFault => exact h.takeClearFault
  case restate => exact h.takeRestate
  case readChannel => exact h.same (by simp [Machine.leaseTake])
  case openClaim => exact h.takeOpenClaim
  case lapseClaim => exact h.takeLapseClaim
  case closeClaim => exact h.takeCloseClaim
  case channelProfileClaim => exact h.takeChannelProfile
  case lockoutReleaseClaim d => exact h.takeLockoutRelease fun e => hi (by rw [e])
  case shedClaim => exact h.takeShed
  case tripClaim => exact h.takeTrip
  case queueEntryClaim => exact h.takeQueueEntry
  case withholdClaim => exact h.takeWithhold
  case admitClaim => exact h.takeAdmit
  case waitExpiryClaim => exact h.takeWaitExpiry
  case flushClaim => exact h.takeFlush
  case advanceClaim => exact h.takeAdvance
  case completionClaim => exact h.takeCompletion
  case prechargeFailureClaim => exact h.takeFailure
  case shortDetectionTaken => exact h.takeShort
  case lineClaim => exact h.takeLineClaim
  case lineRelease => exact h.takeLineRelease
  case inhibitClaim => exact h.takeInhibit
  case resumeClaim => exact h.takeResume
  all_goals exact h

end Locked
end Sys2Proof.Machine

/-! Which commands change the phase, the heat, a trip latch and a locked-out mark: the settling statement (R2, R45, R106, R130). -/

namespace Sys2Proof.Machine

open Sys2Proof.Safety

/-! ### The locked-out mark passes every command but a lockout release claim -/

/-- The channel carries the locked-out mark and no lockout release claim for it is held back. -/
def StaysLocked (c : Channel) (s : State) : Prop := Locked c s ∧ .lockoutReleaseClaim c ∉ s.heldBack

namespace StaysLocked

variable {c : Channel} {s : State}

/-- A change that leaves the channel records and what is held back. -/
theorem same (u : State) (hc : u.channels = s.channels) (hb : u.heldBack = s.heldBack) (h : StaysLocked c s) : StaysLocked c u :=
  ⟨h.1.same hc, hb ▸ h.2⟩

theorem inFlight (u : State) (l : List Instr) (h : StaysLocked c u) : StaysLocked c (u.setInFlight l) := h
theorem run (u : State) (t : Trunk) (r : Option Run) (h : StaysLocked c u) : StaysLocked c (u.setRun t r) := h
theorem port (u : State) (p : Port) (f : PortRec → PortRec) (h : StaysLocked c u) : StaysLocked c (u.updPort p f) := h

theorem updChan {d : Channel} {f : ChannelRec → ChannelRec} (hf : ∀ r, r.lockedOut = true → (f r).lockedOut = true)
    (h : StaysLocked c s) : StaysLocked c (s.updChan d f) := ⟨h.1.updChan hf, h.2⟩

theorem taking {m : Instr} {f : State → State} (h : StaysLocked c s) (hf : ∀ u, StaysLocked c u → StaysLocked c (f u)) :
    StaysLocked c (s.taking m f) := State.taking_inv inFlight h hf

/-- A change that leaves the channel records and what is held back, behind the taking of a message. -/
theorem takingSame {m : Instr} {f : State → State} (hc : ∀ u, (f u).channels = u.channels) (hb : ∀ u, (f u).heldBack = u.heldBack)
    (h : StaysLocked c s) : StaysLocked c (s.taking m f) := h.taking fun u hu => hu.same _ (hc u) (hb u)

theorem finish {p : Port} {st : Status} {pl : List Byte} (h : StaysLocked c s) : StaysLocked c (s.finish p st pl) :=
  State.finish_inv port h

/-- What the Lease Manager takes clears no mark but that of a lockout release, and holds nothing back. -/
theorem leaseTake {i : Instr} (hi : i ≠ .lockoutReleaseClaim c) (h : StaysLocked c s) : StaysLocked c (Machine.leaseTake i s) :=
  ⟨h.1.leaseTake hi, by simpa using h.2⟩

theorem settle {i : Instr} (h : StaysLocked c s) : StaysLocked c (s.settleCompletions i) := h.same _ (by simp) (by simp)

/-- Another claim or request than the lockout release is held back. -/
theorem holdBack {i : Instr} (hi : i ≠ .lockoutReleaseClaim c) (h : StaysLocked c s) :
    StaysLocked c (s.setHeldBack (s.heldBack ++ [i])) := by
  refine ⟨h.1, fun hmem => ?_⟩
  rcases List.mem_append.1 hmem with hin | hin
  · exact h.2 hin
  · exact hi (List.mem_singleton.1 hin).symm

/-- The gate of the Lease Manager, for anything but the lockout release. -/
theorem gate {i : Instr} (hi : i ≠ .lockoutReleaseClaim c) (h : StaysLocked c s) :
    StaysLocked c (s.atLeaseManager i (Machine.leaseTake i)) := by
  unfold State.atLeaseManager
  split
  · exact h.holdBack hi
  · exact h.settle.leaseTake hi

theorem releaseOne {i : Instr} (hi : i ≠ .lockoutReleaseClaim c) (h : StaysLocked c s) : StaysLocked c (s.releaseOne i) := by
  unfold State.releaseOne
  split
  · exact h.holdBack hi
  · exact h.settle.leaseTake hi

theorem releaseAll {l : List Instr} (hl : .lockoutReleaseClaim c ∉ l) (h : StaysLocked c s) :
    StaysLocked c (l.foldl State.releaseOne s) := by
  induction l generalizing s with
  | nil => exact h
  | cons i l ih => exact ih (fun hin => hl (.tail _ hin)) (h.releaseOne fun hi => hl (hi ▸ .head _))

theorem releaseHeldBack (h : StaysLocked c s) : StaysLocked c s.releaseHeldBack :=
  releaseAll (s := s.setHeldBack []) h.2 ⟨h.1, List.not_mem_nil⟩

theorem energizeTake {i : Instr} (h : StaysLocked c s) : StaysLocked c (Machine.energizeTake i s) := h.same _ (by simp) (by simp)

theorem admissionSettled (h : StaysLocked c s) : StaysLocked c s.admissionSettled :=
  foldl_inv (s := s.releaseHeldBack.setWaiting []) (fun _ _ hu => hu.energizeTake) h.releaseHeldBack

/-! ### The answers that end an admission -/

theorem takePassAnswer {t : Trunk} {d : Channel} {need : Nat} {why : Option AdmissionRefusal} (h : StaysLocked c s) :
    StaysLocked c (s.takePassAnswer t d need why) := by
  unfold State.takePassAnswer
  repeat' split
  · exact h.same _ (by simp) (by simp)
  · exact admissionSettled (h.same _ (by simp) (by simp))
  · exact h
  · exact h

theorem takeEntryAnswer {d : Channel} {left : ChanState} {ahead : Option Nat} (h : StaysLocked c s) :
    StaysLocked c (s.takeEntryAnswer d left ahead) := by
  unfold State.takeEntryAnswer
  repeat' split
  · exact admissionSettled (h.same _ (by simp) (by simp))
  · exact admissionSettled (h.same _ (by simp) (by simp))
  · exact h

theorem takeWithholdAnswer {d : Channel} {left : ChanState} {taken : Bool} (h : StaysLocked c s) :
    StaysLocked c (s.takeWithholdAnswer d left taken) := by
  unfold State.takeWithholdAnswer
  split
  · exact admissionSettled (h.same _ (by simp) (by simp))
  · exact h

theorem takeAdmitAnswer {t : Trunk} {d : Channel} {found : Found} {need : Nat} {left : ChanState} {taken : Bool}
    (h : StaysLocked c s) : StaysLocked c (s.takeAdmitAnswer t d found need left taken) := by
  unfold State.takeAdmitAnswer
  split
  · split
    · split
      · cases taken <;> exact admissionSettled (h.same _ (by simp) (by simp))
      · exact h
    · exact h
  · split
    · cases taken <;> exact admissionSettled (h.same _ (by simp) (by simp))
    · exact h

/-! ### Requests of a host port -/

theorem drainReports {p : Port} (h : StaysLocked c s) : StaysLocked c (s.drainReports p) := h.same _ (by simp) (by simp)

/-- The owner of a direct write carries it out. -/
theorem writeTake {i : Instr} (h : StaysLocked c s) : StaysLocked c (Machine.writeTake i s) := by
  unfold Machine.writeTake
  split
  · exact h.same _ (by simp) (by simp)
  · exact h.gate (by simp)
  · exact h.same _ (by simp) (by simp)
  · exact h

theorem takeCloseCommissioning {p : Port} (h : StaysLocked c s) : StaysLocked c (s.takeCloseCommissioning p) := by
  unfold State.takeCloseCommissioning
  split
  · exact h
  · have hw : StaysLocked c s.carryOutWrites := State.carryOutWrites_inv inFlight h fun _ _ hu => hu.writeTake
    unfold State.closePhase
    split
    · exact hw
    · exact hw

/-- The owner's part of a request keeps the mark. -/
theorem ownerPart {i : Instr} (hi : i ≠ .lockoutReleaseClaim c) (h : StaysLocked c s) : StaysLocked c (Machine.ownerPart i s) := by
  cases i
  case openPort | closePort | readPort | readNotice | trunkClear | readTrunk | trunkProfileWrite | channelProfileWrite | lineBindingWrite |
    propose | concur | withdraw | readProposal =>
    exact h.same _ (by simp [Machine.ownerPart]) (by simp [Machine.ownerPart])
  case ping => exact h.finish
  case readIdent => exact h.finish
  case energize => exact h.energizeTake (i := .energize _ _)
  case closeCommissioning => exact h.drainReports.takeCloseCommissioning
  all_goals exact h.gate hi

/-- A frame decodes to a request, never to a claim of the Configuration Unit. -/
theorem decodeRequest_ne_lockoutRelease {r : Req} {code : Byte} {payload : List Byte} {i : Instr}
    (h : decodeRequest r code payload = some i) : i ≠ .lockoutReleaseClaim c := by
  rintro rfl
  unfold decodeRequest at h
  repeat' split at h
  all_goals simp_all

/-- A window keeps the mark. -/
theorem rawWindow {p : Port} {bytes : List Byte} (h : StaysLocked c s) : StaysLocked c (s.rawWindow p bytes) := by
  refine State.window_inv port h fun u hu => ?_
  unfold State.actOn
  split
  · exact hu
  · exact hu
  · split
    · exact State.accept_inv port hu fun v hv => hv.finish
    · next hi => exact State.accept_inv port hu fun v hv => hv.ownerPart (decodeRequest_ne_lockoutRelease hi)

/-! ### Every command -/

/-- The expiry of the ON-stable timer sets a fault count to 0 and keeps the mark. -/
theorem onStableExpiry {d : Channel} (h : StaysLocked c s) : StaysLocked c
    (if (s.chan d).state = .ON ∧ (s.chan d).onStable.isSome then
      s.updChan d fun r => { r with faultCount := 0, onStable := none } else s) := by
  split
  · exact h.updChan fun _ => id
  · exact h

/-- Every command but NRST, power-on reset and a lockout release claim keeps the mark (R45). -/
theorem exec {i : Instr} {u : State} (hx : Machine.exec i s = .next u) (hon : i ≠ .powerOnReset) (hnrst : i ≠ .nrstReset)
    (hi : i ≠ .lockoutReleaseClaim c) (h : StaysLocked c s) : StaysLocked c u := by
  cases hw : windowOf i with
  | some x =>
    obtain ⟨p, bytes⟩ := x
    rw [exec_window hw] at hx
    cases hx
    exact h.rawWindow
  | none =>
    cases i
    case powerOnReset => exact absurd rfl hon
    case nrstReset => exact absurd rfl hnrst
    all_goals cases hx
    all_goals first | cases hw; done | skip
    case resetRelease.refl => split <;> exact h
    case onStableExpiry.refl => exact State.running_inv h fun _ => h.onStableExpiry
    case queueEntryAnswer.refl => exact h.taking fun _ hu => hu.takeEntryAnswer
    case withholdAnswer.refl => exact h.taking fun _ hu => hu.takeWithholdAnswer
    case admitClaimAnswer.refl => exact h.taking fun _ hu => hu.takeAdmitAnswer
    case passAdmissionAnswer.refl => exact h.taking fun _ hu => hu.takePassAnswer
    case admitClaim.refl => exact h.taking fun _ hu => (hu.gate hi).releaseHeldBack
    case restatedReservationAnswer.refl d _ =>
      refine h.taking fun u hu => ?_
      split
      · exact hu
      · have hcleared : StaysLocked c (u.updChan d fun r => { r with restating := none }) := hu.updChan fun _ => id
        refine releaseHeldBack ?_
        split
        · exact updChan (s := u.updChan d fun r => { r with restating := none }) (fun _ => id) hcleared
        · exact hcleared
    case completionLowering.refl =>
      refine h.taking fun u hu => ?_
      split <;> exact hu.same _ (by simp) (by simp)
    case rawLevelChange.refl => exact h
    case responseReady.refl | sessionReport.refl | applyAnswer.refl | trunkProfileClaim.refl | bindingClaim.refl |
      servicePhaseReport.refl | shedAnswer.refl | tripClaimAnswer.refl | admissionClaim.refl | returnClaim.refl |
      restatedReservation.refl | admissionConfirmation.refl | lineEnergize.refl | arrivalAdmissionAnswer.refl | serviceEvent.refl |
      removalClaim.refl | start.refl | advanceAnswer.refl | failureAnswer.refl | abort.refl | outputVoltageSample.refl |
      pulseCommand.refl | lineClaimAnswer.refl | lineEnergizeResponse.refl | freeReport.refl | lineLeaseEnded.refl |
      noticeCopyTaken.refl =>
      exact h.takingSame (by simp) (by simp)
    case completionAnswer.refl => exact h.taking fun _ hu => stagedTake_inv (m := .completionAnswer _ _) inFlight run hu
    case queueFlush.refl => exact h.taking fun _ hu => foldl_inv (fun _ _ hv => hv) hu
    case supervisionExpiry.refl | shedIntervalExpiry.refl | waitLimitExpiry.refl | debounceExpiry.refl =>
      refine State.running_inv h fun _ => ?_
      split
      · exact h.same _ (by simp) (by simp)
      · exact h
    case windowTimerExpiry.refl | budgetIntervalExpiry.refl | probePeriodExpiry.refl | fillPeriodExpiry.refl | fillTimerExpiry.refl |
      pulseEnd.refl | currentSample.refl | sampleInstant.refl | shortDetection.refl =>
      exact State.running_inv h fun _ => h.same _ (by simp) (by simp)
    all_goals exact h.taking fun _ hu => hu.gate hi

end StaysLocked

/-! ### The phase, the heat and the latch -/

/-- The phase SERVICE passes the commands: a change of the Configuration Unit's record never leaves it (R130). -/
theorem phase_passes : Passes fun v => v.config.phase = .SERVICE :=
  Passes.ofSession (fun _ hg _ _ h => by rwa [hg]) (fun _ h => h) (fun _ h => h) (fun _ hf h => hf h) (fun _ _ h => h)

/-- A property of one trunk record that the charges of the account do not look at passes the commands when the changes of a record
and the entry into a state keep it. -/
theorem Passes.ofTrunk (t : Trunk) {Q : TrunkRec → Prop}
    (keep : ∀ {r q : TrunkRec}, q.heat = r.heat → q.latch = r.latch → Q r → Q q)
    (enter : ∀ {s : State} {r : TrunkRec} {st : TrunkState}, Q r → Q (enteredTrunk s t r st))
    (derive : ∀ {r : TrunkRec}, Q r → Q { r with latch := decide (derivedState r.latch r.heat = .TRIPPED) }) :
    Passes fun v => Q (v.trunk t) := by
  have hupd : ∀ {s : State} {w : Trunk} {f : TrunkRec → TrunkRec}, (Q (s.trunk w) → Q (f (s.trunk w))) → Q (s.trunk t) →
      Q ((s.updTrunk w f).trunk t) := by
    intro s w f hf h
    rw [State.updTrunk_get]
    split
    · next e => exact hf (e ▸ h)
    · exact h
  have henter : ∀ {s : State} {w : Trunk} {st : TrunkState}, Q (s.trunk t) → Q ((s.enterState w st).trunk t) := by
    intro s w st h
    rw [State.enterState_trunk]
    split
    · next e => subst e; exact enter h
    · exact h
  refine Passes.ofBudget (fun ht _ h => by unfold State.trunk at h ⊢; rwa [ht]) (fun _ _ hh hl h => hupd (keep hh hl) h)
    (fun _ _ h => henter h) ?derive (fun {s} _ _ _ h => by rw [State.charge_trunk]; exact keep (r := s.trunk t) rfl rfl h) (fun _ _ h => h)
    (fun {s} _ h => by rw [State.returnCharge_trunk]; exact keep (r := s.trunk t) rfl rfl h)
  case derive =>
    intro s w new h
    have hu : Q ((s.updTrunk w fun r => { r with profile := some new }).trunk t) := hupd (keep rfl rfl) h
    rcases State.derive_cases (s.updTrunk w fun r => { r with profile := some new }) w with ⟨-, heq⟩ | heq <;> rw [heq]
    · exact hupd derive hu
    · exact henter hu

/-- The heat of a trunk passes the commands (R2). -/
theorem heat_passes (t : Trunk) (n : Nat) : Passes fun v => (v.trunk t).heat = n :=
  Passes.ofTrunk t (Q := fun r => r.heat = n) (fun hh _ h => hh.trans h) (fun h => by rwa [enteredTrunk_heat]) fun h => h

/-- A set trip latch passes the commands: with it a profile claim derives TRIPPED (R5, R106). -/
theorem latch_passes (t : Trunk) : Passes fun v => (v.trunk t).latch = true :=
  Passes.ofTrunk t (Q := fun r => r.latch = true) (fun _ hl h => hl.trans h) (fun h => by rw [enteredTrunk_latch, h, Bool.true_or])
    fun h => by simp [h, derivedState_latched]

/-- NRST keeps heat and trip latch (R2). -/
theorem trunk_nrst {s u : State} (hx : exec .nrstReset s = .next u) (t : Trunk) :
    (u.trunk t).heat = (s.trunk t).heat ∧ (u.trunk t).latch = (s.trunk t).latch := by
  cases hx
  simp [State.trunk, State.resetWith, TrunkRec.nrst]

/-- The phase leaves SERVICE only at a reset (R130). -/
theorem phase_kept {i : Instr} {s u : State} (hx : exec i s = .next u) (hon : i ≠ .powerOnReset) (hnrst : i ≠ .nrstReset)
    (h : s.config.phase = .SERVICE) : u.config.phase = .SERVICE :=
  phase_passes.exec hx h (fun hr => (hr.elim hon hnrst).elim) (fun _ _ _ hv => hv) fun _ _ _ _ hv => hv

/-- The heat of a trunk changes only at power-on reset and at its own budget interval expiry (R2, R8, R9). -/
theorem heat_kept {i : Instr} {s u : State} {t : Trunk} (hx : exec i s = .next u) (hon : i ≠ .powerOnReset)
    (hi : i ≠ .budgetIntervalExpiry t) : (u.trunk t).heat = (s.trunk t).heat := by
  refine (heat_passes t (s.trunk t).heat).exec hx rfl ?reset ?heat ?clear
  case reset =>
    rintro (hr | rfl)
    · exact absurd hr hon
    · exact (trunk_nrst hx t).1
  case heat =>
    rintro v w rfl hv
    have hne : t ≠ w := fun e => hi (by rw [e])
    rwa [State.heatStep_trunk, if_neg hne]
  case clear =>
    intro v w _ _ hv
    rw [State.updTrunk_get]
    split
    · next e => exact e ▸ hv
    · exact hv

/-- A set trip latch is cleared only at power-on reset and in a window that carries TRUNK CLEAR of its trunk (R106). -/
theorem latch_kept {i : Instr} {s u : State} {t : Trunk} (hx : exec i s = .next u) (hon : i ≠ .powerOnReset)
    (hi : ¬ carriesTrunkClear i t) (h : (s.trunk t).latch = true) : (u.trunk t).latch = true := by
  refine (latch_passes t).exec hx h ?reset ?heat ?clear
  case reset =>
    rintro (hr | rfl)
    · exact absurd hr hon
    · exact (trunk_nrst hx t).2.trans h
  case heat =>
    intro v w _ hv
    rw [State.heatStep_trunk]
    split
    · next e => exact e ▸ hv
    · exact hv
  case clear =>
    intro v w hw _ hv
    have hne : t ≠ w := fun e => hi (e ▸ hw)
    rwa [State.updTrunk_get, if_neg hne]

/-- Settles O57: the phase, the heat and the latch as properties that every change of a record passes, the locked-out mark by the
claims and requests that reach the channel records. -/
theorem onlyTheseChange : Obligations.OnlyTheseChange := by
  unfold Obligations.OnlyTheseChange
  intro i s u hx hon
  exact ⟨phase_kept hx hon, fun _ hi => heat_kept hx hon hi, fun _ hi hl => latch_kept hx hon hi hl,
    fun c hnrst hi hheld hl => (StaysLocked.exec hx hon hnrst hi ⟨hl, hheld⟩).1⟩

end Sys2Proof.Machine
